-- ==== Sys2Proof/Word.lean ====
section
/-!
DEFINITION. The word types of the GR-910 and the finite maps its state is written with.
00 R6: bit 0 is the least significant bit; memory is little-endian at every width.
-/

namespace Sys2Proof

/-- A 64-bit register or memory word (03: "Every value in this chapter is a 64-bit two's-complement integer"). -/
abbrev Word := BitVec 64

/-- A vector register, 1,024 bits (02 R54). -/
abbrev Vec := BitVec 1024

/-- A mask register, 128 bits (02 R54). -/
abbrev MaskWord := BitVec 128

/-- One byte of memory. -/
abbrev Byte := BitVec 8

/-- One instruction word (01 R33). -/
abbrev InstrWord := BitVec 32

/-- A finite map as plain data: pairs of a key and a value, keys rising, one pair a key. A key that is
not listed reads as the default its reader names. -/
abbrev FMap (α : Type) := List (Nat × α)

end Sys2Proof
end

