-- ==== Sys2Proof/Config.lean ====
section
/-!
DEFINITION. What the spec leaves to other standards or leaves open, as constants without a body: nothing in
Lean can evaluate them, so every statement about them holds whatever they are.
-/

namespace Sys2Proof

/-- ML-DSA-65 verification (01 R28, R29; FIPS 204): public key, message, signature (log 3). -/
opaque Config.mldsaVerify : List Byte → List Byte → List Byte → Bool

/-- ML-DSA-65 signature by the device identity key (18 R413; log 3). -/
opaque Config.deviceSign : List Byte → List Byte

/-- SHA3-384 (01 R29, 18 R412, R413; FIPS 202): 48 bytes (log 3). -/
opaque Config.sha3 : List Byte → List Byte

/-- The public key whose SHA3-384 digest is fused in the chip (18 R412; log 3). -/
opaque Config.bootKey : List Byte

/-- The 16 bytes that head a region in an attestation report, of its partition, origin, shape (rows, columns), program
identifier and generation: 18 R413 names the fields and not their places (log 30). -/
opaque Config.regionHeader : Nat → Nat → Nat × Nat → Nat → Nat → List Byte

/-- The message that the owner key signs for a change of a key slot: slot, identifier, key, and whether it revokes; 18 R412
gives it no layout (log 30). -/
opaque Config.keyChange : Nat → Nat → List Byte → Bool → List Byte

/-- Whether a fetch in a given clk, of the word at a given address, still returns the old word of a store that no
FENCE has yet followed (12 R289: "a fetch of that word returns the old word or the new one"; log 4). -/
opaque Config.fetchesOld : Nat → Word → Bool

/-- The cause code that a supervisor core's SYSC trap writes (03 R87 names one, 17 R379 lists none; log 5). -/
opaque Config.supervisorCallCode : Nat

/-- Generation and slot fields of the handle of a post that took no slot (07 R192 states none; log 21). -/
opaque Config.refusedGeneration : Nat → Nat
opaque Config.refusedSlot : Nat → Nat

end Sys2Proof
end

