-- ==== Sys2Proof/Syntax.lean ====
section
/-!
DEFINITION. The instructions and events of the GR-910, one constructor per row of spec/opcode_table.json.
Rows with an encoding are the Miold instructions (02 R46-R56); rows without one are the steps that the
other units of the chip take by themselves (95_what_each_step_holds.md).
-/

namespace Sys2Proof

/-- A 5-bit register field (01 R44). -/
abbrev Reg := BitVec 5

/-- A 3-bit token or mask field (01 R44). -/
abbrev Reg3 := BitVec 3

/-- Access size (02 R55). -/
inductive Size where
  | b | h | w | d | q
  deriving DecidableEq, Repr

/-- Scope of an access (02 R55). -/
inductive Scope where
  | core | cl | chip | sys
  deriving DecidableEq, Repr

/-- Memory order of an atomic (02 R55). -/
inductive Order where
  | rlx | acq | rel | ar
  deriving DecidableEq, Repr

/-- Element formats 0-12 (02 R55, 10 R248, R250). -/
inductive Fmt where
  | f32 | f16 | b16 | e5 | e4 | k3 | k2 | q2 | i8 | n8 | i4 | n4 | p1
  deriving DecidableEq, Repr

/-- Rounding modes 0-5 (02 R55, 10 R251). -/
inductive RMode where
  | rne | rna | rtz | rup | rdn | rod
  deriving DecidableEq, Repr

/-- Atomic operations 0-8 (02 R56). -/
inductive AmoOp where
  | add | and | or | xor | min | max | minu | maxu | swap
  deriving DecidableEq, Repr

/-- What a remote operation does at its target (05 R143). -/
inductive RemOp where
  | load | store | cas | amo (op : AmoOp) | copyRead | copyLeave | copyWrite | decode
  deriving DecidableEq, Repr

/-- A remote request as it reaches its target (05 R143, 15 R349, R354): eight bytes in `data`, or, for the parts of a
copy's round, `bytes` to write, `size` bytes to read, or leave to write them. -/
structure RemReq where
  srcChip : Nat
  srcPart : Nat
  srcInc  : Nat
  gen     : Nat
  core    : Nat
  tag     : Nat
  op      : RemOp
  addr    : Nat
  data    : Word
  cmp     : Word
  size    : Nat
  bytes   : List Byte
  deriving DecidableEq, Repr

/-- A reply or acknowledgement of a remote request (05 R143); status 0 is success, else R142's. -/
structure RemReply where
  core   : Nat
  tag    : Nat
  gen    : Nat
  value  : Word
  bytes  : List Byte
  status : Nat
  deriving DecidableEq, Repr

/-- A message header (15 R335, R338, R340): `sender` and `inc` are the sending chip and its incarnation, `part` the sending
partition; `refusals` counts how often it has been refused (15 R341). -/
structure MsgHeader where
  comm    : Nat
  src     : Nat
  dst     : Nat
  tag     : Nat
  len     : Nat
  number  : Nat
  sender  : Nat
  inc     : Nat
  part    : Nat
  cmd     : Nat
  payload : List Byte
  refusals : Nat
  deriving DecidableEq, Repr

/-- What a Strait flit of one kind carries, at most 64 bytes (15 R349); the queue or request tag that it names is its Target. A
`pullServe` is a pull's answer while it waits at its port: the `pullData` flits are formed from it. -/
inductive FlitBody where
  | item (queue : Nat) (words : List Word) (marker : Bool)
  | credit (queue : Nat)
  | request (r : RemReq)
  | reply (r : RemReply)
  | header (engine : Nat) (h : MsgHeader)
  | payload (engine cmd off : Nat) (bytes : List Byte)
  | refusal (engine : Nat) (h : MsgHeader)
  | pullAsk (h : MsgHeader) (off len : Nat) (last : Bool) (engine slot : Nat)
  | pullServe (h : MsgHeader) (off len : Nat) (last : Bool) (engine slot : Nat)
  | pullData (cmd engine slot status off : Nat) (bytes : List Byte)
  | journalRecord (jsn : Nat) (words : List Word)
  | journalTruncate (seq upto : Nat)
  | journalAck (jsn : Nat)
  | bindAsk (queue core port : Nat)
  | bindAnswer (queue core port : Nat) (ok : Bool) (attrs : List Nat)
  deriving DecidableEq, Repr

/-- A Strait flit (15 R349): its header, whose Kind and Target stand in the body. -/
structure StraitFlit where
  dstChip : Nat
  srcChip : Nat
  inc     : Nat
  part    : Nat
  cls     : Nat
  gen     : Nat
  chan    : Nat
  body    : FlitBody
  deriving DecidableEq, Repr

/-- A host transaction (18 R403): `kind` 1 read, 2 write, 3 push, 4 credit, 5 flush; `flagR` and `flagA` are Flags bits 1 and 0; `enables` are the byte
enables of a write; `data` the bytes of a write or the item of a push. -/
structure HostTx where
  client  : Nat
  relaxed : Bool
  kind    : Nat
  flagR   : Bool
  flagA   : Bool
  tag     : Nat
  inc     : Nat
  addr    : Nat
  queue   : Nat
  len     : Nat
  data    : List Byte
  enables : List Bool
  deriving DecidableEq, Repr

/-- One external consumer that a load request names (01 R23, 09 R217, 18 R408): a host client, or a queue of another chip by its chip
and identifier. -/
structure ExtConsumer where
  queue  : Nat
  index  : Nat
  client : Nat
  far    : Option (Nat × Nat)
  deriving DecidableEq, Repr

/-- A load or replacement request (01 R30, 08 R203). `words` is the container as 32-bit words;
`producers` pairs an entry queue's image number with a client it names; `windows` are the contents of
external windows; `slices` are the program's cluster-store allocations as cluster offset, first 64 KiB unit
and number of units (12 R282); `stack` is the cactus stack's size in 64 KiB units, 0 for the default of one (04 R118);
`qids` are the chip queue identifiers that Lemnani grants, one a queue record. `oldProg` and
`timeout` are read of a replacement request only. -/
structure LoadReq where
  words     : List InstrWord
  part      : Nat
  row0      : Nat
  col0      : Nat
  producers : List (Nat × Nat)
  consumers : List ExtConsumer
  windows   : List (Nat × List Byte)
  slices    : List (Nat × Nat × Nat)
  stack     : Nat
  qids      : List Nat
  oldProg   : Nat
  timeout   : Nat
  deriving DecidableEq, Repr

/-- The instructions and the events of the GR-910. -/
inductive Instr where
  -- 03 R72, R73: scalar register operations
  | add (d a b : Reg) | sub (d a b : Reg) | and (d a b : Reg) | or (d a b : Reg) | xor (d a b : Reg)
  | andn (d a b : Reg) | sll (d a b : Reg) | srl (d a b : Reg) | sra (d a b : Reg) | ror (d a b : Reg)
  | slt (d a b : Reg) | sltu (d a b : Reg) | min (d a b : Reg) | max (d a b : Reg)
  | minu (d a b : Reg) | maxu (d a b : Reg) | mul (d a b : Reg) | mulh (d a b : Reg)
  | mulhu (d a b : Reg) | div (d a b : Reg) | divu (d a b : Reg) | rem (d a b : Reg)
  | remu (d a b : Reg) | sh1add (d a b : Reg) | sh2add (d a b : Reg) | sh3add (d a b : Reg)
  | clz (d a : Reg) | ctz (d a : Reg) | popc (d a : Reg)
  -- 03 R74-R76: immediate forms
  | addi (d a : Reg) (imm : BitVec 15) | andi (d a : Reg) (imm : BitVec 15)
  | ori (d a : Reg) (imm : BitVec 15) | muli (d a : Reg) (imm : BitVec 15)
  | xori (d a : Reg) (imm : BitVec 15) | slti (d a : Reg) (imm : BitVec 15)
  | sltiu (d a : Reg) (imm : BitVec 15)
  | slli (d a : Reg) (sh : BitVec 6) | srli (d a : Reg) (sh : BitVec 6)
  | srai (d a : Reg) (sh : BitVec 6) | rori (d a : Reg) (sh : BitVec 6)
  | lui (d : Reg) (imm : BitVec 20) | addpc (d : Reg) (imm : BitVec 20) | luh (d : Reg) (imm : BitVec 20)
  -- 03 R79-R81: control transfers
  | beq (a b : Reg) (off : BitVec 15) | bne (a b : Reg) (off : BitVec 15)
  | blt (a b : Reg) (off : BitVec 15) | bge (a b : Reg) (off : BitVec 15)
  | bltu (a b : Reg) (off : BitVec 15) | bgeu (a b : Reg) (off : BitVec 15)
  | j (off : BitVec 25) | jl (off : BitVec 25) | jlr (d a : Reg) (imm : BitVec 15)
  -- 03 R82-R89: system
  | endA | sysc | brk | eret | yrd (d : Reg) (num : BitVec 12) | ywr (a : Reg) (num : BitVec 12)
  -- 05 R131-R134: memory
  | ld (d base : Reg) (sz : Size) (off : BitVec 10) | ldz (d base : Reg) (sz : Size) (off : BitVec 10)
  | st (s base : Reg) (sz : Size) (off : BitVec 10)
  | ldaq (d base : Reg) (sz : Size) (sc : Scope) (off : BitVec 10)
  | strl (s base : Reg) (sz : Size) (sc : Scope) (off : BitVec 10)
  | ldx (d a b : Reg) (sz : Size) (sh : BitVec 2) | stx (d a b : Reg) (sz : Size) (sh : BitVec 2)
  | pref (a b : Reg) (sh : BitVec 2) | pld (d a : Reg) (sz : Size) (win : BitVec 4)
  | fence (kinds : BitVec 4) (sc : Scope) | fencee (kinds : BitVec 4) (sc : Scope)
  -- 05 R136-R140: atomics
  | amo (op : AmoOp) (d a b : Reg) (sz : Size) (sc : Scope) (o : Order)
  | cas (d a b : Reg) (sz : Size) (sc : Scope) (o : Order)
  | casq (d a b : Reg) (sc : Scope) (o : Order)
  | famo (half : Bool) (d a b : Reg) (sc : Scope) (o : Order)
  -- 04 R105-R110: queues
  | qpush (p b : Reg) | qpushNb (d p b : Reg) | qpop (d p : Reg) | qtry (d p b : Reg)
  | qpeek (d p b : Reg) | qbindIn (p b : Reg) | qbindOut (p b : Reg) | qunb (p : Reg)
  | qcnt (d p : Reg) | qattr (d p b : Reg) | qmark (p : Reg)
  -- 04 R111-R119: activations
  | act (d a b : Reg) | forkStall (d a b : Reg) | forkInline (d a b : Reg) | forkBusy (d a b : Reg)
  | sync | spawn (d a b : Reg) | crew (d a b : Reg) | yield | prio (a : Reg)
  -- 04 R120-R124: barriers, rings, tokens
  | bar (a : Reg) | bara (a : Reg) | barw (a : Reg) | binit (a b : Reg)
  | rset (hd a b : Reg) | radvw (hr b : Reg) | radvr (hr b : Reg) | rwaitf (hr b : Reg)
  | rwaite (hr b : Reg) | rposW (d hr : Reg) | rposR (d hr : Reg) | twait (a : Reg) | tpoll (d a : Reg)
  -- 05 R143-R154: copies and remote operations
  | cpy (a b : Reg) (k : Reg3) | cpy2 (a b : Reg) (k : Reg3) | cpyi (a b : Reg) (k : Reg3)
  | cpys (a hr : Reg) (k : Reg3) | cfill (a b : Reg) (k : Reg3) | carm (a b : Reg) (k : Reg3)
  | cdis (a : Reg)
  | rld (d a : Reg) (k o : Reg3) | rst (a b : Reg) (k o : Reg3) | rcas (d a b : Reg) (k o : Reg3)
  | ramo (op : AmoOp) (d a b : Reg) (k o : Reg3)
  -- 06 R160-R174: vectors
  | vadd (vd va vb : Reg) (t : Fmt) (m : Reg3) | vsub (vd va vb : Reg) (t : Fmt) (m : Reg3)
  | vmul (vd va vb : Reg) (t : Fmt) (m : Reg3) | vfma (vd va vb : Reg) (t : Fmt) (m : Reg3)
  | vfnma (vd va vb : Reg) (t : Fmt) (m : Reg3) | vmin (vd va vb : Reg) (t : Fmt) (m : Reg3)
  | vmax (vd va vb : Reg) (t : Fmt) (m : Reg3) | vabs (vd va : Reg) (t : Fmt) (m : Reg3)
  | vcmpeq (md va vb : Reg) (t : Fmt) (m : Reg3) | vcmpne (md va vb : Reg) (t : Fmt) (m : Reg3)
  | vcmplt (md va vb : Reg) (t : Fmt) (m : Reg3) | vcmple (md va vb : Reg) (t : Fmt) (m : Reg3)
  | vsel (vd va vb : Reg) (t : Fmt) (m : Reg3)
  | vmand (md ma mb : Reg) | vmor (md ma mb : Reg) | vmxor (md ma mb : Reg)
  | vand (vd va vb : Reg) (m : Reg3) | vor (vd va vb : Reg) (m : Reg3) | vxor (vd va vb : Reg) (m : Reg3)
  | vshl (vd va vb : Reg) (t : Fmt) (m : Reg3) | vshr (vd va vb : Reg) (t : Fmt) (m : Reg3)
  | vsra (vd va vb : Reg) (t : Fmt) (m : Reg3) | vclip (vd va vb : Reg) (t : Fmt) (m : Reg3)
  | vscl (vd va z : Reg) (t : Fmt) (m : Reg3)
  | vperm (vd va vb : Reg) (t : Fmt) (m : Reg3) | vbcst (vd xa : Reg) (t : Fmt) (m : Reg3)
  | vmvx (xd va xb : Reg) (t : Fmt) | vins (vd xa xb : Reg) (t : Fmt)
  | vslide (vd va xb : Reg) (t : Fmt) (m : Reg3) | vzip (vd va vb : Reg) (t : Fmt) (m : Reg3)
  | vuzp (vd va vb : Reg) (t : Fmt) (m : Reg3) | vmov (vd va : Reg) (t : Fmt) (m : Reg3)
  | vrsum (vd va : Reg) (t : Fmt) (m : Reg3) | vrmax (vd va : Reg) (t : Fmt) (m : Reg3)
  | vrmin (vd va : Reg) (t : Fmt) (m : Reg3) | vrdot (vd va vb : Reg) (t : Fmt) (m : Reg3)
  | vrcp (vd va : Reg) (t : Fmt) (m : Reg3) | vrsq (vd va : Reg) (t : Fmt) (m : Reg3)
  | vexp2 (vd va : Reg) (t : Fmt) (m : Reg3) | vlog2 (vd va : Reg) (t : Fmt) (m : Reg3)
  | vcvt (vd va : Reg) (tt ts : Fmt) (rm : RMode) (sat : Bool) (m : Reg3)
  | vld (vd hr : Reg) (t : Fmt) | vst (hr vb : Reg) (t : Fmt)
  | vgath (vd xa vb : Reg) (t : Fmt) (m : Reg3) | vscat (vd xa vb : Reg) (t : Fmt) (m : Reg3)
  | vtrb (vd va : Reg) (t : Fmt) | vtrbi (vd va : Reg) (t : Fmt)
  | vpark (xd va : Reg) | vunpk (vd xa : Reg)
  -- 07 R175-R184: matrix
  | mzero (ad : Reg) (k : Reg3) | mstor (aa b : Reg) (t : Fmt) (k : Reg3)
  | mread (vd aa b : Reg) (t : Fmt) | mspan (a : Reg) (k : Reg3) | mpri (a : Reg)
  | mload (ad b : Reg) (k : Reg3)
  | mmac (ad a b : Reg) (t : Fmt) (aSt bSt sat : Bool) (k : Reg3)
  -- 07 R185-R190: Atoll
  | ltld (hr b : Reg) (k : Reg3) | lwld (hr b : Reg) (k : Reg3) | lctx (a : Reg)
  | lrun (hd hr b : Reg) (k : Reg3) | lstat (d : Reg) | lflush (k : Reg3)
  -- 07 R191-R195: messages and journal
  | xten (d a b : Reg) | xpost (d a : Reg) | xsend (d a b : Reg) (k : Reg3) | xcan (d a : Reg)
  | xprobe (d a : Reg)
  | jrec (d a : Reg) | jsync (a : Reg) (k : Reg3) | jtrunc (a b : Reg) | jstat (d a : Reg)
  | rngc (d a b : Reg)
  -- events of the core and its memory
  | supervisorCoreReset (core : Nat)
  | resultWriteback (core id : Nat)
  | loadReply (core id : Nat)
  | storeDrain (core id : Nat)
  | atomicAtPort (core id : Nat)
  | pageWalk (cluster part va : Nat)
  | invalidation (part lo hi : Nat)
  | pageIn (part va frame : Nat)
  | eviction (part va : Nat)
  -- events of the copy engine
  | copyEngineAccept (core : Nat)
  | copyRound (core id : Nat)
  | roundRestart (core id : Nat)
  | commandComplete (core id : Nat)
  | templateFiring (core t : Nat)
  | descriptorCheck (core id : Nat)
  | remoteRequest (i : Nat)
  | remoteReply (i : Nat)
  | remoteFaultReplay
  -- events of the matrix unit
  | matrixPassGrant (cluster : Nat)
  | operandFetch (cluster core : Nat)
  | kStep (cluster : Nat)
  | matrixCommandComplete (cluster core : Nat)
  -- events of the Atoll and the decoder
  | atollArrival (core : Nat)
  | atollServiceStart (cluster : Nat)
  | tableLoadSlotRead (cluster : Nat)
  | tableLoadCommit (cluster : Nat)
  | lrunStep (cluster : Nat)
  | lrunStepOutput (cluster : Nat)
  | decodeBlock (core id : Nat)
  -- events of the receive engines
  | postAtEngine (e i : Nat)
  | cancelAtEngine (e i : Nat)
  | probeAtEngine (e i : Nat)
  | tensorMapAtEngine (e i : Nat)
  | engineAnswer (core id : Nat)
  | messageHeaderArrival (e i : Nat)
  | matchDecision (e i : Nat)
  | retryBackoffExpiry (e i : Nat)
  | eagerLanding (e slot : Nat)
  | rendezvousPull (e slot : Nat)
  | landingRound (e slot : Nat)
  | completionPush (e : Nat)
  | postSlotFree (e slot : Nat)
  -- events of the Strait ports, the mesh and the queues
  | portJoin (p peer inc pairs : Nat)
  | flitIngress (p : Nat) (f : StraitFlit)
  | straitSlot (p : Nat)
  | flitHop (router dir : Nat)
  | relayForward (q r : Nat)
  | itemAccept (q i : Nat)
  | creditReturn (q i : Nat)
  | fullSignal (q cluster : Nat)
  -- events of the scheduler
  | triggerEntry (core handler : Nat)
  | select (core : Nat)
  | activationStart (core : Nat)
  | continuationReady (cluster act : Nat)
  | inlineChildReturn (core : Nat)
  | crewStart (cluster : Nat)
  | actRequestArrival (i : Nat)
  | actAnswer (core id : Nat)
  | barrierRelease (cluster bar : Nat)
  | spanBarrierArrival (span i : Nat)
  | spanBarrierRelease (span i : Nat)
  | completionArrival (words : List Word)
  | parkedCallerResume (cluster : Nat)
  | spanStartCall (q : Nat)
  | spanMembersPlaced (span : Nat)
  -- events of loading and replacing
  | loadRequest (r : LoadReq)
  | imageBlock (region cluster i : Nat)
  | loadedReport (core : Nat)
  | startAck (core : Nat)
  | loadAborted (region : Nat)
  | unloadRequest (region : Nat)
  | replacementRequest (r : LoadReq)
  | stagedReport (core : Nat)
  | markerAtHead (core q : Nat)
  | cutReport (core : Nat)
  | cutTimeout (region : Nat)
  | cutCancel (region : Nat)
  | markerRemoval (q branch : Nat)
  -- events of faults
  | faultFrameWritten (core : Nat)
  | faultEntryHandover (cluster : Nat)
  | resume (cluster entry ticket : Nat)
  | resumePast (cluster entry ticket : Nat)
  | endTheActivation (cluster entry ticket : Nat)
  | endTheProgram (cluster entry ticket : Nat)
  -- events of freezing and gating
  | freeze (part : Nat) (value : Word)
  | freezeWaveArrival (part cluster : Nat)
  | drainComplete (part : Nat)
  | imageReadout (part : Nat)
  | restore (part : Nat) (value : Word)
  | runReq (cluster : Nat)
  | clockGate (cluster : Nat)
  | powerGate (cluster : Nat)
  | gatingTakesEffect (cluster : Nat)
  | wakeComplete (cluster : Nat)
  | serviceFirmwareReplace (q version : Nat)
  -- events of the journal
  | recordArrival (core id : Nat)
  | jrecAnswer (core id : Nat)
  | recordSend
  | partnerRecordWrite (ring : Nat)
  | ackSend (ring : Nat)
  | ackArrival (jsn : Nat)
  | guardedRelease (q : Nat)
  | truncation (i : Nat)
  | partnerDownTimeout
  | partnerWrite (chip inc : Nat)
  | sourceLost (ring : Nat)
  | sequenceReplay (part seq : Nat) (records : List (List Word)) (q : Nat) (job : List Word)
  -- events of the host ports
  | hostRead (port : Nat) (t : HostTx)
  | hostWrite (port : Nat) (t : HostTx)
  | hostPush (port : Nat) (t : HostTx)
  | hostCredit (port : Nat) (t : HostTx)
  | hostFlush (port : Nat) (t : HostTx)
  | flushAck (port client : Nat)
  | clientDelivery (q branch : Nat)
  | hostLinkRejoin (port : Nat)
  -- events of the system
  | chipReset
  | secureBoot (boot lemnani bootSig lemnaniSig : List Byte) (key : Nat)
  | keyStoreChange (slot id : Nat) (key : List Byte) (revoke : Bool) (sig : List Byte)
  | attestationReport (part : Option Nat) (nonce : List Byte)
  | readyBitSet (bit : Nat)
  | governorWindow (power hottest : Nat)
  | pointChange (island : Nat)
  | capWrite (board : Bool) (value : Nat)
  | deviceRegisterWrite (offset : Nat) (value : Word)
  | portDown (p st pairs : Nat)
  | uncorrectableSoftError (addr : Nat)
  | frameHold (addr : Nat)
  | frameRelease (addr : Nat)
  | bootFirmwareLoad (image : List Byte)
  deriving DecidableEq, Repr

end Sys2Proof
end

