-- ==== Sys2Proof/WellFormed.lean ====
section
/-!
DEFINITION. Which instructions the encoding admits: register fields that name a register of their file
(01 R45), even pairs (02 R51), accepted formats and sizes (02 R49, R51, R53, 06 R160-R172), system-register
numbers of the map (03 R90). An event row has no encoding and is always well formed.
-/

namespace Sys2Proof

/-- A port operand, an x field limited to 24-31 (02 R51). -/
def isPort (r : Reg) : Bool := 24 ≤ r.toNat

/-- A register pair: even, and neither register is x24-x31 (02 R51). -/
def isPair (r : Reg) : Bool := r.toNat % 2 == 0 && r.toNat < 24

/-- A field that names h0-h15 or a0-a15 (01 R45). -/
def below16 (r : Reg) : Bool := r.toNat < 16

/-- A field that names m0-m7 (01 R45). -/
def below8 (r : Reg) : Bool := r.toNat < 8

/-- A mask destination: m0 is not writable (02 R53). -/
def isMaskDest (r : Reg) : Bool := 1 ≤ r.toNat && r.toNat < 8

/-- Sizes 0-3 (02 R49). -/
def Size.scalar : Size → Bool
  | .q => false
  | _ => true

/-- Sizes 2-3 (02 R49). -/
def Size.atomic : Size → Bool
  | .w => true
  | .d => true
  | _ => false

/-- F32, F16, B16. -/
def Fmt.isFloat3 : Fmt → Bool
  | .f32 => true
  | .f16 => true
  | .b16 => true
  | _ => false

/-- The formats the vector engine computes on: F32, F16, B16, I8, N8 (06 R160). -/
def Fmt.isArith : Fmt → Bool
  | .i8 => true
  | .n8 => true
  | t => t.isFloat3

/-- F32, F16, B16, I8 (06 R160 VABS, R162 VCLIP). -/
def Fmt.isSignedArith : Fmt → Bool
  | .i8 => true
  | t => t.isFloat3

/-- The floating formats, codes 0-7 (10 R248). -/
def Fmt.isFloat : Fmt → Bool
  | .i8 => false
  | .n8 => false
  | .i4 => false
  | .n4 => false
  | .p1 => false
  | _ => true

/-- The operand formats, codes 0-11 (01 R44). -/
def Fmt.isOperand : Fmt → Bool
  | .p1 => false
  | _ => true

/-- The formats of VPERM, codes 0-9 (06 R163). -/
def Fmt.isPerm : Fmt → Bool
  | .i4 => false
  | .n4 => false
  | t => t.isOperand

/-- The formats of VGATH and VSCAT (06 R170). -/
def Fmt.isGather : Fmt → Bool
  | .e5 => true
  | .e4 => true
  | t => t.isArith

/-- The formats of VTRB and VTRBI, codes 1-11 (06 R172). -/
def Fmt.isSlice : Fmt → Bool
  | .f32 => false
  | t => t.isOperand

/-- The system-register numbers of the map (03 R90). -/
def isSysNum (n : BitVec 12) : Bool :=
  let k := n.toNat
  k ≤ 4 || (8 ≤ k && k ≤ 0xb) || (0x10 ≤ k && k ≤ 0x16) || (0x20 ≤ k && k ≤ 0x5f) || (0x80 ≤ k && k ≤ 0x82)

/-- VCVT's formats: two different operand formats, and no K3, K2 or Q2 target without saturation (06 R166). -/
def cvtOk (tt ts : Fmt) (sat : Bool) : Bool :=
  tt.isOperand && ts.isOperand && decide (tt ≠ ts) &&
    (sat || !(decide (tt = .k3) || decide (tt = .k2) || decide (tt = .q2)))

/-- The instruction is one that some word encodes. -/
def wellFormed : Instr → Bool
  | .yrd _ n => isSysNum n
  | .ywr _ n => isSysNum n
  | .ld _ _ sz _ => sz.scalar
  | .ldz _ _ sz _ => sz.scalar
  | .st _ _ sz _ => sz.scalar
  | .ldaq _ _ sz _ _ => sz.scalar
  | .strl _ _ sz _ _ => sz.scalar
  | .ldx _ _ _ sz _ => sz.scalar
  | .stx _ _ _ sz _ => sz.scalar
  | .pld _ _ sz _ => sz.scalar
  | .fence k _ => k != 0
  | .fencee k _ => k != 0
  | .amo _ _ _ _ sz _ _ => sz.atomic
  | .cas _ _ _ sz _ _ => sz.atomic
  | .casq d _ b _ _ => isPair d && isPair b
  | .qpush p _ => isPort p
  | .qpushNb _ p _ => isPort p
  | .qpop _ p => isPort p
  | .qtry _ p _ => isPort p
  | .qpeek _ p _ => isPort p
  | .qbindIn p _ => isPort p
  | .qbindOut p _ => isPort p
  | .qunb p => isPort p
  | .qcnt _ p => isPort p
  | .qattr _ p _ => isPort p
  | .qmark p => isPort p
  | .rset h _ _ => below16 h
  | .radvw h _ => below16 h
  | .radvr h _ => below16 h
  | .rwaitf h _ => below16 h
  | .rwaite h _ => below16 h
  | .rposW _ h => below16 h
  | .rposR _ h => below16 h
  | .cpy a _ _ => isPair a
  | .cpy2 a b _ => isPair a && isPair b
  | .cpyi a b _ => isPair a && isPair b
  | .cpys a h _ => isPair a && below16 h
  | .cfill _ b _ => isPair b
  | .vadd _ _ _ t _ => t.isArith
  | .vsub _ _ _ t _ => t.isArith
  | .vmul _ _ _ t _ => t.isArith
  | .vfma _ _ _ t _ => t.isFloat3
  | .vfnma _ _ _ t _ => t.isFloat3
  | .vmin _ _ _ t _ => t.isArith
  | .vmax _ _ _ t _ => t.isArith
  | .vabs _ _ t _ => t.isSignedArith
  | .vcmpeq d _ _ t _ => isMaskDest d && t.isArith
  | .vcmpne d _ _ t _ => isMaskDest d && t.isArith
  | .vcmplt d _ _ t _ => isMaskDest d && t.isArith
  | .vcmple d _ _ t _ => isMaskDest d && t.isArith
  | .vsel _ _ _ t _ => t.isOperand
  | .vmand d a b => isMaskDest d && below8 a && below8 b
  | .vmor d a b => isMaskDest d && below8 a && below8 b
  | .vmxor d a b => isMaskDest d && below8 a && below8 b
  | .vshl _ _ _ t _ => t.isArith
  | .vshr _ _ _ t _ => t.isArith
  | .vsra _ _ _ t _ => t.isArith
  | .vclip _ _ _ t _ => t.isSignedArith
  | .vscl _ _ _ t _ => t.isFloat3
  | .vperm _ _ _ t _ => t.isPerm
  | .vbcst _ _ t _ => t.isOperand
  | .vmvx _ _ _ t => t.isOperand
  | .vins _ _ _ t => t.isOperand
  | .vslide _ _ _ t _ => t.isOperand
  | .vzip _ _ _ t _ => t.isOperand
  | .vuzp _ _ _ t _ => t.isOperand
  | .vmov _ _ t _ => t.isOperand
  | .vrsum _ _ t _ => t.isArith
  | .vrmax _ _ t _ => t.isArith
  | .vrmin _ _ t _ => t.isArith
  | .vrdot _ _ _ t _ => t.isArith
  | .vrcp _ _ t _ => decide (t = .f32)
  | .vrsq _ _ t _ => decide (t = .f32)
  | .vexp2 _ _ t _ => decide (t = .f32)
  | .vlog2 _ _ t _ => decide (t = .f32)
  | .vcvt _ _ tt ts _ sat _ => cvtOk tt ts sat
  | .vld _ h t => below16 h && t.isOperand
  | .vst h _ t => below16 h && t.isOperand
  | .vgath _ _ _ t _ => t.isGather
  | .vscat _ _ _ t _ => t.isGather
  | .vtrb _ _ t => t.isSlice
  | .vtrbi _ _ t => t.isSlice
  | .mzero a _ => below16 a
  | .mstor a b t _ => below16 a && isPair b && t.isOperand
  | .mread _ a _ t => below16 a && t.isOperand
  | .mload a b _ => below16 a && isPair b
  | .mmac d a b t aSt bSt sat _ =>
    below16 d && (!aSt || isPair a) && (!bSt || isPair b) && t.isOperand && (!sat || !t.isFloat)
  | .ltld h _ _ => below16 h
  | .lwld h _ _ => below16 h
  | .lrun hd h _ _ => below16 hd && below16 h
  | .rngc _ a b => isPair a && isPair b
  | _ => true

/-- The row has an encoding: it is an instruction, not an event. -/
def isEncoded : Instr → Bool
  | .supervisorCoreReset _ => false
  | .resultWriteback _ _ => false
  | .loadReply _ _ => false
  | .storeDrain _ _ => false
  | .atomicAtPort _ _ => false
  | .pageWalk _ _ _ => false
  | .invalidation _ _ _ => false
  | .pageIn _ _ _ => false
  | .eviction _ _ => false
  | .copyEngineAccept _ => false
  | .copyRound _ _ => false
  | .roundRestart _ _ => false
  | .commandComplete _ _ => false
  | .templateFiring _ _ => false
  | .descriptorCheck _ _ => false
  | .remoteRequest _ => false
  | .remoteReply _ => false
  | .remoteFaultReplay => false
  | .matrixPassGrant _ => false
  | .operandFetch _ _ => false
  | .kStep _ => false
  | .matrixCommandComplete _ _ => false
  | .atollArrival _ => false
  | .atollServiceStart _ => false
  | .tableLoadSlotRead _ => false
  | .tableLoadCommit _ => false
  | .lrunStep _ => false
  | .lrunStepOutput _ => false
  | .decodeBlock _ _ => false
  | .postAtEngine _ _ => false
  | .cancelAtEngine _ _ => false
  | .probeAtEngine _ _ => false
  | .tensorMapAtEngine _ _ => false
  | .engineAnswer _ _ => false
  | .messageHeaderArrival _ _ => false
  | .matchDecision _ _ => false
  | .retryBackoffExpiry _ _ => false
  | .eagerLanding _ _ => false
  | .rendezvousPull _ _ => false
  | .landingRound _ _ => false
  | .completionPush _ => false
  | .postSlotFree _ _ => false
  | .portJoin _ _ _ _ => false
  | .flitIngress _ _ => false
  | .straitSlot _ => false
  | .flitHop _ _ => false
  | .relayForward _ _ => false
  | .itemAccept _ _ => false
  | .creditReturn _ _ => false
  | .fullSignal _ _ => false
  | .triggerEntry _ _ => false
  | .select _ => false
  | .activationStart _ => false
  | .continuationReady _ _ => false
  | .inlineChildReturn _ => false
  | .crewStart _ => false
  | .actRequestArrival _ => false
  | .actAnswer _ _ => false
  | .barrierRelease _ _ => false
  | .spanBarrierArrival _ _ => false
  | .spanBarrierRelease _ _ => false
  | .completionArrival _ => false
  | .parkedCallerResume _ => false
  | .spanStartCall _ => false
  | .spanMembersPlaced _ => false
  | .loadRequest _ => false
  | .imageBlock _ _ _ => false
  | .loadedReport _ => false
  | .startAck _ => false
  | .loadAborted _ => false
  | .unloadRequest _ => false
  | .replacementRequest _ => false
  | .stagedReport _ => false
  | .markerAtHead _ _ => false
  | .cutReport _ => false
  | .cutTimeout _ => false
  | .cutCancel _ => false
  | .markerRemoval _ _ => false
  | .faultFrameWritten _ => false
  | .faultEntryHandover _ => false
  | .resume _ _ _ => false
  | .resumePast _ _ _ => false
  | .endTheActivation _ _ _ => false
  | .endTheProgram _ _ _ => false
  | .freeze _ _ => false
  | .freezeWaveArrival _ _ => false
  | .drainComplete _ => false
  | .imageReadout _ => false
  | .restore _ _ => false
  | .runReq _ => false
  | .clockGate _ => false
  | .powerGate _ => false
  | .gatingTakesEffect _ => false
  | .wakeComplete _ => false
  | .serviceFirmwareReplace _ _ => false
  | .recordArrival _ _ => false
  | .jrecAnswer _ _ => false
  | .recordSend => false
  | .partnerRecordWrite _ => false
  | .ackSend _ => false
  | .ackArrival _ => false
  | .guardedRelease _ => false
  | .truncation _ => false
  | .partnerDownTimeout => false
  | .partnerWrite _ _ => false
  | .sourceLost _ => false
  | .sequenceReplay _ _ _ _ _ => false
  | .hostRead _ _ => false
  | .hostWrite _ _ => false
  | .hostPush _ _ => false
  | .hostCredit _ _ => false
  | .hostFlush _ _ => false
  | .flushAck _ _ => false
  | .clientDelivery _ _ => false
  | .hostLinkRejoin _ => false
  | .chipReset => false
  | .secureBoot _ _ _ _ _ => false
  | .keyStoreChange _ _ _ _ _ => false
  | .attestationReport _ _ => false
  | .readyBitSet _ => false
  | .governorWindow _ _ => false
  | .pointChange _ => false
  | .capWrite _ _ => false
  | .deviceRegisterWrite _ _ => false
  | .portDown _ _ _ => false
  | .uncorrectableSoftError _ => false
  | .frameHold _ => false
  | .frameRelease _ => false
  | .bootFirmwareLoad _ => false
  | _ => true

end Sys2Proof
end

