-- ==== Sys2Proof/Decode.lean ====
section
/-!
DEFINITION. From an instruction word to the instruction (01 R33, R42-R45; 02 R46-R56), and back.
`decodeWord` is step 2 of the decode of 01 R36: it refuses, by name, every word that raises
illegal-instruction. The L bit (bit 31) is not part of the instruction: it says whether the word is lone.
-/

namespace Sys2Proof

/-! ### Codes of the operand fields -/

/-- Format code 0-12 (02 R55); 13-15 are reserved. -/
def Fmt.ofCode (c : BitVec 4) : Option Fmt :=
  match c.toNat with
  | 0 => some .f32 | 1 => some .f16 | 2 => some .b16 | 3 => some .e5 | 4 => some .e4 | 5 => some .k3
  | 6 => some .k2 | 7 => some .q2 | 8 => some .i8 | 9 => some .n8 | 10 => some .i4 | 11 => some .n4
  | 12 => some .p1 | _ => none

/-- The code of a format (02 R55). -/
def Fmt.code : Fmt → BitVec 4
  | .f32 => 0 | .f16 => 1 | .b16 => 2 | .e5 => 3 | .e4 => 4 | .k3 => 5 | .k2 => 6 | .q2 => 7
  | .i8 => 8 | .n8 => 9 | .i4 => 10 | .n4 => 11 | .p1 => 12

/-- Size code (02 R55); 5-7 are reserved. -/
def Size.ofCode (c : BitVec 3) : Option Size :=
  match c.toNat with
  | 0 => some .b | 1 => some .h | 2 => some .w | 3 => some .d | 4 => some .q | _ => none

/-- The code of a size (02 R55). -/
def Size.code : Size → BitVec 3
  | .b => 0 | .h => 1 | .w => 2 | .d => 3 | .q => 4

/-- Scope code (02 R55). -/
def Scope.ofCode (c : BitVec 2) : Scope :=
  match c.toNat with
  | 0 => .core | 1 => .cl | 2 => .chip | _ => .sys

/-- The code of a scope (02 R55). -/
def Scope.code : Scope → BitVec 2
  | .core => 0 | .cl => 1 | .chip => 2 | .sys => 3

/-- Order code (02 R55). -/
def Order.ofCode (c : BitVec 2) : Order :=
  match c.toNat with
  | 0 => .rlx | 1 => .acq | 2 => .rel | _ => .ar

/-- The code of an order (02 R55). -/
def Order.code : Order → BitVec 2
  | .rlx => 0 | .acq => 1 | .rel => 2 | .ar => 3

/-- Rounding code (02 R55); 6-7 are reserved. -/
def RMode.ofCode (c : BitVec 3) : Option RMode :=
  match c.toNat with
  | 0 => some .rne | 1 => some .rna | 2 => some .rtz | 3 => some .rup | 4 => some .rdn | 5 => some .rod
  | _ => none

/-- The code of a rounding mode (02 R55). -/
def RMode.code : RMode → BitVec 3
  | .rne => 0 | .rna => 1 | .rtz => 2 | .rup => 3 | .rdn => 4 | .rod => 5

/-- Atomic operation number (02 R56); 9-15 are reserved. -/
def AmoOp.ofCode (c : BitVec 4) : Option AmoOp :=
  match c.toNat with
  | 0 => some .add | 1 => some .and | 2 => some .or | 3 => some .xor | 4 => some .min | 5 => some .max
  | 6 => some .minu | 7 => some .maxu | 8 => some .swap | _ => none

/-- The number of an atomic operation (02 R56). -/
def AmoOp.code : AmoOp → BitVec 4
  | .add => 0 | .and => 1 | .or => 2 | .xor => 3 | .min => 4 | .max => 5 | .minu => 6 | .maxu => 7
  | .swap => 8

/-- Remote operation numbers of RAMO are the atomic numbers plus 4 (02 R56). -/
def AmoOp.ofRemote (c : BitVec 4) : Option AmoOp := AmoOp.ofCode (c - 4)

/-! ### The fields of a word (01 R43) -/

/-- Bits lo + n − 1 … lo of an instruction word. -/
def field (w : InstrWord) (lo n : Nat) : BitVec n := w.extractLsb' lo n

/-- Why a word is refused (01 R36 step 2: each raises illegal-instruction). -/
inductive Reject where
  /-- Major 0x00 or a reserved major (02 R46). -/
  | reservedMajor
  /-- A function code absent from its major's table (02 R47-R52). -/
  | reservedFunction
  /-- A fixed field with another value (00 R8). -/
  | fixedField
  /-- A reserved size, format, rounding or operation code (01 R45). -/
  | reservedCode
  /-- A register field out of range, or a format, number or combination that the row does not accept. -/
  | badOperand
  deriving DecidableEq, Repr

/-- What decoding answers. -/
abbrev Dec := Except Reject Instr

/-- The row, where its fixed fields hold their values. -/
def fixedIs (ok : Bool) (i : Instr) : Dec := if ok then .ok i else .error .fixedField

/-- The row, from a code field that some codes of are reserved. -/
def coded {α : Type} (c : Option α) (k : α → Dec) : Dec :=
  match c with
  | some x => k x
  | none => .error .reservedCode

/-- Major 0x01 (02 R47). -/
def decScalar (d a b : Reg) (f : BitVec 10) : Dec :=
  match f.toNat with
  | 0x000 => .ok (.add d a b) | 0x001 => .ok (.sub d a b) | 0x002 => .ok (.and d a b)
  | 0x003 => .ok (.or d a b) | 0x004 => .ok (.xor d a b) | 0x005 => .ok (.andn d a b)
  | 0x006 => .ok (.sll d a b) | 0x007 => .ok (.srl d a b) | 0x008 => .ok (.sra d a b)
  | 0x009 => .ok (.ror d a b) | 0x00a => .ok (.slt d a b) | 0x00b => .ok (.sltu d a b)
  | 0x00c => .ok (.min d a b) | 0x00d => .ok (.max d a b) | 0x00e => .ok (.minu d a b)
  | 0x00f => .ok (.maxu d a b) | 0x010 => .ok (.mul d a b) | 0x011 => .ok (.mulh d a b)
  | 0x012 => .ok (.mulhu d a b) | 0x013 => .ok (.div d a b) | 0x014 => .ok (.divu d a b)
  | 0x015 => .ok (.rem d a b) | 0x016 => .ok (.remu d a b) | 0x017 => .ok (.sh1add d a b)
  | 0x018 => .ok (.sh2add d a b) | 0x019 => .ok (.sh3add d a b)
  | 0x01a => fixedIs (b == 0) (.clz d a)
  | 0x01b => fixedIs (b == 0) (.ctz d a)
  | 0x01c => fixedIs (b == 0) (.popc d a)
  | _ => .error .reservedFunction

/-- Major 0x09, the immediate shifts (02 R48): the two op bits. -/
def decShift (d a : Reg) (z : BitVec 7) (op : BitVec 2) (sh : BitVec 6) : Dec :=
  match op.toNat with
  | 0 => fixedIs (z == 0) (.slli d a sh)
  | 1 => fixedIs (z == 0) (.srli d a sh)
  | 2 => fixedIs (z == 0) (.srai d a sh)
  | _ => fixedIs (z == 0) (.rori d a sh)

/-- Major 0x1d (02 R49): `g` is f[9:7] and `f` is f[6:0]. -/
def decMem (d a b : Reg) (g : BitVec 3) (sz : BitVec 3) (sh : BitVec 2) (z : BitVec 2) (w : InstrWord) : Dec :=
  match g.toNat with
  | 0 => if z == 0 then coded (Size.ofCode sz) fun s => .ok (.ldx d a b s sh) else .error .fixedField
  | 1 => if z == 0 then coded (Size.ofCode sz) fun s => .ok (.stx d a b s sh) else .error .fixedField
  | 2 => fixedIs (d == 0 && sz == 0 && z == 0) (.pref a b sh)
  | 3 => if b == 0 && field w 0 1 == 0 then
      coded (Size.ofCode ((field w 5 2).setWidth 3)) fun s => .ok (.pld d a s (field w 1 4)) else .error .fixedField
  | 4 => fixedIs (d == 0 && a == 0 && b == 0 && field w 0 1 == 0)
      (.fence (field w 3 4) (Scope.ofCode (field w 1 2)))
  | 5 => fixedIs (d == 0 && a == 0 && b == 0 && field w 0 1 == 0)
      (.fencee (field w 3 4) (Scope.ofCode (field w 1 2)))
  | _ => .error .reservedFunction

/-- Major 0x1f (02 R49). -/
def decCas (d a b : Reg) (g : BitVec 3) (sz : BitVec 3) (sc o : BitVec 2) : Dec :=
  match g.toNat with
  | 0 => coded (Size.ofCode sz) fun s => .ok (.cas d a b s (Scope.ofCode sc) (Order.ofCode o))
  | 1 => fixedIs (sz == 4) (.casq d a b (Scope.ofCode sc) (Order.ofCode o))
  | 2 =>
    match sz.toNat with
    | 0 => .ok (.famo false d a b (Scope.ofCode sc) (Order.ofCode o))
    | 1 => .ok (.famo true d a b (Scope.ofCode sc) (Order.ofCode o))
    | _ => .error .reservedCode
  | _ => .error .reservedFunction

/-- Major 0x20 (02 R51). -/
def decQueue (d a b : Reg) (k : Reg3) (f : BitVec 7) : Dec :=
  match f.toNat with
  | 0x01 => fixedIs (k == 0 && d == 0) (.qpush a b)
  | 0x02 => fixedIs (k == 0) (.qpushNb d a b)
  | 0x03 => fixedIs (k == 0 && b == 0) (.qpop d a)
  | 0x04 => fixedIs (k == 0) (.qtry d a b)
  | 0x05 => fixedIs (k == 0) (.qpeek d a b)
  | 0x06 => fixedIs (k == 0 && d == 0) (.qbindIn a b)
  | 0x07 => fixedIs (k == 0 && d == 0) (.qbindOut a b)
  | 0x08 => fixedIs (k == 0 && d == 0 && b == 0) (.qunb a)
  | 0x09 => fixedIs (k == 0 && b == 0) (.qcnt d a)
  | 0x0a => fixedIs (k == 0) (.qattr d a b)
  | 0x0b => fixedIs (k == 0 && d == 0 && b == 0) (.qmark a)
  | _ => .error .reservedFunction

/-- Major 0x21 (02 R51). -/
def decAct (d a b : Reg) (k : Reg3) (f : BitVec 7) : Dec :=
  match f.toNat with
  | 0x01 => fixedIs (k == 0) (.act d a b)
  | 0x02 => fixedIs (k == 0) (.forkStall d a b)
  | 0x03 => fixedIs (k == 0) (.forkInline d a b)
  | 0x04 => fixedIs (k == 0) (.forkBusy d a b)
  | 0x05 => fixedIs (k == 0 && d == 0 && a == 0 && b == 0) .sync
  | 0x06 => fixedIs (k == 0) (.spawn d a b)
  | 0x07 => fixedIs (k == 0) (.crew d a b)
  | 0x08 => fixedIs (k == 0 && d == 0 && a == 0 && b == 0) .yield
  | 0x09 => fixedIs (k == 0 && d == 0 && b == 0) (.prio a)
  | _ => .error .reservedFunction

/-- Major 0x22 (02 R51). -/
def decBarrier (d a b : Reg) (k : Reg3) (f : BitVec 7) : Dec :=
  match f.toNat with
  | 0x01 => fixedIs (k == 0 && d == 0 && b == 0) (.bar a)
  | 0x02 => fixedIs (k == 0 && d == 0 && b == 0) (.bara a)
  | 0x03 => fixedIs (k == 0 && d == 0 && b == 0) (.barw a)
  | 0x04 => fixedIs (k == 0 && d == 0) (.binit a b)
  | _ => .error .reservedFunction

/-- Major 0x23 (02 R51). -/
def decRing (d a b : Reg) (k : Reg3) (f : BitVec 7) : Dec :=
  match f.toNat with
  | 0x01 => fixedIs (k == 0) (.rset d a b)
  | 0x02 => fixedIs (k == 0 && d == 0) (.radvw a b)
  | 0x03 => fixedIs (k == 0 && d == 0) (.radvr a b)
  | 0x04 => fixedIs (k == 0 && d == 0) (.rwaitf a b)
  | 0x05 => fixedIs (k == 0 && d == 0) (.rwaite a b)
  | 0x06 => fixedIs (k == 0 && b == 0) (.rposW d a)
  | 0x07 => fixedIs (k == 0 && b == 0) (.rposR d a)
  | _ => .error .reservedFunction

/-- Major 0x24 (02 R51). -/
def decToken (d a b : Reg) (k : Reg3) (f : BitVec 7) : Dec :=
  match f.toNat with
  | 0x01 => fixedIs (k == 0 && d == 0 && b == 0) (.twait a)
  | 0x02 => fixedIs (k == 0 && b == 0) (.tpoll d a)
  | _ => .error .reservedFunction

/-- Major 0x28 (02 R51). -/
def decCopy (d a b : Reg) (k : Reg3) (f : BitVec 7) : Dec :=
  match f.toNat with
  | 0x01 => fixedIs (d == 0) (.cpy a b k)
  | 0x02 => fixedIs (d == 0) (.cpy2 a b k)
  | 0x03 => fixedIs (d == 0) (.cpyi a b k)
  | 0x04 => fixedIs (d == 0) (.cpys a b k)
  | 0x05 => fixedIs (d == 0) (.cfill a b k)
  | 0x06 => fixedIs (d == 0) (.carm a b k)
  | 0x07 => fixedIs (d == 0 && b == 0 && k == 0) (.cdis a)
  | _ => .error .reservedFunction

/-- Major 0x29 (02 R51): `op` is f[6:3] and `o` is f[2:0]. -/
def decRemote (d a b : Reg) (k : Reg3) (op : BitVec 4) (o : Reg3) : Dec :=
  match op.toNat with
  | 0 => .error .reservedFunction
  | 1 => fixedIs (b == 0) (.rld d a k o)
  | 2 => fixedIs (d == 0) (.rst a b k o)
  | 3 => .ok (.rcas d a b k o)
  | _ =>
    match AmoOp.ofRemote op with
    | some x => .ok (.ramo x d a b k o)
    | none => .error .reservedFunction

/-- Major 0x30 (02 R52, R53). -/
def decVec0 (d a b : Reg) (t : Fmt) (m f : Reg3) : Dec :=
  match f.toNat with
  | 0 => .ok (.vadd d a b t m) | 1 => .ok (.vsub d a b t m) | 2 => .ok (.vmul d a b t m)
  | 3 => .ok (.vfma d a b t m) | 4 => .ok (.vfnma d a b t m) | 5 => .ok (.vmin d a b t m)
  | 6 => .ok (.vmax d a b t m) | _ => fixedIs (b == 0) (.vabs d a t m)

/-- Major 0x31 (02 R52, R53). -/
def decVec1 (d a b : Reg) (t : Fmt) (m f : Reg3) : Dec :=
  match f.toNat with
  | 0 => .ok (.vcmpeq d a b t m) | 1 => .ok (.vcmpne d a b t m) | 2 => .ok (.vcmplt d a b t m)
  | 3 => .ok (.vcmple d a b t m) | 4 => .ok (.vsel d a b t m)
  | 5 => fixedIs (decide (t = .f32) && m == 0) (.vmand d a b)
  | 6 => fixedIs (decide (t = .f32) && m == 0) (.vmor d a b)
  | _ => fixedIs (decide (t = .f32) && m == 0) (.vmxor d a b)

/-- Major 0x32 (02 R52, R53). -/
def decVec2 (d a b : Reg) (t : Fmt) (m f : Reg3) : Dec :=
  match f.toNat with
  | 0 => fixedIs (decide (t = .f32)) (.vand d a b m)
  | 1 => fixedIs (decide (t = .f32)) (.vor d a b m)
  | 2 => fixedIs (decide (t = .f32)) (.vxor d a b m)
  | 3 => .ok (.vshl d a b t m) | 4 => .ok (.vshr d a b t m) | 5 => .ok (.vsra d a b t m)
  | 6 => .ok (.vclip d a b t m) | _ => .ok (.vscl d a b t m)

/-- Major 0x33 (02 R52, R53). -/
def decVec3 (d a b : Reg) (t : Fmt) (m f : Reg3) : Dec :=
  match f.toNat with
  | 0 => .ok (.vperm d a b t m)
  | 1 => fixedIs (b == 0) (.vbcst d a t m)
  | 2 => fixedIs (m == 0) (.vmvx d a b t)
  | 3 => fixedIs (m == 0) (.vins d a b t)
  | 4 => .ok (.vslide d a b t m) | 5 => .ok (.vzip d a b t m) | 6 => .ok (.vuzp d a b t m)
  | _ => fixedIs (b == 0) (.vmov d a t m)

/-- Major 0x34 (02 R52, R53). -/
def decVec4 (d a b : Reg) (t : Fmt) (m f : Reg3) : Dec :=
  match f.toNat with
  | 0 => fixedIs (b == 0) (.vrsum d a t m)
  | 1 => fixedIs (b == 0) (.vrmax d a t m)
  | 2 => fixedIs (b == 0) (.vrmin d a t m)
  | 3 => .ok (.vrdot d a b t m)
  | _ => .error .reservedFunction

/-- Major 0x35 (02 R52, R53). -/
def decVec5 (d a b : Reg) (t : Fmt) (m f : Reg3) : Dec :=
  match f.toNat with
  | 0 => fixedIs (b == 0) (.vrcp d a t m)
  | 1 => fixedIs (b == 0) (.vrsq d a t m)
  | 2 => fixedIs (b == 0) (.vexp2 d a t m)
  | 3 => fixedIs (b == 0) (.vlog2 d a t m)
  | _ => .error .reservedFunction

/-- Major 0x36, VCVT (02 R53, 06 R166): `vb` holds the saturate bit and the source format. -/
def decCvt (d a : Reg) (sat : BitVec 1) (src : BitVec 4) (tt : Fmt) (m f : Reg3) : Dec :=
  coded (Fmt.ofCode src) fun ts => coded (RMode.ofCode f) fun rm => .ok (.vcvt d a tt ts rm (sat == 1) m)

/-- Major 0x37 (02 R52, R53). -/
def decVec7 (d a b : Reg) (t : Fmt) (m f : Reg3) : Dec :=
  match f.toNat with
  | 0 => fixedIs (b == 0 && m == 0) (.vld d a t)
  | 1 => fixedIs (d == 0 && m == 0) (.vst a b t)
  | 2 => .ok (.vgath d a b t m)
  | 3 => .ok (.vscat d a b t m)
  | 4 => fixedIs (b == 0 && m == 0) (.vtrb d a t)
  | 5 => fixedIs (b == 0 && m == 0) (.vtrbi d a t)
  | 6 => fixedIs (b == 0 && m == 0 && decide (t = .f32)) (.vpark d a)
  | _ => fixedIs (b == 0 && m == 0 && decide (t = .f32)) (.vunpk d a)

/-- Major 0x38 (02 R51): `g` is f[6:4] and `t` is f[3:0]. -/
def decMatrix (d a b : Reg) (k g : Reg3) (t : BitVec 4) : Dec :=
  match g.toNat with
  | 1 => fixedIs (a == 0 && b == 0 && t == 0) (.mzero d k)
  | 2 => if d == 0 then coded (Fmt.ofCode t) fun x => .ok (.mstor a b x k) else .error .fixedField
  | 3 => if k == 0 then coded (Fmt.ofCode t) fun x => .ok (.mread d a b x) else .error .fixedField
  | 4 => fixedIs (d == 0 && b == 0 && t == 0) (.mspan a k)
  | 5 => fixedIs (d == 0 && b == 0 && k == 0 && t == 0) (.mpri a)
  | 6 => fixedIs (a == 0 && t == 0) (.mload d b k)
  | _ => .error .reservedFunction

/-- Major 0x39, MMAC (02 R51). -/
def decMmac (d a b : Reg) (k : Reg3) (t : BitVec 4) (aS bS s : BitVec 1) : Dec :=
  coded (Fmt.ofCode t) fun x => .ok (.mmac d a b x (aS == 1) (bS == 1) (s == 1) k)

/-- Major 0x3a (02 R51). -/
def decAtoll (d a b : Reg) (k : Reg3) (f : BitVec 7) : Dec :=
  match f.toNat with
  | 0x01 => fixedIs (d == 0) (.ltld a b k)
  | 0x02 => fixedIs (d == 0) (.lwld a b k)
  | 0x03 => fixedIs (d == 0 && b == 0 && k == 0) (.lctx a)
  | 0x04 => .ok (.lrun d a b k)
  | 0x05 => fixedIs (a == 0 && b == 0 && k == 0) (.lstat d)
  | 0x06 => fixedIs (d == 0 && a == 0 && b == 0) (.lflush k)
  | _ => .error .reservedFunction

/-- Major 0x3c (02 R51). -/
def decMessage (d a b : Reg) (k : Reg3) (f : BitVec 7) : Dec :=
  match f.toNat with
  | 0x01 => fixedIs (k == 0) (.xten d a b)
  | 0x02 => fixedIs (k == 0 && b == 0) (.xpost d a)
  | 0x03 => .ok (.xsend d a b k)
  | 0x04 => fixedIs (k == 0 && b == 0) (.xcan d a)
  | 0x05 => fixedIs (k == 0 && b == 0) (.xprobe d a)
  | _ => .error .reservedFunction

/-- Major 0x3d (02 R51). -/
def decJournal (d a b : Reg) (k : Reg3) (f : BitVec 7) : Dec :=
  match f.toNat with
  | 0x01 => fixedIs (k == 0 && b == 0) (.jrec d a)
  | 0x02 => fixedIs (d == 0 && b == 0) (.jsync a k)
  | 0x03 => fixedIs (k == 0 && d == 0) (.jtrunc a b)
  | 0x04 => fixedIs (k == 0 && b == 0) (.jstat d a)
  | 0x05 => fixedIs (k == 0) (.rngc d a b)
  | _ => .error .reservedFunction

/-- Major 0x2c (02 R50). -/
def decSystem (d a b : Reg) (f : BitVec 10) : Dec :=
  match f.toNat with
  | 0x001 => fixedIs (d == 0 && a == 0 && b == 0) .endA
  | 0x002 => fixedIs (d == 0 && a == 0 && b == 0) .sysc
  | 0x003 => fixedIs (d == 0 && a == 0 && b == 0) .brk
  | 0x004 => fixedIs (d == 0 && a == 0 && b == 0) .eret
  | _ => .error .reservedFunction

/-- The row a word names, by its major and function fields (02 R46). -/
def decodeFields (w : InstrWord) : Dec :=
  let d : Reg := field w 20 5
  let a : Reg := field w 15 5
  let b : Reg := field w 10 5
  let k : Reg3 := field w 7 3
  let imm15 : BitVec 15 := field w 0 15
  let f10 : BitVec 10 := field w 0 10
  let f7 : BitVec 7 := field w 0 7
  let f3 : Reg3 := field w 0 3
  let m : Reg3 := field w 3 3
  match (field w 25 6).toNat with
  | 0x01 => decScalar d a b f10
  | 0x02 => .ok (.addi d a imm15) | 0x03 => .ok (.andi d a imm15) | 0x04 => .ok (.ori d a imm15)
  | 0x05 => .ok (.muli d a imm15) | 0x06 => .ok (.xori d a imm15) | 0x07 => .ok (.slti d a imm15)
  | 0x08 => .ok (.sltiu d a imm15)
  | 0x09 => decShift d a (field w 8 7) (field w 6 2) (field w 0 6)
  | 0x0a => .ok (.lui d (field w 0 20)) | 0x0b => .ok (.addpc d (field w 0 20))
  | 0x0c => .ok (.luh d (field w 0 20))
  | 0x10 => .ok (.beq d a imm15) | 0x11 => .ok (.bne d a imm15) | 0x12 => .ok (.blt d a imm15)
  | 0x13 => .ok (.bge d a imm15) | 0x14 => .ok (.bltu d a imm15) | 0x15 => .ok (.bgeu d a imm15)
  | 0x16 => .ok (.j (field w 0 25)) | 0x17 => .ok (.jl (field w 0 25))
  | 0x18 => if field w 10 2 == 0 then coded (Size.ofCode (field w 12 3)) fun s => .ok (.ld d a s f10)
            else .error .fixedField
  | 0x19 => if field w 10 2 == 0 then coded (Size.ofCode (field w 12 3)) fun s => .ok (.ldz d a s f10)
            else .error .fixedField
  | 0x1a => if field w 10 2 == 0 then coded (Size.ofCode (field w 12 3)) fun s => .ok (.st d a s f10)
            else .error .fixedField
  | 0x1b => coded (Size.ofCode (field w 12 3)) fun s => .ok (.ldaq d a s (Scope.ofCode (field w 10 2)) f10)
  | 0x1c => coded (Size.ofCode (field w 12 3)) fun s => .ok (.strl d a s (Scope.ofCode (field w 10 2)) f10)
  | 0x1d => decMem d a b k (field w 4 3) (field w 2 2) (field w 0 2) w
  | 0x1e => coded (AmoOp.ofCode (field w 6 4)) fun op => coded (Size.ofCode ((field w 4 2).setWidth 3)) fun s =>
      .ok (.amo op d a b s (Scope.ofCode (field w 2 2)) (Order.ofCode (field w 0 2)))
  | 0x1f => decCas d a b k (field w 4 3) (field w 2 2) (field w 0 2)
  | 0x20 => decQueue d a b k f7
  | 0x21 => decAct d a b k f7
  | 0x22 => decBarrier d a b k f7
  | 0x23 => decRing d a b k f7
  | 0x24 => decToken d a b k f7
  | 0x28 => decCopy d a b k f7
  | 0x29 => decRemote d a b k (field w 3 4) f3
  | 0x2c => decSystem d a b f10
  | 0x2d => .ok (.jlr d a imm15)
  | 0x2e => fixedIs (a == 0 && field w 12 3 == 0) (.yrd d (field w 0 12))
  | 0x2f => fixedIs (d == 0 && field w 12 3 == 0) (.ywr a (field w 0 12))
  | 0x30 => coded (Fmt.ofCode (field w 6 4)) fun t => decVec0 d a b t m f3
  | 0x31 => coded (Fmt.ofCode (field w 6 4)) fun t => decVec1 d a b t m f3
  | 0x32 => coded (Fmt.ofCode (field w 6 4)) fun t => decVec2 d a b t m f3
  | 0x33 => coded (Fmt.ofCode (field w 6 4)) fun t => decVec3 d a b t m f3
  | 0x34 => coded (Fmt.ofCode (field w 6 4)) fun t => decVec4 d a b t m f3
  | 0x35 => coded (Fmt.ofCode (field w 6 4)) fun t => decVec5 d a b t m f3
  | 0x36 => coded (Fmt.ofCode (field w 6 4)) fun t => decCvt d a (field w 14 1) (field w 10 4) t m f3
  | 0x37 => coded (Fmt.ofCode (field w 6 4)) fun t => decVec7 d a b t m f3
  | 0x38 => decMatrix d a b k (field w 4 3) (field w 0 4)
  | 0x39 => decMmac d a b k (field w 3 4) (field w 2 1) (field w 1 1) (field w 0 1)
  | 0x3a => decAtoll d a b k f7
  | 0x3c => decMessage d a b k f7
  | 0x3d => decJournal d a b k f7
  | _ => .error .reservedMajor

/-- Decode one word (01 R36 step 2). -/
def decodeWord (w : InstrWord) : Dec :=
  match decodeFields w with
  | .ok i => if wellFormed i then .ok i else .error .badOperand
  | .error r => .error r

/-- The slot class of an instruction (01 R34): a class A major is a scalar arithmetic or vector major. -/
def isClassA (w : InstrWord) : Bool :=
  let m := (field w 25 6).toNat
  (1 ≤ m && m ≤ 0x0f) || (0x30 ≤ m && m ≤ 0x37)

/-- The L bit: 1 for a lone word (01 R33). -/
def isLone (w : InstrWord) : Bool := field w 31 1 == 1

/-! ### The encoder -/

/-- R format (01 R43). -/
def rWord (l : BitVec 1) (maj : BitVec 6) (d a b : Reg) (f : BitVec 10) : InstrWord :=
  l ++ maj ++ d ++ a ++ b ++ f

/-- I format (01 R43); the B format has the same fields. -/
def iWord (l : BitVec 1) (maj : BitVec 6) (d a : Reg) (imm : BitVec 15) : InstrWord :=
  l ++ maj ++ d ++ a ++ imm

/-- J format (01 R43). -/
def jWord (l : BitVec 1) (maj : BitVec 6) (off : BitVec 25) : InstrWord := l ++ maj ++ off

/-- U format (01 R43). -/
def uWord (l : BitVec 1) (maj : BitVec 6) (d : Reg) (imm : BitVec 20) : InstrWord := l ++ maj ++ d ++ imm

/-- M format (01 R43). -/
def mWord (l : BitVec 1) (maj : BitVec 6) (d base : Reg) (sz : BitVec 3) (sc : BitVec 2) (off : BitVec 10) :
    InstrWord := l ++ maj ++ d ++ base ++ sz ++ sc ++ off

/-- Q format (01 R43). -/
def qWord (l : BitVec 1) (maj : BitVec 6) (d a b : Reg) (k : Reg3) (f : BitVec 7) : InstrWord :=
  l ++ maj ++ d ++ a ++ b ++ k ++ f

/-- V format (01 R43). -/
def vWord (l : BitVec 1) (maj : BitVec 6) (d a b : Reg) (t : BitVec 4) (m f : Reg3) : InstrWord :=
  l ++ maj ++ d ++ a ++ b ++ t ++ m ++ f

/-- One bit from a Bool. -/
def bit (b : Bool) : BitVec 1 := if b then 1 else 0

/-- The word of an instruction, with L as given (1 for a lone word); none for an event. -/
def encodeWith (l : BitVec 1) : Instr → Option InstrWord
  | .add d a b => some (rWord l 0x01 d a b 0x000) | .sub d a b => some (rWord l 0x01 d a b 0x001)
  | .and d a b => some (rWord l 0x01 d a b 0x002) | .or d a b => some (rWord l 0x01 d a b 0x003)
  | .xor d a b => some (rWord l 0x01 d a b 0x004) | .andn d a b => some (rWord l 0x01 d a b 0x005)
  | .sll d a b => some (rWord l 0x01 d a b 0x006) | .srl d a b => some (rWord l 0x01 d a b 0x007)
  | .sra d a b => some (rWord l 0x01 d a b 0x008) | .ror d a b => some (rWord l 0x01 d a b 0x009)
  | .slt d a b => some (rWord l 0x01 d a b 0x00a) | .sltu d a b => some (rWord l 0x01 d a b 0x00b)
  | .min d a b => some (rWord l 0x01 d a b 0x00c) | .max d a b => some (rWord l 0x01 d a b 0x00d)
  | .minu d a b => some (rWord l 0x01 d a b 0x00e) | .maxu d a b => some (rWord l 0x01 d a b 0x00f)
  | .mul d a b => some (rWord l 0x01 d a b 0x010) | .mulh d a b => some (rWord l 0x01 d a b 0x011)
  | .mulhu d a b => some (rWord l 0x01 d a b 0x012) | .div d a b => some (rWord l 0x01 d a b 0x013)
  | .divu d a b => some (rWord l 0x01 d a b 0x014) | .rem d a b => some (rWord l 0x01 d a b 0x015)
  | .remu d a b => some (rWord l 0x01 d a b 0x016) | .sh1add d a b => some (rWord l 0x01 d a b 0x017)
  | .sh2add d a b => some (rWord l 0x01 d a b 0x018) | .sh3add d a b => some (rWord l 0x01 d a b 0x019)
  | .clz d a => some (rWord l 0x01 d a 0 0x01a) | .ctz d a => some (rWord l 0x01 d a 0 0x01b)
  | .popc d a => some (rWord l 0x01 d a 0 0x01c)
  | .addi d a i => some (iWord l 0x02 d a i) | .andi d a i => some (iWord l 0x03 d a i)
  | .ori d a i => some (iWord l 0x04 d a i) | .muli d a i => some (iWord l 0x05 d a i)
  | .xori d a i => some (iWord l 0x06 d a i) | .slti d a i => some (iWord l 0x07 d a i)
  | .sltiu d a i => some (iWord l 0x08 d a i)
  | .slli d a s => some (iWord l 0x09 d a ((0 : BitVec 7) ++ (0 : BitVec 2) ++ s))
  | .srli d a s => some (iWord l 0x09 d a ((0 : BitVec 7) ++ (1 : BitVec 2) ++ s))
  | .srai d a s => some (iWord l 0x09 d a ((0 : BitVec 7) ++ (2 : BitVec 2) ++ s))
  | .rori d a s => some (iWord l 0x09 d a ((0 : BitVec 7) ++ (3 : BitVec 2) ++ s))
  | .lui d i => some (uWord l 0x0a d i) | .addpc d i => some (uWord l 0x0b d i)
  | .luh d i => some (uWord l 0x0c d i)
  | .beq a b o => some (iWord l 0x10 a b o) | .bne a b o => some (iWord l 0x11 a b o)
  | .blt a b o => some (iWord l 0x12 a b o) | .bge a b o => some (iWord l 0x13 a b o)
  | .bltu a b o => some (iWord l 0x14 a b o) | .bgeu a b o => some (iWord l 0x15 a b o)
  | .j o => some (jWord l 0x16 o) | .jl o => some (jWord l 0x17 o) | .jlr d a i => some (iWord l 0x2d d a i)
  | .endA => some (rWord l 0x2c 0 0 0 1) | .sysc => some (rWord l 0x2c 0 0 0 2)
  | .brk => some (rWord l 0x2c 0 0 0 3) | .eret => some (rWord l 0x2c 0 0 0 4)
  | .yrd d n => some (iWord l 0x2e d 0 ((0 : BitVec 3) ++ n))
  | .ywr a n => some (iWord l 0x2f 0 a ((0 : BitVec 3) ++ n))
  | .ld d b s o => some (mWord l 0x18 d b s.code 0 o) | .ldz d b s o => some (mWord l 0x19 d b s.code 0 o)
  | .st r b s o => some (mWord l 0x1a r b s.code 0 o)
  | .ldaq d b s c o => some (mWord l 0x1b d b s.code c.code o)
  | .strl r b s c o => some (mWord l 0x1c r b s.code c.code o)
  | .ldx d a b s h => some (rWord l 0x1d d a b ((0 : BitVec 3) ++ s.code ++ h ++ (0 : BitVec 2)))
  | .stx d a b s h => some (rWord l 0x1d d a b ((1 : BitVec 3) ++ s.code ++ h ++ (0 : BitVec 2)))
  | .pref a b h => some (rWord l 0x1d 0 a b ((2 : BitVec 3) ++ (0 : BitVec 3) ++ h ++ (0 : BitVec 2)))
  | .pld d a s n => some (rWord l 0x1d d a 0
      ((3 : BitVec 3) ++ s.code.setWidth 2 ++ n ++ (0 : BitVec 1)))
  | .fence ks c => some (rWord l 0x1d 0 0 0 ((4 : BitVec 3) ++ ks ++ c.code ++ (0 : BitVec 1)))
  | .fencee ks c => some (rWord l 0x1d 0 0 0 ((5 : BitVec 3) ++ ks ++ c.code ++ (0 : BitVec 1)))
  | .amo op d a b s c o => some (rWord l 0x1e d a b (op.code ++ s.code.setWidth 2 ++ c.code ++ o.code))
  | .cas d a b s c o => some (rWord l 0x1f d a b ((0 : BitVec 3) ++ s.code ++ c.code ++ o.code))
  | .casq d a b c o => some (rWord l 0x1f d a b ((1 : BitVec 3) ++ (4 : BitVec 3) ++ c.code ++ o.code))
  | .famo h d a b c o => some (rWord l 0x1f d a b
      ((2 : BitVec 3) ++ (bit h).setWidth 3 ++ c.code ++ o.code))
  | .qpush p b => some (qWord l 0x20 0 p b 0 0x01) | .qpushNb d p b => some (qWord l 0x20 d p b 0 0x02)
  | .qpop d p => some (qWord l 0x20 d p 0 0 0x03) | .qtry d p b => some (qWord l 0x20 d p b 0 0x04)
  | .qpeek d p b => some (qWord l 0x20 d p b 0 0x05) | .qbindIn p b => some (qWord l 0x20 0 p b 0 0x06)
  | .qbindOut p b => some (qWord l 0x20 0 p b 0 0x07) | .qunb p => some (qWord l 0x20 0 p 0 0 0x08)
  | .qcnt d p => some (qWord l 0x20 d p 0 0 0x09) | .qattr d p b => some (qWord l 0x20 d p b 0 0x0a)
  | .qmark p => some (qWord l 0x20 0 p 0 0 0x0b)
  | .act d a b => some (qWord l 0x21 d a b 0 0x01) | .forkStall d a b => some (qWord l 0x21 d a b 0 0x02)
  | .forkInline d a b => some (qWord l 0x21 d a b 0 0x03)
  | .forkBusy d a b => some (qWord l 0x21 d a b 0 0x04) | .sync => some (qWord l 0x21 0 0 0 0 0x05)
  | .spawn d a b => some (qWord l 0x21 d a b 0 0x06) | .crew d a b => some (qWord l 0x21 d a b 0 0x07)
  | .yield => some (qWord l 0x21 0 0 0 0 0x08) | .prio a => some (qWord l 0x21 0 a 0 0 0x09)
  | .bar a => some (qWord l 0x22 0 a 0 0 0x01) | .bara a => some (qWord l 0x22 0 a 0 0 0x02)
  | .barw a => some (qWord l 0x22 0 a 0 0 0x03) | .binit a b => some (qWord l 0x22 0 a b 0 0x04)
  | .rset h a b => some (qWord l 0x23 h a b 0 0x01) | .radvw h b => some (qWord l 0x23 0 h b 0 0x02)
  | .radvr h b => some (qWord l 0x23 0 h b 0 0x03) | .rwaitf h b => some (qWord l 0x23 0 h b 0 0x04)
  | .rwaite h b => some (qWord l 0x23 0 h b 0 0x05) | .rposW d h => some (qWord l 0x23 d h 0 0 0x06)
  | .rposR d h => some (qWord l 0x23 d h 0 0 0x07)
  | .twait a => some (qWord l 0x24 0 a 0 0 0x01) | .tpoll d a => some (qWord l 0x24 d a 0 0 0x02)
  | .cpy a b k => some (qWord l 0x28 0 a b k 0x01) | .cpy2 a b k => some (qWord l 0x28 0 a b k 0x02)
  | .cpyi a b k => some (qWord l 0x28 0 a b k 0x03) | .cpys a h k => some (qWord l 0x28 0 a h k 0x04)
  | .cfill a b k => some (qWord l 0x28 0 a b k 0x05) | .carm a b k => some (qWord l 0x28 0 a b k 0x06)
  | .cdis a => some (qWord l 0x28 0 a 0 0 0x07)
  | .rld d a k o => some (qWord l 0x29 d a 0 k ((1 : BitVec 4) ++ o))
  | .rst a b k o => some (qWord l 0x29 0 a b k ((2 : BitVec 4) ++ o))
  | .rcas d a b k o => some (qWord l 0x29 d a b k ((3 : BitVec 4) ++ o))
  | .ramo op d a b k o => some (qWord l 0x29 d a b k ((op.code + 4) ++ o))
  | .vadd d a b t m => some (vWord l 0x30 d a b t.code m 0) | .vsub d a b t m => some (vWord l 0x30 d a b t.code m 1)
  | .vmul d a b t m => some (vWord l 0x30 d a b t.code m 2) | .vfma d a b t m => some (vWord l 0x30 d a b t.code m 3)
  | .vfnma d a b t m => some (vWord l 0x30 d a b t.code m 4) | .vmin d a b t m => some (vWord l 0x30 d a b t.code m 5)
  | .vmax d a b t m => some (vWord l 0x30 d a b t.code m 6) | .vabs d a t m => some (vWord l 0x30 d a 0 t.code m 7)
  | .vcmpeq d a b t m => some (vWord l 0x31 d a b t.code m 0)
  | .vcmpne d a b t m => some (vWord l 0x31 d a b t.code m 1)
  | .vcmplt d a b t m => some (vWord l 0x31 d a b t.code m 2)
  | .vcmple d a b t m => some (vWord l 0x31 d a b t.code m 3)
  | .vsel d a b t m => some (vWord l 0x31 d a b t.code m 4)
  | .vmand d a b => some (vWord l 0x31 d a b 0 0 5) | .vmor d a b => some (vWord l 0x31 d a b 0 0 6)
  | .vmxor d a b => some (vWord l 0x31 d a b 0 0 7)
  | .vand d a b m => some (vWord l 0x32 d a b 0 m 0) | .vor d a b m => some (vWord l 0x32 d a b 0 m 1)
  | .vxor d a b m => some (vWord l 0x32 d a b 0 m 2) | .vshl d a b t m => some (vWord l 0x32 d a b t.code m 3)
  | .vshr d a b t m => some (vWord l 0x32 d a b t.code m 4) | .vsra d a b t m => some (vWord l 0x32 d a b t.code m 5)
  | .vclip d a b t m => some (vWord l 0x32 d a b t.code m 6) | .vscl d a b t m => some (vWord l 0x32 d a b t.code m 7)
  | .vperm d a b t m => some (vWord l 0x33 d a b t.code m 0) | .vbcst d a t m => some (vWord l 0x33 d a 0 t.code m 1)
  | .vmvx d a b t => some (vWord l 0x33 d a b t.code 0 2) | .vins d a b t => some (vWord l 0x33 d a b t.code 0 3)
  | .vslide d a b t m => some (vWord l 0x33 d a b t.code m 4) | .vzip d a b t m => some (vWord l 0x33 d a b t.code m 5)
  | .vuzp d a b t m => some (vWord l 0x33 d a b t.code m 6) | .vmov d a t m => some (vWord l 0x33 d a 0 t.code m 7)
  | .vrsum d a t m => some (vWord l 0x34 d a 0 t.code m 0) | .vrmax d a t m => some (vWord l 0x34 d a 0 t.code m 1)
  | .vrmin d a t m => some (vWord l 0x34 d a 0 t.code m 2) | .vrdot d a b t m => some (vWord l 0x34 d a b t.code m 3)
  | .vrcp d a t m => some (vWord l 0x35 d a 0 t.code m 0) | .vrsq d a t m => some (vWord l 0x35 d a 0 t.code m 1)
  | .vexp2 d a t m => some (vWord l 0x35 d a 0 t.code m 2) | .vlog2 d a t m => some (vWord l 0x35 d a 0 t.code m 3)
  | .vcvt d a tt ts rm s m => some (vWord l 0x36 d a (bit s ++ ts.code) tt.code m rm.code)
  | .vld d h t => some (vWord l 0x37 d h 0 t.code 0 0) | .vst h b t => some (vWord l 0x37 0 h b t.code 0 1)
  | .vgath d a b t m => some (vWord l 0x37 d a b t.code m 2) | .vscat d a b t m => some (vWord l 0x37 d a b t.code m 3)
  | .vtrb d a t => some (vWord l 0x37 d a 0 t.code 0 4) | .vtrbi d a t => some (vWord l 0x37 d a 0 t.code 0 5)
  | .vpark d a => some (vWord l 0x37 d a 0 0 0 6) | .vunpk d a => some (vWord l 0x37 d a 0 0 0 7)
  | .mzero d k => some (qWord l 0x38 d 0 0 k ((1 : BitVec 3) ++ (0 : BitVec 4)))
  | .mstor a b t k => some (qWord l 0x38 0 a b k ((2 : BitVec 3) ++ t.code))
  | .mread d a b t => some (qWord l 0x38 d a b 0 ((3 : BitVec 3) ++ t.code))
  | .mspan a k => some (qWord l 0x38 0 a 0 k ((4 : BitVec 3) ++ (0 : BitVec 4)))
  | .mpri a => some (qWord l 0x38 0 a 0 0 ((5 : BitVec 3) ++ (0 : BitVec 4)))
  | .mload d b k => some (qWord l 0x38 d 0 b k ((6 : BitVec 3) ++ (0 : BitVec 4)))
  | .mmac d a b t x y s k => some (qWord l 0x39 d a b k (t.code ++ bit x ++ bit y ++ bit s))
  | .ltld h b k => some (qWord l 0x3a 0 h b k 0x01) | .lwld h b k => some (qWord l 0x3a 0 h b k 0x02)
  | .lctx a => some (qWord l 0x3a 0 a 0 0 0x03) | .lrun d h b k => some (qWord l 0x3a d h b k 0x04)
  | .lstat d => some (qWord l 0x3a d 0 0 0 0x05) | .lflush k => some (qWord l 0x3a 0 0 0 k 0x06)
  | .xten d a b => some (qWord l 0x3c d a b 0 0x01) | .xpost d a => some (qWord l 0x3c d a 0 0 0x02)
  | .xsend d a b k => some (qWord l 0x3c d a b k 0x03) | .xcan d a => some (qWord l 0x3c d a 0 0 0x04)
  | .xprobe d a => some (qWord l 0x3c d a 0 0 0x05)
  | .jrec d a => some (qWord l 0x3d d a 0 0 0x01) | .jsync a k => some (qWord l 0x3d 0 a 0 k 0x02)
  | .jtrunc a b => some (qWord l 0x3d 0 a b 0 0x03) | .jstat d a => some (qWord l 0x3d d a 0 0 0x04)
  | .rngc d a b => some (qWord l 0x3d d a b 0 0x05)
  | _ => none

/-- The lone word of an instruction. -/
def encode (i : Instr) : Option InstrWord := encodeWith 1 i

/-! ### The host's entry -/

/-- The instruction this decoder reads from the bits of an opcode-table row: one 32-bit word, stored
little-endian; bits above `nbits` are 0. -/
def decodeTableWord (nbits w : Nat) : Option Instr :=
  match decodeWord (BitVec.ofNat 32 (w % 2 ^ nbits)) with
  | .ok i => some i
  | .error _ => none

end Sys2Proof
end

