-- ==== Sys2Proof/Machine/State.lean ====
section
/-!
DEFINITION. The state of one GR-910 chip as plain data. Fields cite the file and rule of spec/ that give them.
Maps are `FMap`s: a key that is not listed reads as the reset value of its kind (`Core.reset` and so on).
-/

namespace Sys2Proof.Machine

/-! ### Faults, refusals, causes -/

/-- Why the machine stops with a fault. The spec gives every fault of a core an entry or a trap, which is a
next state, so only the model's own guard raises one. -/
inductive Fault where
  /-- Raised by no meaning: kept so that the type is closed and inhabited. Safe. -/
  | stuck
  deriving DecidableEq, Repr

/-- Why the machine refuses. -/
inductive Refusal where
  /-- Raised only by an arm of `exec` whose instruction has no meaning yet. Safe: nothing follows from it. -/
  | notModelled (mnemonic : String)
  deriving DecidableEq, Repr

/-- Causes of faults and engine events (17 R379, 18 R411). -/
inductive Cause where
  | illegalInstruction | misalignedPair | illegalPair | fetchRange | breakpoint | privilege | sysregValue
  | operandRange | addressForm | misalignedAccess | accessKind | translation | protection | windowUnbound
  | queueUnbound | queueDirection | queueBind | queueClosed | activationTarget | barrierNumber | barrierState
  | ringGeometry | ringOverrun | ringUnderrun | parkHandle | tileState | tileSpace | spanState
  | deterministicMode | asyncFailed | journalState | replayDivergence | memoryError
  | roundVoided | templateFailed | queuePeerReset | faultBufferOverflow
  | supervisorCall
  deriving DecidableEq, Repr

/-! ### One core's parts -/

/-- A register an instruction writes: its file and number (01 R38). A ring handle is never pending: its positions are
written at issue. -/
inductive Dest where
  | x (r : Nat) | v (r : Nat) | m (r : Nat) | h (r : Nat)
  deriving DecidableEq, Repr

/-- A ring handle (04 R122, R123; 05 R149 for reserved slots). -/
structure RingH where
  valid : Bool
  base  : Word
  log2  : Nat
  slot  : Nat
  wpos  : BitVec 32
  rpos  : BitVec 32
  resv  : Nat
  deriving DecidableEq, Repr

/-- Why a pending destination will raise a fault when it is touched (05 R142, 16 R372, 18 R411). -/
inductive WaitErr where
  | none
  | memory (addr : Word)
  | failed (token : Nat)
  | diverged (addr : Word)
  deriving DecidableEq, Repr

/-- A destination that is pending until a later step writes it (03 R78, 05 R130, 07 R191). -/
structure Wait where
  id   : Nat
  dest : Dest
  err  : WaitErr
  deriving DecidableEq, Repr

/-- What computes a late result: the divider takes one division at a time (03 R78), and a vector instruction's x register is
awaited by a YRD or YWR of YFLAGS (06 R158). -/
inductive ResultUnit where
  | scalar | divider | vector
  deriving DecidableEq, Repr

/-- A result already computed that becomes usable at clk `ready` (03 R78, 06 R158). -/
structure Pending where
  id    : Nat
  dest  : Dest
  value : Vec
  flags : BitVec 6
  ready : Nat
  unit  : ResultUnit
  deriving DecidableEq, Repr

/-- What one entry of a core's outstanding memory accesses does (05 R130-R140, 06 R170). Addresses are
physical keys of `State.mem`; `lanes` are the parts of one access; `got`
the lanes of a gather that have been read already (R171). -/
inductive MemKind where
  | load (signed : Bool)
  | gather (t : Fmt) (got : List (Nat × List Byte))
  | vload
  | store (data : List (List Byte))
  | amo (op : AmoOp) (v : Word)
  | cas (old new : Word)
  | casq (old new : BitVec 128)
  | famo (half : Bool) (v : Word)
  deriving DecidableEq, Repr

/-- An outstanding load, buffered store or atomic (05 R130, R136). `lanes` are the physical addresses with
their lane number, `size` the bytes of each; `acq` and `rel` the scope at which it acquires or releases (13 R302). `shown` is
the scope at which it counts as performed before its port takes it: until then the agents of that instance find its bytes
held (13 R298, R304). `vas` are its lanes' virtual addresses, `va` the first. -/
structure MemOp where
  id    : Nat
  kind  : MemKind
  lanes : List (Nat × Nat)
  size  : Nat
  dest  : Option Dest
  acq   : Option Scope
  rel   : Option Scope
  shown : Option Scope
  ready : Nat
  va    : Word
  vas   : List Word
  deriving DecidableEq, Repr

/-- A footprint entry (05 R137): the command and its virtual byte ranges, first and last byte. -/
structure Foot where
  id     : Nat
  reads  : List (Nat × Nat)
  writes : List (Nat × Nat)
  deriving DecidableEq, Repr

/-- The first failure recorded against a token (05 R142). -/
structure FailRec where
  status : Nat
  addr   : Word
  word   : InstrWord
  more   : Nat
  deriving DecidableEq, Repr

/-- Kinds of command of the copy engine (05 R145, R152, R143). -/
inductive CopyKind where
  | cpy | cpy2 | cpyi | cpys | cfill | carm
  | remote (op : RemOp)
  deriving DecidableEq, Repr

/-- A channel-table entry (03 R98, 02 R67). -/
structure Chan where
  rm    : RMode
  scale : Nat
  set   : Nat
  zs    : Bool
  fmt   : Fmt
  deriving DecidableEq, Repr

/-- How far a copy-engine command is (05 R141, R148): in the command queue; in flight; held by an absent page; done. -/
inductive Phase where
  | queued | flying | voided | finished
  deriving DecidableEq, Repr

/-- The decoder's place in a decoding copy (10 R256, R259, R261, R262): elements produced, the stream byte from which the
bytes in hand run, those bytes, the channel entry and code-table set that each block or plain run read when it first started,
by its stream byte, the round's output bytes by slice offset, the first three as they stood when the round began, the
aperture address of destination byte 0, the clk at which the round's bytes reached the cluster. -/
structure ZState where
  count  : Nat
  base   : Nat
  bytes  : List Byte
  entries : FMap (Chan × List InstrWord)
  staged : List (Nat × Byte)
  back   : Nat × Nat × List Byte
  out    : Option Nat
  since  : Nat
  deriving DecidableEq, Repr

/-- A part of a round that another chip is still to answer: tag, chip, offset in the round, length. -/
structure Need where
  tag  : Nat
  chip : Nat
  off  : Nat
  len  : Nat
  deriving DecidableEq, Repr

/-- How far a round is (05 R148): its index words, then its source, are translated and read; all is read; other chips are
asked for leave to write; it writes; a decoder has its bytes. -/
inductive Stage where
  | index | read | full | leave | write | decode
  deriving DecidableEq, Repr

/-- A round in hand (05 R148, 12 R292, R293): its stream position and length, whether requests of its stage have left, the
64 KiB pages translated for it (twice the page's number, odd for a write, with the physical address), what is still to be
answered, index words, source bytes, bytes that the round before read past its end, by address, and parts still to be written. -/
structure Round where
  pos   : Nat
  len   : Nat
  stage : Stage
  asked : Bool
  got   : FMap Nat
  need  : List Need
  idx   : List Byte
  buf   : List Byte
  carry : Nat × List Byte
  left  : List (Nat × Nat × Nat)
  deriving DecidableEq, Repr

/-- A command of the copy engine (05 R141-R153, 12 R292). `ring` and `rh` are CPYS's handle and its geometry at issue;
`after` the commands counted on the ordering token; `pos` the stream position of the next round to start, and `carry` what it
takes over; a remote operation that has left is one round. -/
structure CopyCmd where
  id     : Nat
  kind   : CopyKind
  token  : Nat
  counts : Bool
  a0 : Word
  a1 : Word
  b0 : Word
  b1 : Word
  ring   : Nat
  rh     : RingH
  after  : List Nat
  phase  : Phase
  pos    : Nat
  missing : Word
  rounds : List Round
  carry  : Nat × List Byte
  z      : ZState
  dest   : Option Dest
  template : Option (Nat × List Word)
  low    : Word
  window : Nat
  since  : Nat
  pc     : Word
  word   : InstrWord
  deriving DecidableEq, Repr

/-- A copy template (05 R152, R153). -/
structure Template where
  trig : Nat
  done : Nat
  dv   : Bool
  addDst : Bool
  addSrc : Bool
  kind : CopyKind
  a0 : Word
  a1 : Word
  b0 : Word
  b1 : Word
  deriving DecidableEq, Repr

/-- A port binding (04 R102, R103, R108): queue identifier and its chip, direction, value last written. -/
structure Binding where
  queue  : Nat
  chip   : Nat
  output : Bool
  last   : Word
  deriving DecidableEq, Repr

/-- A trigger bound to a handler of the core's role (01 R18). -/
structure Trigger where
  handler : Nat
  queue   : Nat
  entry   : Nat
  deriving DecidableEq, Repr

/-- What a run-queue entry starts (09 R230). -/
inductive EntryKind where
  | trigger (handler queue entry : Nat) (express : Bool)
  | task (act : Nat)
  | cont (act : Nat)
  deriving DecidableEq, Repr

/-- A run-queue entry (09 R230-R233): entry clk, base priority, source order of R233 and its key. -/
structure RunEntry where
  kind : EntryKind
  time : Nat
  base : Nat
  cls  : Nat
  key  : Nat
  deriving DecidableEq, Repr

/-- A fault as raised (17 R380): cause, info, address of the lone word or pair, P, H, the word, the detail. -/
structure Raise where
  cause  : Cause
  info   : Word
  pc     : Word
  pair   : Bool
  aHalf  : Bool
  word   : InstrWord
  detail : Nat
  deriving DecidableEq, Repr

/-- What a core is doing (03 R84-R87, 04 R114-R118, 17 R381-R386). -/
inductive Mode where
  | idle
  | starting (e : RunEntry) (effective readyAt : Nat)
  | running
  | saving (entry done : Nat)
  | inPlace (entry : Nat)
  | holding (r : Raise) (since : Nat)
  | memberCall (num : Nat)
  | stopped
  deriving DecidableEq, Repr

/-- An input of a core under a cut (08 R208): markers awaited and arrived. -/
structure CutInput where
  queue   : Nat
  awaited : Nat
  seen    : Nat
  deriving DecidableEq, Repr

/-- The cut at one core (08 R208, R209): inputs, output set, the queues of it that have been dealt with and the markers pushed,
activations started, report sent. -/
structure Cut where
  inputs   : List CutInput
  outs     : List Nat
  done     : List Nat
  markers  : Nat
  acts     : Nat
  reported : Bool
  deriving DecidableEq, Repr

/-- An Atoll command on its way or in the arrival order (07 R185-R190, 14 R320). -/
inductive AtollKind where
  | ltld (bank : Nat) | lwld (ctx : Nat) | lrun (sel : Word) (steps : Nat) | lflush
  deriving DecidableEq, Repr

/-- An Atoll command: issuing core, input and output handles, token, clk of arrival (14 R320). -/
structure AtollCmd where
  id    : Nat
  core  : Nat
  kind  : AtollKind
  hIn   : Nat
  hOut  : Nat
  rIn   : RingH
  rOut  : RingH
  token : Nat
  at_   : Nat
  word  : InstrWord
  deriving DecidableEq, Repr

/-- A message command on its way to an engine (07 R191, 15 R336). -/
inductive MsgCmd where
  | xten (num : Nat) (words : List Word)
  | post (words : List Word)
  | cancel (handle : Word)
  | probe (words : List Word)
  deriving DecidableEq, Repr

/-- A message command: issuing core, the pending answer's identifier, partition, region, clk of arrival (07 R191). -/
structure EngReq where
  core : Nat
  id   : Nat
  part : Nat
  region : Nat
  at_  : Nat
  cmd  : MsgCmd
  deriving DecidableEq, Repr

/-- A journal record on its way to the unit (16 R357, R358), or a truncation behind it: sequence and position (R376). -/
structure RecReq where
  id    : Nat
  words : List Word
  addr  : Word
  trunc : Option (Nat × Nat)
  at_   : Nat
  deriving DecidableEq, Repr

/-- An activation that an instruction makes (04 R111): its start, arguments, base priority, role, the issuing core and the
issuer's accesses that it must see (R116). -/
structure NewAct where
  start  : Word
  args   : List Word
  base   : Nat
  role   : Nat × Nat
  issuer : Nat
  gate   : List Nat
  deriving DecidableEq, Repr

/-- What takes effect after the A-half (01 R40); `fork` is an inline child with its status register (04 R114). -/
inductive After where
  | none | endAct | sync | sysc (words : List Word) | brk | eret | yield
  | fork (child : NewAct) (d : Nat)
  deriving DecidableEq, Repr

/-- An activation's frame (04 R117, 17 R381). Its bytes lie in the cluster store, in slot `slot` of the cactus stack or, with
`fault`, in that of a fault-buffer entry: x1-x23, PC, YACT, YFLAGS, and of a fault frame v0-v31 and m1-m7. Here stand what the
spec gives no layout for, ring handles and tiles, and what it keeps beside the frame: pending memory errors, a BAR's arrival
(R121), what is still to be done of the pair at the PC (01 R40), failure records, the clk at which the frame is whole (R125).
`bytes` are those of a fault frame whose entry has freed: the next activation to take the entry writes over its slot (log 46). -/
structure Frame where
  fault  : Bool
  slot   : Nat
  h      : FMap RingH
  a      : FMap Nat
  waits  : List Wait
  fails  : FMap FailRec
  barArrived : Bool
  owed   : Option After
  endOnly : Bool
  savedAt : Nat
  bytes  : List Byte
  deriving DecidableEq, Repr

/-- Where a suspended activation waits (03 R84-R86, 04 R114-R119, 09 R234, R235, 17 R381). -/
inductive ActPlace where
  | fresh
  | running (core : Nat)
  | waitChildren
  | ready (since : Nat) (on : Option Nat)
  | queued (core : Nat)
  | inlineParent (core child : Nat) (d : Nat)
  | inlineDone (core : Nat) (d : Nat)
  | inCall (core : Nat)
  | parkedCall (core : Nat)
  | resumed (core : Nat) (words : List Word)
  | faultSaved (core entry : Nat)
  deriving DecidableEq, Repr

/-- An activation (03 R95, 04 R111-R118, 09 R242). `args` are the words of its starting x10 onward; `left` the accesses that it
left outstanding on cores where it was suspended, which its end follows (04 R116); `endAt` the clk of its last child's end. -/
structure Act where
  queue  : Nat
  handler : Nat
  kind   : Nat
  rank   : Nat
  size   : Nat
  eff    : Nat
  base   : Nat
  parent : Option Nat
  children : Nat
  start  : Word
  args   : List Word
  place  : ActPlace
  frame  : Option Frame
  call   : List Word
  span   : Option Nat
  member : Bool
  role   : Option (Nat × Nat)
  home   : Nat
  gate   : Nat × List Nat
  left   : List (Nat × List Nat)
  endAt  : Option Nat
  deriving DecidableEq, Repr

/-- A role on its way to a core that holds none (04 R112): the issuer, whose local store is read, its accesses that come
before, the clk of the first bytes, and the ranges still to copy, by offset and length. -/
structure RoleCopy where
  issuer : Nat
  gate   : List Nat
  at_    : Nat
  ranges : List (Nat × Nat)
  deriving DecidableEq, Repr

/-- One core (00 R1, 02 R54, 03 R90-R97). -/
structure Core where
  /-- Program counter (01 R35). -/
  pc : Word
  /-- x1-x31; x0 reads 0 (02 R54). -/
  x : FMap Word
  /-- v0-v31 (02 R54). -/
  v : FMap Vec
  /-- m1-m7; m0 reads all ones (02 R54). -/
  m : FMap MaskWord
  /-- h0-h15 (04 R122). -/
  h : FMap RingH
  /-- k0-k7 (04 R124). -/
  k : FMap Nat
  /-- a0-a15: the tile each handle is bound to (07 R176). -/
  a : FMap Nat
  /-- YFLAGS bits 5:0 (03 R96). -/
  yflags : BitVec 6
  /-- YWOOB bits 15:0 (03 R90, 12 R295). -/
  ywoob : BitVec 16
  /-- YSTATE.TH (03 R92). -/
  th : Bool
  /-- YSTATE.CUT (03 R92, 08 R204). -/
  cut : Bool
  /-- YSTATE.D (03 R92, 13 R315). -/
  det : Bool
  /-- YCAUSE bits 17:0 (03 R93). -/
  ycause : BitVec 18
  /-- YEPC (03 R90). -/
  yepc : Word
  /-- YINFO (03 R90). -/
  yinfo : Word
  /-- YTVEC (03 R90). -/
  ytvec : Word
  /-- YSCR0-YSCR3 (03 R90). -/
  yscr : FMap Word
  /-- What the core does now. -/
  mode : Mode
  /-- The running activation's number in its cluster (03 R85, R95). -/
  act : Option Nat
  /-- The role the core holds, and the region of its program (01 R18, 04 R112). -/
  role : Option (Nat × Nat)
  /-- Port bindings p0-p7 (04 R102). -/
  ports : FMap Binding
  /-- Trigger bindings (01 R18). -/
  triggers : List Trigger
  /-- Results pending by R78. -/
  pending : List Pending
  /-- The first clk in which the next pair may issue, 3 clk after a JLR, an ERET or a trap (03 R78), or in which the core may
  select, once a frame save has ended (04 R125). -/
  nextPair : Nat
  /-- Destinations pending until an answer (05 R130, 07 R191). -/
  waits : List Wait
  /-- Outstanding loads, buffered stores and atomics (05 R130). -/
  mem : List MemOp
  /-- Stores to code not yet fenced (12 R289): word offset and the old word that fetch may still return. -/
  stale : FMap InstrWord
  /-- Copy and remote commands, queued, in flight or finished (05 R141). -/
  copies : List CopyCmd
  /-- The command that started a round last (12 R292). -/
  copyLast : Nat
  /-- Footprint table (05 R137). -/
  foot : List Foot
  /-- The 64 KiB page that a walk for this core found not present (12 R287), until the access raises translation. -/
  absent : Option Nat
  /-- Failure record of each token (05 R142). -/
  fails : FMap FailRec
  /-- Copy templates 0-7 (05 R152). -/
  templates : FMap Template
  /-- Atoll selection (07 R188). -/
  sel : Word
  /-- Matrix priority (07 R178, 11 R270). -/
  mprio : Nat
  /-- Atoll commands issued and not yet arrived (07 R185). -/
  atollQ : List AtollCmd
  /-- JRECs not yet assigned a jsn (16 R359). -/
  recs : List RecReq
  /-- Journal answers on their way (16 R358): identifier, jsn, clk, and the record's address if it diverges. -/
  recAns : List (Nat × Nat × Nat × Option Word)
  /-- A divergent journal answer waiting to be raised: the record's address (16 R372). -/
  diverged : Option Word
  /-- JSYNCs waiting: identifier, jsn, token (07 R194). -/
  jsyncs : List (Nat × Nat × Nat)
  /-- Run queue (09 R230). -/
  runq : List RunEntry
  /-- Resumed callers with the clk in which their completion was popped, in the order of R235 (09). -/
  resumed : List (Nat × Nat)
  /-- The record that the pair at this PC has made its BAR arrival (04 R121). -/
  barArrived : Bool
  /-- What is still to be done of the pair at this PC, whose halves have taken effect (01 R40). -/
  owed : Option After
  /-- The role that is being copied to this core (04 R112). -/
  roleCopy : Option RoleCopy
  /-- The cut at this core (08 R208). -/
  cutState : Option Cut
  /-- Reported loaded, or staged, and acknowledged its start item (01 R31, 08 R204). -/
  reported : Bool
  acked : Bool
  deriving DecidableEq, Repr

/-! ### One cluster's parts -/

/-- A barrier (04 R120, R121): N, A, the cores whose pending bit is set, the cores that a phase completed in clk
`doneAt` releases in the next clk. -/
structure Barrier where
  n : Nat
  a : Nat
  pend : List Nat
  rel  : List Nat
  doneAt : Option Nat
  deriving DecidableEq, Repr

/-- A crew waiting in the cluster's crew slot (04 R115), or a span's claim of it (09 R239). -/
structure Crew where
  mask  : Nat
  start : Word
  args  : List Word
  prio  : Nat
  role  : Nat × Nat
  issuer : Nat
  span  : Option Nat
  gate  : List Nat
  deriving DecidableEq, Repr

/-- Tile kinds (07 R176). -/
inductive TileKind where
  | none | float | int
  deriving DecidableEq, Repr

/-- An accumulator tile (07 R176, 11 R274): rows held, shape (0 × 0 for none), kind, sticky flags, owner. -/
structure Tile where
  rows  : List Nat
  m     : Nat
  n     : Nat
  kind  : TileKind
  flags : BitVec 6
  owner : Nat
  deriving DecidableEq, Repr

/-- A matrix operand in the own slice (07 R177), `base` its slice offset, with the scale and rounding taken at issue
(10 R264). -/
structure Geo where
  base   : Nat
  pitch  : Nat
  band   : Nat
  rot    : Nat
  rows   : Nat
  cols   : Nat
  scale  : Int
  rm     : RMode
  deriving DecidableEq, Repr

/-- What a matrix command does (07 R178-R183). `old` is a tile whose rows it releases when it completes; `targets`
are cluster offsets of the region. -/
inductive MatKind where
  | mmac (t : Fmt) (sat : Bool) (aReg bReg : Option Vec) (ga gb : Option Geo) (m n k : Nat)
  | mzero (old : Option Nat)
  | mstor (t : Fmt) (g : Geo) (free : Bool)
  | mload (g : Geo) (old : Option Nat)
  | mspan (g : Geo) (off : Nat) (targets : List Nat)
  deriving DecidableEq, Repr

/-- A matrix command in a core's four-entry queue (07 R175, 11 R266-R270): the tile it names with the rows and
shape it took at issue, the next pass, the operand buffers of that pass, rights checked, whether its last pass has
been fetched, the clk since which it waits, the clk at which it completes once its last step is done. -/
structure MatCmd where
  id    : Nat
  kind  : MatKind
  tile  : Nat
  rows  : List Nat
  tm    : Nat
  tn    : Nat
  tkind : TileKind
  token : Nat
  prio  : Nat
  pass  : Nat
  fetched : Bool
  aBuf  : List (List Nat)
  bBuf  : List (List Nat)
  checked : Bool
  lastFetched : Bool
  /-- Lines of the fetch under way that are still to be read, by slice offset (11 R267). -/
  lines : Option (List Nat)
  /-- Bytes of an MSPAN that have been read and not yet written, by place after the operand's base (11 R273). -/
  stage : FMap (List Byte)
  since : Nat
  doneAt : Option Nat
  word  : InstrWord
  deriving DecidableEq, Repr

/-- The pass the matrix unit runs (11 R266, R272, R276): core number, pass number, steps taken of how many, taken
since it was granted or resumed, overtaking, effective priority at its grant, operand buffers, integer sums. -/
structure Pass where
  core  : Nat
  num   : Nat
  kPos  : Nat
  steps : Nat
  taken : Nat
  overtaking : Bool
  eff   : Nat
  aBuf  : List (List Nat)
  bBuf  : List (List Nat)
  sums  : FMap Int
  deriving DecidableEq, Repr

/-- The matrix unit (11 R265-R273). -/
structure Matrix where
  queues  : FMap (List MatCmd)
  grants  : FMap Nat
  ptr     : Nat
  running : Option Pass
  overtaken : Option Pass
  /-- Banks of the slice that the unit has used, and the clk (11 R267). -/
  banks   : List Nat
  bankClk : Nat
  deriving DecidableEq, Repr

/-- The Atoll command in service (14 R320-R323): staged bytes of a load and how many of them moved in clk `nextAt`; or, of a
run, the steps started, the clk from which the next may start, and the output slots due, with the clk, addresses and words of
each. -/
structure AtollServe where
  cmd    : AtollCmd
  staged : List Byte
  moved  : Nat
  steps  : Nat
  nextAt : Nat
  readsDone : Bool
  outs   : List (Nat × List Nat × List Word)
  deriving DecidableEq, Repr

/-- The Atoll (07 R185-R190, 14 R316-R327). -/
structure Atoll where
  ctxs  : FMap (List Byte)
  banks : FMap (List Byte)
  ctxMask  : Nat
  bankMask : Nat
  arrivals : List AtollCmd
  serving  : Option AtollServe
  /-- The first clk in which it may begin to serve again (14 R320). -/
  freeAt   : Nat
  deriving DecidableEq, Repr

/-- A translation-cache entry (12 R287): partition, page-size exponent, virtual page, frame, rights,
and whether D is known set (12 R285). -/
structure TlbEntry where
  part  : Nat
  log2  : Nat
  vpage : Nat
  frame : Nat
  sys   : Bool
  w     : Bool
  r     : Bool
  dirty : Bool
  deriving DecidableEq, Repr

/-- A fault-buffer entry (17 R382, R384): the activation and its core, in place or saved, ticket, the fault,
frame written. `after` is an Action that waits for the frame (0 none). -/
structure FaultEntry where
  valid  : Bool
  inPlace : Bool
  ticket : Nat
  gen    : Nat
  core   : Nat
  act    : Nat
  raise  : Raise
  written : Bool
  after  : Nat
  deriving DecidableEq, Repr

/-- Power states (17 R398). -/
inductive Power where
  | running | clockGated | powerGated | waking (done : Nat)
  deriving DecidableEq, Repr

/-- A slice-map entry (12 R282). -/
structure SliceMap where
  r : Bool
  w : Bool
  s : Bool
  deriving DecidableEq, Repr

/-- One cluster (00 R1, 03 R90). -/
structure Cluster where
  /-- YREGION.Generation (03 R94). -/
  gen : Nat
  /-- YREGION.Partition (03 R94). -/
  part : Nat
  /-- YREGION rows less one, columns less one, Row0, Col0 (03 R94). -/
  rows1 : Nat
  cols1 : Nat
  row0 : Nat
  col0 : Nat
  /-- The program whose region holds the cluster, by the cluster index of its origin. -/
  region : Option Nat
  /-- YSYSQ: V and identifier (03 R90). -/
  sysq : Option Nat
  /-- YAGEI (03 R90). -/
  yagei : BitVec 16
  /-- YCEIL (03 R90). -/
  yceil : BitVec 5
  /-- YZ0-YZ31 (03 R98). -/
  z : FMap Int
  /-- YCH0-YCH31 (03 R98). -/
  chans : FMap Chan
  /-- Code-table sets 0-3: word 16t + e of set n at key 128n + 16t + e (02 R67, 10 R255). -/
  codes : FMap InstrWord
  /-- Slice map, 16 entries (12 R282). -/
  slice : FMap SliceMap
  /-- The slice offset of the cactus stack and the frames that it holds (04 R118, 09 R241). -/
  stack : Nat
  stackFrames : Nat
  /-- The slice offset of the 16 fault frames (17 R381). -/
  faultStack : Nat
  /-- Activations by number (03 R85). -/
  acts : FMap Act
  /-- Bytes of queue storage in use (09 R217). -/
  qbytes : Nat
  /-- Cluster barriers, key owner × 1,024 + index (04 R120, 09 R243). -/
  bars : FMap Barrier
  /-- Crew slot (04 R115). -/
  crew : Option Crew
  /-- The span that holds the cluster (09 R239). -/
  span : Option Nat
  /-- Parked callers, oldest first (03 R86). -/
  callers : List Nat
  /-- The last full signal received for the system-call queue (03 R86). -/
  sysFull : Bool
  /-- Accumulator rows (11 R274). -/
  acc : FMap Vec
  /-- Tiles by number (07 R176). -/
  tiles : FMap Tile
  nextTile : Nat
  /-- Parking slots: row and owning activation (06 R174). -/
  parks : FMap Nat
  /-- Rows freed in this clk, free for allocation from the next (11 R275). -/
  freed : FMap Nat
  /-- Matrix unit (11 R265). -/
  mat : Matrix
  /-- Atoll (07 R185). -/
  atoll : Atoll
  /-- The clk in which the decoder took its last block (10 R262). -/
  decoded : Option Nat
  /-- Replies of another generation dropped at ingress (15 R353). -/
  lateReplies : Nat
  /-- Fault buffer, 16 entries (17 R382). -/
  faults : FMap FaultEntry
  /-- Overflow bit (17 R383). -/
  overflow : Bool
  /-- Translation cache, most recently used first (12 R287). -/
  tlb : List TlbEntry
  /-- Power state and request (17 R398). -/
  power : Power
  request : Nat
  /-- A freeze wave has stopped the cluster (17 R390). -/
  frozen : Bool
  deriving DecidableEq, Repr

/-! ### Queues -/

/-- A producer or consumer of a queue (01 R23, 09 R225, R228); `far` is a producer of another chip with the Strait port at which
its items arrive, `queueOn` a consumer that is a queue of another chip. -/
inductive Party where
  | core (c port : Nat)
  | client (id : Nat)
  | service
  | engine (e : Nat)
  | chip (c : Nat)
  | far (c port : Nat)
  | queueOn (c q : Nat)
  deriving DecidableEq, Repr

/-- An item or marker of a queue (08 R205, 16 R364); `cut` is the region whose cut a marker belongs to, none of a QMARK's
marker (08 R212, R213). -/
structure Elem where
  words    : List Word
  marker   : Bool
  stamp    : Nat
  released : Bool
  src      : Party
  cut      : Option Nat
  deriving DecidableEq, Repr

/-- A flit of a queue on its way (09 R218-R223): the item, the router where it waits, the stage it is bound
for (a relay's number, or past the relays the consumers), the branches still to reach, the clk since which it
waits there, whether its credit is still to return, a number that its copies share, and the producer core's
earlier accesses that must be performed before it is accepted (the push releases, 04 R102). `port` is the router's input
port at which it waits: 0-3 the link on that side, 4 the cluster's own port, 5 the system block's (09 R223, R419). -/
structure Flit where
  elem  : Elem
  place : Nat
  port  : Nat
  stage : Nat
  branches : List Nat
  since : Nat
  credit : Bool
  seq    : Nat
  gate   : List Nat
  deriving DecidableEq, Repr

/-- What a mesh link did last (09 R223): the clk of its last flit, the express flits in a row that it ends, served while a flit of
another class waited, and the input port served last with an express flit and with another. -/
structure LinkUse where
  clk     : Nat
  run     : Nat
  express : Nat
  other   : Nat
  deriving DecidableEq, Repr

/-- A link that has carried nothing (log 20). -/
def LinkUse.unused : LinkUse := ⟨0, 0, 5, 5⟩

/-- A consumer branch with the router at which the consumer is reached and its storage (09 R217, R220, R419); for a client, the items delivered and the slots returned
(18 R408). -/
structure Branch where
  consumer : Party
  router   : Nat
  store    : List Elem
  tail     : Nat
  credited : Nat
  deriving DecidableEq, Repr

/-- A queue object (09 R216). `subs` are the sub-queues of a keyed merge by producer number, `mprod` the
producers in number order (09 R225); `credits` the credits of each producer binding (09 R218), `returns` the producers
whose credits are due; `order` the items that some branch has taken and others have not, by their number with the
branches still to take them, in the order that every branch keeps (09 R220, 08 R206); `beyond` the flits sent to a consumer's
queue on another chip and not yet accepted there. `farConsumers` and `farRelays` are the counts that another chip told of its queue (04 R109). -/
structure Queue where
  part   : Nat
  region : Option Nat
  words  : Nat
  log2   : Nat
  window : Nat
  chan   : Nat
  prio   : Nat
  cls    : Nat
  merge  : Bool
  relays : List (Nat × List Elem)
  branches : List Branch
  subs   : List (List Elem)
  mprod  : List Party
  credits : List (Party × Nat)
  entryQ : Bool
  isOpen : Bool
  named  : List Nat
  flight : List Flit
  returns : List Party
  order : List (Nat × List Nat)
  beyond : List Flit
  farConsumers : Nat
  farRelays : Nat
  deriving DecidableEq, Repr

/-! ### The chip's other units -/

/-- A partition (17 R395). -/
structure Partition where
  row0 : Nat
  col0 : Nat
  rows : Nat
  cols : Nat
  root : Nat
  qLo  : Nat
  qN   : Nat
  ceil : Nat
  faultQ : Nat
  sysQ : Option Nat
  permitted : List (Nat × Nat)
  express : Bool
  hbm : List (Nat × Nat)
  deriving DecidableEq, Repr

/-- A role image as loaded (01 R17, 02 R69, R70). -/
structure Role where
  num   : Nat
  off   : Nat
  ports : List (Nat × Nat)
  handlers : List (Nat × Nat)
  code  : List InstrWord
  dataOff : Nat
  data  : List Byte
  atoll : Option (List InstrWord)
  deriving DecidableEq, Repr

/-- An image as the image service holds it (01 R13-R25, 02 R67-R70). `place` entries are row, column, rows, columns, role
and core mask; `edges` parent, child and forwarder; `wins` number, external, size and contents; `digest` the SHA3-384 of
the container. -/
structure Image where
  id    : Nat
  rows  : Nat
  cols  : Nat
  det   : Bool
  roles : List Role
  place : List (Nat × Nat × Nat × Nat × Nat × Nat)
  queues : List (List InstrWord)
  placeWords : List InstrWord
  queueWords : List InstrWord
  root  : Nat
  edges : List (Nat × Nat × Nat)
  chans : List (Nat × Chan)
  scales : List (Nat × Int)
  codes : List (Nat × InstrWord)
  wins  : List (Nat × Bool × Nat × List Byte)
  tensors : List (Nat × List Word)
  digest : List Byte
  deriving DecidableEq, Repr

/-- Where a program stands (01 R30-R32, 08 R203-R212, 17 R397). -/
inductive ProgPhase where
  | loading | starting | live | staging | cutting | committing
  deriving DecidableEq, Repr

/-- A resident program and its load or replacement in progress. `blocks` are the image blocks still to reach
clusters: cluster, section type and role (01 R26); `marks` the entry queues that the service has still to mark (08 R204). -/
structure Program where
  image : Image
  part  : Nat
  qmap  : List (Nat × Nat)
  phase : ProgPhase
  blocks : List (Nat × Nat × Nat)
  wins  : FMap (List Byte)
  tens  : FMap Nat
  next  : Option Image
  nextReq : Option LoadReq
  cutAt : Nat
  timeout : Nat
  marks : List Nat
  deriving DecidableEq, Repr

/-- A tensor-table entry (15 R333). -/
structure TensorEntry where
  part  : Nat
  region : Nat
  words : List Word
  deriving DecidableEq, Repr

/-- A communicator: the partition of each rank held on this chip, and the chip of each other (15 R330). -/
structure Comm where
  ranks : List (Nat × Nat)
  far   : List (Nat × Nat)
  deriving DecidableEq, Repr

/-- States of a post slot (15 R339, R345). -/
inductive PostState where
  | free | posted | matched | completing | pushed
  deriving DecidableEq, Repr

/-- A post (07 R192, 15 R336). `order` is its place among the matches; `ready` the clk of its next move; `pulling` that its
pull counts among its core's commands in flight, `asked` that a round is on its way, `parts` what has come of it, `buf` the
round's bytes, `got` the pages translated for it. -/
structure Post where
  words : List Word
  part  : Nat
  region : Nat
  core  : Nat
  state : PostState
  gen   : Nat
  uses  : Nat
  msg   : Option MsgHeader
  landed : Nat
  status : Nat
  order : Nat
  ready : Nat
  asked : Bool
  pulling : Bool
  parts : List (Nat × List Byte)
  buf : List Byte
  got : FMap Nat
  deriving DecidableEq, Repr

/-- What a receive engine decides: an admitted header, or a post that has taken a slot (15 R336, R337). -/
inductive Admission where
  | header (h : MsgHeader)
  | post (slot : Nat)
  deriving DecidableEq, Repr

/-- An eager message of another chip whose flits are arriving (15 R340, R349): its header, and its payload's parts by place. -/
structure Forming where
  chip : Nat
  inc  : Nat
  cmd  : Nat
  hdr  : Option MsgHeader
  parts : List (Nat × List Byte)
  deriving DecidableEq, Repr

/-- A receive engine (15 R330-R346): commands and headers with their clk of arrival, eager messages of other chips still arriving,
payloads of messages sent to other chips, which a refusal may need again, headers held in the reorder store, what is to be
decided with the clk of its decision, the posted list, the post slots, the unexpected queue, refused headers
with their back-off and the clk of their retry, next expected and next sent number of each triple, the next slot to take,
each partition's shares, answers on their way with their clk of arrival, and how many matches it has made. -/
structure Engine where
  inbox : List EngReq
  wire  : List (Nat × MsgHeader)
  forming : List Forming
  kept  : FMap (List Byte)
  held  : List MsgHeader
  deciding : List (Nat × Admission)
  posted : List Nat
  slots : FMap Post
  unexpected : List MsgHeader
  refused : List (MsgHeader × Nat × Nat)
  expected : List ((Nat × Nat × Nat) × Nat)
  numbering : List ((Nat × Nat × Nat) × Nat)
  nextSlot : Nat
  shares : FMap (Nat × Nat × Nat)
  answers : List (Nat × Nat × Word × Nat)
  matches_ : Nat
  deriving DecidableEq, Repr

/-- An XSEND whose payload is still needed (07 R193, 15 R340); `due` flits of it have been formed and are still to leave, after
which it completes. -/
structure Sending where
  id    : Nat
  core  : Nat
  token : Nat
  part  : Nat
  va    : Word
  hdr   : MsgHeader
  word  : InstrWord
  due   : Nat
  deriving DecidableEq, Repr

/-- The journal unit (16 R358-R368). -/
structure Journal where
  partner : Nat
  pInc    : Nat
  state   : Nat
  enable  : BitVec 16
  last    : Nat
  acked   : Nat
  sent    : Nat
  buffer  : List (Nat × List Word)
  truncs  : List (Nat × Nat × Nat × Nat)
  target  : Nat
  /-- Records that wait, in jsn order, for their slots of the own copy (16 R360). -/
  unwritten : List (Nat × List Word)
  deriving DecidableEq, Repr

/-- One ring of the journal store (16 R360, R361): source chip, incarnation, V, slots in use, last written
and acknowledged jsn, records arrived and not yet written. -/
structure JRing where
  chip  : Nat
  inc   : Nat
  valid : Bool
  slots : FMap (List Word)
  wrote : Nat
  ackd  : Nat
  arrived : List (Nat × List Word)
  lost  : Bool
  deriving DecidableEq, Repr

/-- A replay-table entry (16 R370). -/
structure Replay where
  seq   : Nat
  part  : Nat
  valid : Bool
  count : Nat
  slot  : Nat
  deriving DecidableEq, Repr

/-- A Strait port (15 R348-R352): state register fields, stale-flit count, items dropped for want of a
queue (09 R229), waiting flits, the express slots in a row served while
another flit waited and the slots in which a guarded flit has waited (R350), the clk at which it went down. -/
structure Strait where
  peer  : Nat
  pinc  : Nat
  pairs : Nat
  state : Nat
  stale : Nat
  lost  : Nat
  egress : List StraitFlit
  run    : Nat
  gap    : Nat
  downAt : Nat
  deriving DecidableEq, Repr

/-- A permitted-range entry (15 R354), its two words. -/
structure RangeEntry where
  w0 : Word
  w1 : Word
  deriving DecidableEq, Repr

/-- A remote-fault log entry (15 R355). -/
structure LogEntry where
  req   : RemReq
  cause : Nat
  deriving DecidableEq, Repr

/-- A host client-table entry (18 R402), its two words. -/
structure ClientEntry where
  w0 : Word
  w1 : Word
  deriving DecidableEq, Repr

/-- A host port (18 R403-R409): client table, outstanding transactions not yet performed in order of arrival, pushes
on their way to acceptance with their flit's number, deliveries whose tail index waits for the client's flush, and
transactions that a reset has cut short. -/
structure HostPort where
  clients : FMap ClientEntry
  waiting : List HostTx
  pushed  : List (HostTx × Nat)
  tails   : List (Nat × Nat)
  aborted : List HostTx
  tlb : List TlbEntry
  deriving DecidableEq, Repr

/-- A key-store slot (18 R412): 0 empty, 1 active, 2 revoked; identifier; public key. -/
structure KeySlot where
  state : Nat
  id    : Nat
  key   : List Byte
  deriving DecidableEq, Repr

/-- An island register (18 R415). -/
structure Island where
  current : Nat
  floor_  : Nat
  request : Nat
  deriving DecidableEq, Repr

/-- A span (09 R238-R240). `counted` are the cores whose arrivals the network has counted in a barrier's phase;
`inFlight` and `releases` are barrier, core and clk of what is on its way. -/
structure Span where
  region : Nat
  orow : Nat
  ocol : Nat
  rows : Nat
  cols : Nat
  mask : Nat
  start : Word
  args : List Word
  prio : Nat
  role : Nat × Nat
  issuer : Nat
  tag  : Word
  claimed : List Nat
  placed : Bool
  started : Bool
  members : Nat
  bars : FMap Barrier
  counted : FMap (List Nat)
  inFlight : List (Nat × Nat × Nat)
  releases : List (Nat × Nat × Nat)
  deriving DecidableEq, Repr

/-- What an engine translates for (12 R287): a command or send by its identifier, or a landing. -/
inductive Client where
  | command (id : Nat)
  | post (engine slot : Nat)
  deriving DecidableEq, Repr

/-- A page walk in progress or waiting (12 R287): cluster, partition, virtual address, cores and engines' clients that wait
on it, the clk of its arrival. -/
structure Walk where
  cluster : Nat
  part : Nat
  va   : Nat
  write : Bool
  waiters : List Nat
  clients : List Client
  since : Nat
  deriving DecidableEq, Repr

/-- QBIND.OUT's question to another chip and its answer (04 R108): accepted or not, and the attributes. -/
structure Ask where
  core  : Nat
  port  : Nat
  chip  : Nat
  queue : Nat
  answer : Option (Bool × List Nat)
  deriving DecidableEq, Repr

/-- A decoding copy of another chip (10 R262): its issuer and identifier, the decoder's place, the chunks of its round that
have arrived, by offset, and the request that ends it. -/
structure DecodeJob where
  chip : Nat
  inc  : Nat
  core : Nat
  id   : Nat
  z    : ZState
  chunks : List (Nat × List Byte)
  last : Option RemReq
  deriving DecidableEq, Repr

/-- A page kept in far memory (17 R387). -/
structure FarPage where
  part : Nat
  va   : Nat
  cells : List Host.Cell
  deriving DecidableEq, Repr

/-- A freeze in progress (17 R390-R393). -/
structure Freeze where
  value   : Word
  startAt : Nat
  drained : Bool
  read    : Bool
  deriving DecidableEq, Repr

/-- A freeze image (17 R392): every core and cluster of the region by its offset, the stores' bytes by
offset, and the program. -/
structure FrozenImage where
  rows : Nat
  cols : Nat
  part : Nat
  cores : FMap Core
  clusters : FMap Cluster
  locals : List Host.Cell
  slices : List Host.Cell
  prog : Option Program
  spans : FMap Span
  origin : Nat
  deriving DecidableEq, Repr

/-- An ACT on its way between clusters (04 R113): issuer, pending identifier, target cluster, core choice,
word, arguments, priority, arrival clk; `answer` once the target has answered. -/
structure ActReq where
  core : Nat
  id   : Nat
  cluster : Nat
  word : Word
  args : List Word
  prio : Nat
  role : Nat × Nat
  at_  : Nat
  answer : Option Nat
  gate : List Nat
  deriving DecidableEq, Repr

/-- What leaves the chip or is reported to its requester. -/
inductive Out where
  | status (kind : Nat) (region status id : Nat)
  | response (port client tag status inc : Nat) (data : List Byte)
  | deliver (client queue slot : Nat) (words : List Word)
  | tail (client queue tail : Nat)
  | flit (port : Nat) (f : StraitFlit)
  | cutReport (words : List Word)
  | report (words : List Word)
  | bytes (data : List Byte)
  deriving DecidableEq, Repr

/-! ### The pair in progress and the turns of this clk -/

/-- Which word issues (01 R33). -/
inductive Slot where
  | lone | cHalf | aHalf
  deriving DecidableEq, Repr

/-- What a stalled pair leaves behind (00 R11; 04 R121; 12 R287): nothing, a walk that a translation miss
started, the arrival of a BAR, or a member's place among the
cluster's callers (03 R86), or QBIND.OUT's question to another chip (04 R108). -/
inductive Note where
  | none
  | walk (part va : Nat) (write : Bool)
  | arrived (bar : Word)
  | caller (act : Nat)
  | ask (port chip queue : Nat)
  deriving DecidableEq, Repr

/-- Why a half does not complete (00 R10, R11). -/
inductive Stop where
  | stall (n : Note)
  | fault (c : Cause) (info : Word)
  /-- The recorded failure of a token is raised (05 R142). -/
  | failed (token : Nat)
  /-- A divergent journal answer is raised (16 R372). -/
  | diverge (addr : Word)
  /-- A pending memory-error is raised: the access's identifier and address (18 R411). -/
  | poisoned (id : Nat) (addr : Word)
  /-- QBIND's check fails; the port is unbound all the same (04 R108). -/
  | bindFailed (port : Nat) (value : Word)
  deriving DecidableEq, Repr

/-- The pair in progress. `snap` is the core as it stood before the pair: sources are read from it
(01 R37). `popped` are the items its port reads have popped (01 R39), `runs` the x registers a queue pop of
the C-half has written (04 R100), `barWord` the barrier at which it has arrived (04 R121). -/
structure Issue where
  slot   : Slot
  snap   : Option Core
  popped : List (Nat × Word)
  target : Option Word
  after  : After
  stop   : Option Stop
  runs   : List Nat
  barWord : Option Word
  word   : InstrWord
  deriving DecidableEq, Repr

/-- The steps that the chip's units take of their own accord, each named as its row of `Instr` (model's own). -/
inductive Ev where
  | supervisorCoreReset (core : Nat)
  | resultWriteback (core id : Nat) | loadReply (core id : Nat) | storeDrain (core id : Nat)
  | atomicAtPort (core id : Nat) | pageWalk (cluster part va : Nat) | deviceRegisterWrite (offset : Nat) (value : Word)
  | copyEngineAccept (core : Nat) | copyRound (core id : Nat) | roundRestart (core id : Nat)
  | commandComplete (core id : Nat) | templateFiring (core t : Nat) | descriptorCheck (core id : Nat)
  | remoteRequest (i : Nat) | remoteReply (i : Nat) | decodeBlock (core id : Nat)
  | matrixPassGrant (cluster : Nat) | operandFetch (cluster core : Nat) | kStep (cluster : Nat)
  | matrixCommandComplete (cluster core : Nat)
  | atollArrival (core : Nat) | atollServiceStart (cluster : Nat) | tableLoadSlotRead (cluster : Nat)
  | tableLoadCommit (cluster : Nat) | lrunStep (cluster : Nat) | lrunStepOutput (cluster : Nat)
  | postAtEngine (e i : Nat) | cancelAtEngine (e i : Nat) | probeAtEngine (e i : Nat) | tensorMapAtEngine (e i : Nat)
  | engineAnswer (core id : Nat) | messageHeaderArrival (e i : Nat) | matchDecision (e i : Nat)
  | retryBackoffExpiry (e i : Nat) | eagerLanding (e slot : Nat) | rendezvousPull (e slot : Nat)
  | landingRound (e slot : Nat) | completionPush (e : Nat) | postSlotFree (e slot : Nat)
  | straitSlot (p : Nat) | flitHop (router dir : Nat) | relayForward (q r : Nat) | itemAccept (q i : Nat)
  | creditReturn (q i : Nat) | fullSignal (q cluster : Nat)
  | triggerEntry (core handler : Nat) | select (core : Nat) | activationStart (core : Nat)
  | continuationReady (cluster act : Nat) | inlineChildReturn (core : Nat) | crewStart (cluster : Nat)
  | actRequestArrival (i : Nat) | actAnswer (core id : Nat) | barrierRelease (cluster bar : Nat)
  | spanBarrierArrival (span i : Nat) | spanBarrierRelease (span i : Nat) | parkedCallerResume (cluster : Nat)
  | spanStartCall (q : Nat) | spanMembersPlaced (span : Nat)
  | imageBlock (region cluster i : Nat) | loadedReport (core : Nat) | startAck (core : Nat) | stagedReport (core : Nat)
  | markerAtHead (core q : Nat) | cutReport (core : Nat) | cutTimeout (region : Nat)
  | faultFrameWritten (core : Nat) | faultEntryHandover (cluster : Nat)
  | freezeWaveArrival (part cluster : Nat) | drainComplete (part : Nat) | gatingTakesEffect (cluster : Nat)
  | wakeComplete (cluster : Nat)
  | recordArrival (core id : Nat) | jrecAnswer (core id : Nat) | recordSend | partnerRecordWrite (ring : Nat)
  | ackSend (ring : Nat) | guardedRelease (q : Nat) | truncation (i : Nat) | partnerDownTimeout
  | clientDelivery (q branch : Nat) | pointChange (island : Nat)
  /-- The next bytes of a role reach a core (04 R112; model's own). -/
  | roleCopy (core : Nat)
  /-- An access counts as performed at a scope before its port takes it (13 R298, R304; model's own). -/
  | showAccess (core id : Nat) (sc : Scope)
  /-- One lane of a VGATH or VSCAT is performed by itself (06 R171; model's own). -/
  | laneAccess (core id lane : Nat)
  /-- A decoder takes a block of another chip's copy (10 R262; model's own). -/
  | remoteDecode (i : Nat)
  | serviceMark (region : Nat)
  /-- A completion of the allocator arrives (09 R245; model's own). -/
  | callAnswered (i : Nat)
  /-- A host transaction that waited goes on, and a push is answered (model's own). -/
  | hostRetry (port i : Nat) | hostPushed (port i : Nat)
  deriving DecidableEq, Repr

/-- One move of a clk: a core issues, a unit takes a step, or an input from outside lands. -/
inductive Turn where
  | issue (core : Nat)
  | unit (e : Ev)
  | event (i : Instr)
  deriving DecidableEq, Repr

/-- The chip. -/
structure State where
  /-- The core whose pair issues (model's own). -/
  cur : Nat
  /-- The pair in progress (model's own; 01 R37). -/
  issue : Issue
  /-- Moves still to make in this clk (model's own): plain data that says who moves next. -/
  turns : List Turn
  /-- Writes of cluster registers that take effect in the next clk: core, number, value (03 R91). -/
  ywrites : List (Nat × Nat × Word)
  /-- The core whose accesses are shown at a scope before their ports take them (model's own; 13 R304). -/
  showing : Option Nat
  /-- Outside inputs and the clk at which they land (model's own). -/
  inputs : List (Nat × Instr)
  /-- Count of clk since reset (03 R90 YCLK, 00 R2). -/
  clk : Nat
  /-- Next identifier of an asynchronous operation (model's own). -/
  nextId : Nat
  /-- Chip identifier (00 R1, 03 R94). -/
  chip : BitVec 12
  /-- Incarnation (15 R352). -/
  inc : BitVec 8
  /-- Memory: HBM, cluster stores and local stores by space and offset (12 R283). -/
  mem : List Host.Cell
  /-- Poisoned 32-byte lines (18 R411). -/
  poison : List Nat
  /-- Cores (00 R1). -/
  cores : FMap Core
  /-- Clusters (00 R1). -/
  clusters : FMap Cluster
  /-- Queue objects (09 R216). -/
  queues : FMap Queue
  /-- Partitions 0-15 (17 R395). -/
  parts : FMap Partition
  /-- Lemnani's own page table (12 R281). -/
  supRoot : Nat
  /-- Programs by the cluster index of their origin. -/
  progs : FMap Program
  /-- Page walks (12 R287). -/
  walks : List Walk
  /-- Engines' clients whose walk found its page not present, with the page, until they act on it (12 R287). -/
  absents : List (Client × Nat)
  /-- Far memory (17 R387). -/
  far : List FarPage
  /-- Held HBM frames (15 R355). -/
  heldFrames : List Nat
  /-- Tensor table (15 R333). -/
  tensors : FMap TensorEntry
  /-- Communicators (15 R330). -/
  comms : FMap Comm
  /-- Receive engines 0-3 (15 R330). -/
  engines : FMap Engine
  /-- Sends whose payload is still needed (15 R340). -/
  sends : List Sending
  /-- Journal unit (16 R358). -/
  journal : Journal
  /-- Journal rings 0-15 (16 R360). -/
  rings : FMap JRing
  /-- Replay table (16 R370). -/
  replays : FMap Replay
  /-- Strait ports 0-7 (15 R348). -/
  straits : FMap Strait
  /-- Flits of one queue that each input buffer of a router holds; the spec gives no number (09 R218, log 20). -/
  routerRoom : Nat
  /-- Flits for chips that no route names (15 R348). -/
  unrouted : List StraitFlit
  /-- Route table: ports of each destination chip (15 R348). -/
  routes : FMap (List Nat)
  /-- Permitted-range table (15 R354). -/
  ranges : FMap RangeEntry
  /-- QBIND.OUT questions to other chips (04 R108). -/
  asks : List Ask
  /-- Remote requests arrived and not yet performed (05 R143). -/
  remIn : List RemReq
  /-- Remote replies arrived and not yet taken (05 R143). -/
  remOut : List RemReply
  /-- Rounds of other chips' decoding copies at their receiving clusters (10 R262). -/
  decodes : List DecodeJob
  /-- Remote-fault log: base, head, tail (15 R355). -/
  logBase : Word
  logHead : Nat
  logTail : Nat
  log : List LogEntry
  /-- Host ports 0-1 (18 R402). -/
  hosts : FMap HostPort
  /-- Key store, 32 slots (18 R412). -/
  keys : FMap KeySlot
  /-- Boot verified; chip in recovery (18 R412). -/
  recovery : Bool
  firmware : List Byte
  lemnani : List Byte
  staged : List Byte
  /-- Islands 0-63 (18 R414, R415). -/
  islands : FMap Island
  /-- Governor: power of the last window, Lemnani's cap, the board controller's cap (18 R415). -/
  power : Nat
  cap : Nat
  boardCap : Nat
  /-- Ready register (18 R416). -/
  ready : Word
  /-- Freezes and freeze images by partition (17 R390, R392). -/
  freezes : FMap Freeze
  images : FMap FrozenImage
  /-- Spans (09 R238). -/
  spans : FMap Span
  /-- ACT requests between clusters (04 R113). -/
  actReqs : List ActReq
  /-- Completions of Lemnani's allocator on their way to their caller's cluster, with the clk of arrival (09 R245). -/
  calls : List (Nat × List Word)
  /-- Completions that named no activation and were dropped (03 R85). -/
  dropped : Nat
  /-- Supervisor fault queue items (17 R380). -/
  supFaults : List (List Word)
  /-- The use of each mesh link, by router × 4 + direction (09 R223). -/
  linkUse : FMap LinkUse
  /-- Service version of each service queue (17 R400). -/
  services : FMap Nat
  /-- What has left the chip. -/
  outbox : List Out
  deriving DecidableEq, Repr

/-! ### Reset -/

/-- A ring handle that RSET has not set (04 R122, 08 R201). -/
def RingH.invalid : RingH := ⟨false, 0, 0, 0, 0, 0, 0⟩

/-- A core after reset: idle, every register at the value of 03 R90-R97, or 0 where none is given (log 1). -/
def Core.reset : Core :=
  { pc := 0, x := [], v := [], m := [], h := [], k := [], a := [], yflags := 0, ywoob := 0, th := false,
    cut := false, det := false, ycause := 0, yepc := 0, yinfo := 0, ytvec := 0, yscr := [], mode := .idle,
    act := none, role := none, ports := [], triggers := [], pending := [], nextPair := 0, waits := [], mem := [],
    stale := [], copies := [], copyLast := 0, foot := [], absent := none, fails := [], templates := [], sel := 0, mprio := 8, atollQ := [],
    recs := [], recAns := [], diverged := none, jsyncs := [], runq := [], resumed := [], barArrived := false,
    owed := none, roleCopy := none, cutState := none, reported := false, acked := false }

/-- A matrix unit with nothing queued (11 R278). -/
def Matrix.reset : Matrix := ⟨[], [], 0, none, none, [], 0⟩

/-- An Atoll with nothing loaded (14 R318). -/
def Atoll.reset : Atoll := ⟨[], [], 0, 0, [], none, 0⟩

/-- A channel entry that is not declared: F32, plain, code set 0, z0, RNE (02 R67). -/
def Chan.reset : Chan := ⟨.rne, 0, 0, false, .f32⟩

/-- A slice-map entry without rights. -/
def SliceMap.none : SliceMap := ⟨false, false, false⟩

/-- A barrier at load (04 R120). -/
def Barrier.reset : Barrier := ⟨0, 0, [], [], none⟩

/-- A fault-buffer entry that holds nothing (17 R384). -/
def FaultEntry.reset : FaultEntry :=
  { valid := false, inPlace := false, ticket := 0, gen := 0, core := 0, act := 0,
    raise := ⟨.illegalInstruction, 0, 0, false, false, 0, 0⟩, written := false, after := 0 }

/-- A cluster after reset (03 R90, R94, R97, R98; 17 R384, R398). -/
def Cluster.reset : Cluster :=
  { gen := 0, part := 0, rows1 := 0, cols1 := 0, row0 := 0, col0 := 0, region := none, sysq := none,
    yagei := 4096, yceil := 31, z := [], chans := [], codes := [], slice := [], stack := 0, stackFrames := 0, faultStack := 0, acts := [],
    qbytes := 0, bars := [], crew := none, span := none, callers := [], sysFull := false, acc := [], tiles := [],
    nextTile := 0, parks := [], freed := [], mat := Matrix.reset, atoll := Atoll.reset, decoded := none, lateReplies := 0, faults := [],
    overflow := false, tlb := [], power := .running, request := 0, frozen := false }

/-- A receive engine after reset (15 R331, R336). -/
def Engine.reset : Engine :=
  { inbox := [], wire := [], forming := [], kept := [], held := [], deciding := [], posted := [], slots := [], unexpected := [],
    refused := [], expected := [], numbering := [], nextSlot := 0, shares := [], answers := [], matches_ := 0 }

/-- A post slot never used (15 R336). -/
def Post.free : Post :=
  { words := [], part := 0, region := 0, core := 0, state := .free, gen := 0, uses := 0, msg := none, landed := 0,
    status := 0, order := 0, ready := 0, asked := false, pulling := false, parts := [], buf := [], got := [] }

/-- The journal unit after reset (16 R358, R361, R362). -/
def Journal.reset : Journal :=
  { partner := 0, pInc := 0, state := 0, enable := 0, last := 0, acked := 0, sent := 0, buffer := [],
    truncs := [], target := 0, unwritten := [] }

/-- A journal ring after reset (16 R361). -/
def JRing.reset : JRing := ⟨0, 0, false, [], 0, 0, [], false⟩

/-- A replay entry after reset (16 R370). -/
def Replay.reset : Replay := ⟨0, 0, false, 0, 0⟩

/-- A Strait port after reset (15 R351). -/
def Strait.reset : Strait :=
  { peer := 0, pinc := 0, pairs := 0, state := 0, stale := 0, lost := 0, egress := [], run := 0, gap := 0, downAt := 0 }

/-- A host port after reset (18 R402). -/
def HostPort.reset : HostPort := ⟨[], [], [], [], [], []⟩

/-- An empty key slot (18 R412). -/
def KeySlot.empty : KeySlot := ⟨0, 0, []⟩

/-- An island after reset (18 R415). -/
def Island.reset : Island := ⟨0, 0, 0⟩

/-- The issue record before a lone word or a pair. -/
def Issue.start : Issue := ⟨.lone, none, [], none, .none, none, [], none, 0⟩

/-- A command that does not decode. -/
def ZState.start : ZState := ⟨0, 0, [], [], [], (0, 0, []), none, 0⟩

/-- The chip right after reset: nothing loaded, nothing ready, every table empty. -/
def State.reset : State :=
  { cur := 0, issue := Issue.start, turns := [], ywrites := [], showing := none, inputs := [], clk := 0, nextId := 0, chip := 0, inc := 0,
    mem := [], poison := [], cores := [], clusters := [], queues := [], parts := [], supRoot := 0, progs := [],
    walks := [], absents := [], far := [], heldFrames := [], tensors := [], comms := [], engines := [], sends := [],
    journal := Journal.reset, rings := [], replays := [], straits := [], routerRoom := 4, unrouted := [], routes := [], ranges := [],
    asks := [], remIn := [], remOut := [], decodes := [], logBase := 0, logHead := 0, logTail := 0, log := [], hosts := [], keys := [],
    recovery := false, firmware := [], lemnani := [], staged := [], islands := [], power := 0, cap := 1900,
    boardCap := 1900, ready := 0, freezes := [], images := [], spans := [], actReqs := [], calls := [], dropped := 0, supFaults := [], linkUse := [],
    services := [], outbox := [] }

end Sys2Proof.Machine
end

