-- ==== Sys2Proof/Machine/Ops.lean ====
section
/-!
DEFINITION. The named operations that every meaning is written with: finite maps, cores and clusters, memory,
registers, ports, and taking an exception and returning from one.
-/

namespace Sys2Proof.Machine

/-! ### Finite maps -/

/-- The value at a key. -/
def mget {α : Type} : FMap α → Nat → Option α
  | [], _ => none
  | (k, v) :: r, n => if k = n then some v else mget r n

/-- The map with a key set; keys stay in rising order. -/
def mset {α : Type} : FMap α → Nat → α → FMap α
  | [], n, v => [(n, v)]
  | (k, w) :: r, n, v =>
    if n < k then (n, v) :: (k, w) :: r
    else if n = k then (n, v) :: r
    else (k, w) :: mset r n v

/-- The map without a key. -/
def mdel {α : Type} (m : FMap α) (n : Nat) : FMap α := m.filter (fun p => decide (p.1 ≠ n))

/-- The value at a key, or a default. -/
def mgetD {α : Type} (m : FMap α) (n : Nat) (d : α) : α := (mget m n).getD d

/-- The keys in order. -/
def mkeys {α : Type} (m : FMap α) : List Nat := m.map (fun p => p.1)

/-- The least natural number below `n` that a test refuses, counting from `i`. -/
def firstFree (used : Nat → Bool) : Nat → Nat → Option Nat
  | 0, _ => none
  | n + 1, i => if used i then firstFree used n (i + 1) else some i

/-- Element `i` of a list, or a default. -/
def nth {α : Type} (l : List α) (i : Nat) (d : α) : α := l.getD i d

/-- The list without element `i`. -/
def dropAt {α : Type} : List α → Nat → List α
  | [], _ => []
  | _ :: r, 0 => r
  | a :: r, i + 1 => a :: dropAt r i

/-- A list in ascending order of a key; elements of one key keep their order. -/
def sortOn {α : Type} (key : α → Nat) (l : List α) : List α :=
  l.foldl (fun t a => t.takeWhile (fun b => decide (key b ≤ key a)) ++ a :: t.dropWhile (fun b => decide (key b ≤ key a))) []

/-- The list with element `i` replaced. -/
def setAt {α : Type} : List α → Nat → α → List α
  | [], _, _ => []
  | _ :: r, 0, v => v :: r
  | a :: r, i + 1, v => a :: setAt r i v

/-! ### Bits and bytes (00 R6: little-endian at every width) -/

/-- Bits `lo + n - 1 .. lo` of a natural number. -/
def bitsAt (v lo n : Nat) : Nat := (v >>> lo) % 2 ^ n

/-- The low `n` bytes of a number, least significant first. -/
def leBytes : Nat → Nat → List Byte
  | 0, _ => []
  | n + 1, v => BitVec.ofNat 8 v :: leBytes n (v >>> 8)

/-- The number that bytes spell, least significant first. -/
def ofBytes : List Byte → Nat
  | [] => 0
  | b :: r => b.toNat + 256 * ofBytes r

/-- Sign-extension of the low `8 n` bits. -/
def signExtend (n v : Nat) : Word :=
  let m := v % 2 ^ (8 * n)
  if m < 2 ^ (8 * n - 1) then BitVec.ofNat 64 m else BitVec.ofNat 64 (m + 2 ^ 64 - 2 ^ (8 * n))

/-- The bytes of words. -/
def bytesOfWords (ws : List Word) : List Byte := ws.flatMap (fun w => leBytes 8 w.toNat)

/-- Words of bytes, eight at a time, `n` of them. -/
def wordsOfBytes : Nat → List Byte → List Word
  | 0, _ => []
  | n + 1, bs => BitVec.ofNat 64 (ofBytes (bs.take 8)) :: wordsOfBytes n (bs.drop 8)

/-- A list brought to length `n` with zeros. -/
def padWords (n : Nat) (ws : List Word) : List Word := (ws ++ List.replicate n 0).take n

/-- Whether the two byte ranges `[a, a + n)` and `[b, b + m)` share a byte. -/
def overlaps (a n b m : Nat) : Bool := decide (a < b + m) && decide (b < a + n) && decide (0 < n) && decide (0 < m)

/-! ### Memory -/

/-- A byte of memory; one that nothing has written reads 0 (12 R281; log 2). -/
def memGet : List Host.Cell → Nat → Byte
  | [], _ => 0
  | (k, b) :: r, a => if k = a then b else memGet r a

/-- Writes a byte and keeps the canonical form: rising addresses, no byte that equals the unlisted 0. -/
def memSet : List Host.Cell → Nat → Byte → List Host.Cell
  | [], a, b => if b = 0 then [] else [(a, b)]
  | (k, c) :: r, a, b =>
    if a < k then (if b = 0 then (k, c) :: r else (a, b) :: (k, c) :: r)
    else if a = k then (if b = 0 then r else (a, b) :: r)
    else (k, c) :: memSet r a b

/-- Every address of the list is above a bound, addresses rise, and no byte is 0. -/
def memAbove : Option Nat → List Host.Cell → Bool
  | _, [] => true
  | lo, (k, b) :: r => (match lo with | none => true | some l => decide (l < k)) && decide (b ≠ 0) && memAbove (some k) r

/-- The canonical form of memory. -/
def Memory.wf (m : List Host.Cell) : Bool := memAbove none m

/-- `n` bytes from address `a`. -/
def memRead (m : List Host.Cell) : Nat → Nat → List Byte
  | _, 0 => []
  | a, n + 1 => memGet m a :: memRead m (a + 1) n

/-- Writes bytes from address `a`. -/
def memWrite : List Host.Cell → Nat → List Byte → List Host.Cell
  | m, _, [] => m
  | m, a, b :: r => memWrite (memSet m a b) (a + 1) r

/-- Clears a key range. -/
def memClear (m : List Host.Cell) (lo n : Nat) : List Host.Cell :=
  m.filter (fun c => decide (c.1 < lo) || decide (lo + n ≤ c.1))

/-- The listed bytes of a key range, by offset. -/
def memSlice (m : List Host.Cell) (lo n : Nat) : List Host.Cell :=
  (m.filter (fun c => decide (lo ≤ c.1) && decide (c.1 < lo + n))).map (fun c => (c.1 - lo, c.2))

/-- Writes cells given by offset. -/
def memPut (m : List Host.Cell) (lo : Nat) : List Host.Cell → List Host.Cell
  | [] => m
  | (k, b) :: r => memPut (memSet m (lo + k) b) lo r

/-- The key of an offset in a space of the own chip (12 R283). -/
def memKey (space off : Nat) : Nat := space * 2 ^ 48 + off

/-- The key of local-store offset `off` of a core (12 R283). -/
def localKey (c off : Nat) : Nat := memKey 2 (c * 65536 + off)

/-- The key of slice offset `off` of a cluster (12 R283). -/
def sliceKey (cl off : Nat) : Nat := memKey 1 (cl * 2 ^ 20 + off)

/-- The poisoned lines that a range touches (18 R411). -/
def State.isPoisoned (s : State) (a n : Nat) : Bool :=
  s.poison.any (fun l => overlaps (l * 32) 32 a n)

/-- One write operation: writes the bytes, and clears the poison of every line that it covers (18 R411). -/
def State.writeOnce (s : State) (a : Nat) (bs : List Byte) : State :=
  { s with
    mem := memWrite s.mem a bs
    poison := s.poison.filter (fun l => !(decide (a ≤ l * 32) && decide (l * 32 + 32 ≤ a + bs.length))) }

/-- One write operation of several parts: poison is cleared where the parts together cover a line. -/
def State.writeParts (s : State) (parts : List (Nat × List Byte)) : State :=
  { s with
    mem := parts.foldl (fun m p => memWrite m p.1 p.2) s.mem
    poison := s.poison.filter (fun l =>
      !((List.range 32).all (fun i => parts.any (fun p =>
        decide (p.1 ≤ l * 32 + i) && decide (l * 32 + i < p.1 + p.2.length))))) }

/-! ### Scopes (13 R297, R298) -/

/-- Scopes in rising order. -/
def scopeRank : Scope → Nat
  | .core => 0
  | .cl => 1
  | .chip => 2
  | .sys => 3

/-- The narrower of two scopes. -/
def scopeMin (a b : Scope) : Scope := if scopeRank a ≤ scopeRank b then a else b

/-- An outstanding access counts as performed at a scope (13 R298, R304). -/
def MemOp.shownAt (o : MemOp) (sc : Scope) : Bool :=
  match o.shown with | some t => decide (scopeRank sc ≤ scopeRank t) | none => false

/-- An access waiting at the core touches a range. -/
def MemOp.touches (o : MemOp) (key n : Nat) : Bool := o.lanes.any (fun l => overlaps l.1 o.size key n)

/-- A load entry of 05 R130. -/
def MemOp.isLoad (o : MemOp) : Bool :=
  match o.kind with | .load _ => true | .gather _ _ => true | .vload => true | _ => false

/-- A store entry of 05 R130. -/
def MemOp.isStore (o : MemOp) : Bool := match o.kind with | .store _ => true | _ => false

/-- An atomic. -/
def MemOp.isAtomic (o : MemOp) : Bool := !o.isLoad && !o.isStore

/-! ### Cores, clusters, queues -/

/-- Core `c`. -/
def State.core (s : State) (c : Nat) : Core := mgetD s.cores c Core.reset

/-- Sets core `c`. -/
def State.setCore (s : State) (c : Nat) (k : Core) : State := { s with cores := mset s.cores c k }

/-- Changes core `c`. -/
def State.modCore (s : State) (c : Nat) (f : Core → Core) : State := s.setCore c (f (s.core c))

/-- Cluster `n`. -/
def State.cl (s : State) (n : Nat) : Cluster := mgetD s.clusters n Cluster.reset

/-- Sets cluster `n`. -/
def State.setCl (s : State) (n : Nat) (k : Cluster) : State := { s with clusters := mset s.clusters n k }

/-- Changes cluster `n`. -/
def State.modCl (s : State) (n : Nat) (f : Cluster → Cluster) : State := s.setCl n (f (s.cl n))

/-- Sets a queue. -/
def State.setQ (s : State) (q : Nat) (k : Queue) : State := { s with queues := mset s.queues q k }

/-- Changes a queue that exists. -/
def State.modQ (s : State) (q : Nat) (f : Queue → Queue) : State :=
  match mget s.queues q with
  | some k => s.setQ q (f k)
  | none => s

/-- The cluster index of a core (00 R1); a supervisor core's is past 1,023. -/
def clusterOf (c : Nat) : Nat := c / 8

/-- A supervisor core (00 R1). -/
def isSup (c : Nat) : Bool := decide (8192 ≤ c)

/-- The die of a cluster (00 R1), supervisor blocks included. -/
def dieOf (cl : Nat) : Nat := if 1024 ≤ cl then cl - 1024 else cl / 512

/-- The router at which a party's flits enter the mesh (09 R419). -/
def Party.router : Party → Nat
  | .core c _ => if isSup c then (if c < 8200 then 0 else 1023) else clusterOf c
  | .client _ => 0
  | .service => 0
  | .engine e => if e < 2 then 0 else 1023
  | .chip _ => 0
  | .far _ p => if p < 4 then 0 else 1023
  | .queueOn _ _ => 0

/-- The input port of that router at which they enter: the cluster's own or the system block's (09 R419). -/
def Party.port : Party → Nat
  | .core c _ => if isSup c then 5 else 4
  | _ => 5

/-- The cluster that a party lies in; supervisor cores, services, engines, clients and other chips lie in none. -/
def Party.cluster : Party → Option Nat
  | .core c _ => if isSup c then none else some (clusterOf c)
  | _ => none

/-- The mesh time of R419 (09) between two routers: 2 clk, 2 a hop, 14 across the die edge. -/
def meshTime (a b : Nat) : Nat :=
  let d (x y : Nat) := (x - y) + (y - x)
  2 + 2 * (d (a / 32) (b / 32) + d (a % 32) (b % 32)) + (if a / 512 = b / 512 then 0 else 14)

/-- The cluster runs: no freeze or gating has stopped it. -/
def Cluster.awake (k : Cluster) : Bool := !k.frozen && decide (k.power = .running)

/-- The units of core `c` and its cluster run (17 R390, R398). -/
def State.awakeAt (s : State) (c : Nat) : Bool := (s.cl (clusterOf c)).awake

/-- Work has reached a gated cluster: it wakes (17 R398, R399). -/
def State.wake (s : State) (cl : Nat) : State :=
  match (s.cl cl).power with
  | .clockGated => s.modCl cl (fun k => { k with power := .waking (s.clk + 64) })
  | .powerGated => s.modCl cl (fun k => { k with power := .waking (s.clk + 16384) })
  | _ => s

/-- An activation of a cluster. -/
def State.act? (s : State) (cl n : Nat) : Option Act := mget (s.cl cl).acts n

/-- Changes an activation that exists. -/
def State.modAct (s : State) (cl n : Nat) (f : Act → Act) : State :=
  match s.act? cl n with
  | some a => s.modCl cl (fun k => { k with acts := mset k.acts n (f a) })
  | none => s

/-- Sets an activation. -/
def State.setAct (s : State) (cl n : Nat) (a : Act) : State :=
  s.modCl cl (fun k => { k with acts := mset k.acts n a })

/-- The activation that runs on a core. -/
def State.running (s : State) (c : Nat) : Option Act :=
  match (s.core c).act with
  | some n => s.act? (clusterOf c) n
  | none => none

/-- An agent belongs to core `c`'s instance of a scope: another core, or with none a unit of the chip (13 R297). -/
def inScope (sc : Scope) (c : Nat) (agent : Option Nat) : Bool :=
  match sc, agent with
  | .core, _ => false
  | .cl, some d => decide (clusterOf d = clusterOf c)
  | .cl, none => false
  | _, _ => true

/-- An access of an agent finds bytes held: an access of another core counts there as performed already (13 R298). A read
meets only writes. -/
def State.shownHolds (s : State) (agent : Option Nat) (write : Bool) (key n : Nat) : Bool :=
  match s.showing with
  | none => false
  | some c => decide (agent ≠ some c) && (s.core c).mem.any (fun o =>
      (match o.shown with | some sc => inScope sc c agent | none => false) && (write || !o.isLoad) && o.touches key n)

/-- Accesses that a releasing operation follows have been performed at its scope (13 R302). -/
def State.gateOpen (s : State) (sc : Scope) (g : Nat × List Nat) : Bool :=
  !(s.core g.1).mem.any (fun o => g.2.contains o.id && !o.shownAt sc)

/-- The partition of a core; supervisor cores use Lemnani's own table, here number 16 (12 R281). -/
def State.partOf (s : State) (c : Nat) : Nat := if isSup c then 16 else (s.cl (clusterOf c)).part

/-- A partition's record. -/
def State.part? (s : State) (p : Nat) : Option Partition := mget s.parts p

/-- The call tag of an activation (03 R85). -/
def callTag (act gen core : Nat) : Word :=
  BitVec.ofNat 64 (bitsAt act 0 16 * 2 ^ 30 + bitsAt gen 0 16 * 2 ^ 14 + bitsAt core 0 14)

/-! ### Registers -/

/-- x[r]; x0 reads 0 (02 R54). -/
def Core.getX (k : Core) (r : Nat) : Word := if r = 0 then 0 else mgetD k.x r 0

/-- Writes x[r]; a write to x0 is discarded (02 R54). -/
def Core.setX (k : Core) (r : Nat) (v : Word) : Core := if r = 0 then k else { k with x := mset k.x r v }

/-- v[r]. -/
def Core.getV (k : Core) (r : Nat) : Vec := mgetD k.v r 0

/-- Writes v[r]. -/
def Core.setV (k : Core) (r : Nat) (v : Vec) : Core := { k with v := mset k.v r v }

/-- m[r]; m0 reads all ones (02 R54). -/
def Core.getM (k : Core) (r : Nat) : MaskWord := if r = 0 then BitVec.allOnes 128 else mgetD k.m r 0

/-- Writes m[r]; m0 is not writable (02 R54). -/
def Core.setM (k : Core) (r : Nat) (v : MaskWord) : Core := if r = 0 then k else { k with m := mset k.m r v }

/-- h[r]. -/
def Core.getH (k : Core) (r : Nat) : RingH := mgetD k.h r RingH.invalid

/-- Writes h[r]. -/
def Core.setH (k : Core) (r : Nat) (v : RingH) : Core := { k with h := mset k.h r v }

/-- Token k[r] (04 R124). -/
def Core.getK (k : Core) (r : Nat) : Nat := mgetD k.k r 0

/-- Sets token k[r]. -/
def Core.setK (k : Core) (r : Nat) (v : Nat) : Core := { k with k := mset k.k r v }

/-- Whether every token is zero. -/
def Core.tokensClear (k : Core) : Bool := k.k.all (fun p => decide (p.2 = 0))

/-- Puts a value into a destination register. -/
def Core.put (k : Core) (d : Dest) (v : Vec) : Core :=
  match d with
  | .x r => k.setX r (v.setWidth 64)
  | .v r => k.setV r v
  | .m r => k.setM r (v.setWidth 128)
  | .h _ => k

/-- Whether a result of this destination is still pending (03 R78, 05 R130). -/
def Core.isPending (k : Core) (d : Dest) : Bool :=
  k.pending.any (fun p => decide (p.dest = d)) || k.waits.any (fun w => decide (w.dest = d))

/-! ### The operation monad -/

/-- What one half does: it changes the state, or stops (00 R10, R11). -/
abbrev M (α : Type) := StateT State (Except Stop) α

/-- `Stall until` (00 R11). -/
def stall {α : Type} (n : Note := .none) : M α := fun _ => .error (.stall n)

/-- `Fault(cause, info)` (00 R9, R10). -/
def fault {α : Type} (c : Cause) (info : Word := 0) : M α := fun _ => .error (.fault c info)

/-- Raises another kind of stop. -/
def stopWith {α : Type} (e : Stop) : M α := fun _ => .error e

/-- Faults unless a condition holds. -/
def require (ok : Bool) (c : Cause) (info : Word := 0) : M Unit := if ok then pure () else fault c info

/-- Stalls unless a condition holds. -/
def await (ok : Bool) : M Unit := if ok then pure () else stall

/-- The core as it stands. -/
def here : M Core := fun s => .ok (s.core s.cur, s)

/-- The core that sources are read from: as it stood before the pair (01 R37). -/
def source : M Core := fun s => .ok (s.issue.snap.getD (s.core s.cur), s)

/-- Changes the core. -/
def modHere (f : Core → Core) : M Unit := fun s => .ok ((), s.modCore s.cur f)

/-- Changes the core's cluster. -/
def modClHere (f : Cluster → Cluster) : M Unit := fun s => .ok ((), s.modCl (clusterOf s.cur) f)

/-- Changes the issue record. -/
def modIssue (f : Issue → Issue) : M Unit := fun s => .ok ((), { s with issue := f s.issue })

/-- A fresh identifier. -/
def freshId : M Nat := fun s => .ok (s.nextId, { s with nextId := s.nextId + 1 })

/-- A register about to be read or written stalls while its result is pending (03 R78, 05 R130); a failed or
poisoned result is raised here (05 R142, 16 R372, 18 R411). -/
def touch (d : Dest) (read : Bool) : M Unit := do
  let k ← source
  match k.waits.find? (fun w => decide (w.dest = d)) with
  | some w =>
    match w.err with
    | .none => stall
    | .memory a => stopWith (.poisoned w.id a)
    | .failed t => if read then stopWith (.failed t)
                   else modHere (fun k => { k with waits := k.waits.filter (fun v => decide (v.dest ≠ d)) })
    | .diverged a => stopWith (.diverge a)
  | none => if k.pending.any (fun p => decide (p.dest = d)) then stall else pure ()

/-! ### Queues as a producer or a consumer sees them -/

/-- The key of a queue object: its identifier, or that of another chip's queue behind it. -/
def queueKey (own chip q : Nat) : Nat := if chip = own then q else 65536 * (chip + 1) + q

/-- The key of a binding's queue. -/
def State.bindKey (s : State) (b : Binding) : Nat := queueKey s.chip.toNat b.chip b.queue

/-- A core's binding to the system-call queue, as a party (03 R86). -/
def callParty (c : Nat) : Party := .core c 8

/-- Credits that a producer holds (09 R218); a core's binding to the system-call queue starts at the flow window (03 R86). -/
def Queue.creditsOf (q : Queue) (p : Party) : Nat :=
  match q.credits.find? (fun c => decide (c.1 = p)) with
  | some c => c.2
  | none => match p with | .core _ 8 => q.window | _ => 0

/-- Sets a producer's credits. -/
def Queue.setCredits (q : Queue) (p : Party) (n : Nat) : Queue :=
  if q.credits.any (fun c => decide (c.1 = p)) then
    { q with credits := q.credits.map (fun c => if c.1 = p then (p, n) else c) }
  else { q with credits := q.credits ++ [(p, n)] }

/-- Capacity in items. -/
def Queue.capacity (q : Queue) : Nat := 2 ^ q.log2

/-- What stands at the head of an input. -/
inductive Head where
  | empty | marker | closed
  | item (words : List Word)
  deriving DecidableEq, Repr

/-- An end-of-run item (09 R225). -/
def Elem.isEnd (e : Elem) : Bool := !e.marker && decide (e.words.head? = some (BitVec.allOnes 64))

/-- A producer's sub-queue is open: no end-of-run item stands at its head (09 R226). -/
def subOpen (l : List Elem) : Bool := match l with | [] => true | e :: _ => !e.isEnd

/-- A marker stands at the head of a sub-queue. -/
def subMarked (l : List Elem) : Bool := match l with | [] => false | e :: _ => e.marker

/-- The key of a sub-queue's head item. -/
def subKey (l : List Elem) : Nat := match l with | [] => 0 | e :: _ => (e.words.headD 0).toNat

/-- The sub-queue that delivers next among those open with an item at the head: smallest key, then lowest
number (09 R226). -/
def mergePick : List (List Elem) → Nat → Option (Nat × Nat)
  | [], _ => none
  | l :: r, i =>
    let rest := mergePick r (i + 1)
    if subOpen l && !l.isEmpty && !subMarked l then
      match rest with
      | some (j, k) => if k < subKey l then some (j, k) else some (i, subKey l)
      | none => some (i, subKey l)
    else rest

/-- What of a store its consumer may see: on a guarded queue an unreleased item or marker waits, and all behind it (16
R364). -/
def Queue.visible (q : Queue) (l : List Elem) : List Elem := if q.cls = 2 then l.takeWhile (fun e => e.released) else l

/-- The head of a keyed-merge queue (09 R226, 08 R207). -/
def Queue.mergeHead (q : Queue) : Head :=
  let subs := q.subs.map q.visible
  if !subs.isEmpty && subs.all (fun l => !subOpen l || subMarked l) && subs.any subMarked then .marker
  else if subs.all (fun l => !subOpen l) then .closed
  else if subs.any (fun l => l.isEmpty) then .empty
  else match mergePick subs 0 with
    | some (i, _) => match nth subs i [] with | e :: _ => .item e.words | [] => .empty
    | none => .empty

/-- The head of a FIFO store. -/
def fifoHead (l : List Elem) : Head :=
  match l with
  | [] => .empty
  | e :: _ => if e.marker then .marker else .item e.words

/-- The branch of a queue that a core consumes. -/
def Queue.branchOf (q : Queue) (c : Nat) : Option Nat :=
  q.branches.findIdx? (fun b => match b.consumer with | .core d _ => decide (d = c) | _ => false)

/-- The head that branch `b` shows. -/
def Queue.headAt (q : Queue) (b : Nat) : Head :=
  if q.merge then q.mergeHead
  else match q.branches[b]? with
    | some br => fifoHead (q.visible br.store)
    | none => .empty

/-- Removes the head item of branch `b`. -/
def Queue.popAt (q : Queue) (b : Nat) : Queue :=
  if q.merge then
    match mergePick (q.subs.map q.visible) 0 with
    | some (i, _) => { q with subs := setAt q.subs i ((nth q.subs i []).drop 1) }
    | none => q
  else match q.branches[b]? with
    | some br => { q with branches := setAt q.branches b { br with store := br.store.drop 1 } }
    | none => q

/-- Reopening removes the end-of-run item at the head of every sub-queue (09 R227). -/
def Queue.reopen (q : Queue) : Queue := { q with subs := q.subs.map (fun l => l.drop 1) }

/-- A cut input: its last awaited marker has come, or it awaits none (08 R208). -/
def Core.inputCut (k : Core) (key : Nat) : Bool :=
  match k.cutState with
  | some t => t.inputs.any (fun i => decide (i.queue = key) && decide (i.awaited ≤ i.seen))
  | none => false

/-- The core pushes its markers or has sent its cut report: it starts nothing, and takes no activation (08 R209, 09 R232). -/
def Core.cutBegun (k : Core) : Bool := match k.cutState with | some t => t.reported || !t.done.isEmpty | none => false

/-- The head of the queue that core `c` consumes; a cut input shows a marker (08 R208). -/
def State.headFor (s : State) (key c : Nat) : Head :=
  if (s.core c).inputCut key then .marker
  else match mget s.queues key with
    | some q => match q.branchOf c with | some b => q.headAt b | none => .empty
    | none => .empty

/-- Pops the head of the queue that core `c` consumes. -/
def State.popFor (s : State) (key c : Nat) : State :=
  s.modQ key (fun q => match q.branchOf c with | some b => q.popAt b | none => q)

/-- A binding is open: its queue exists and its producers are admitted (01 R31). -/
def State.isOpen (s : State) (b : Binding) : Bool :=
  match mget s.queues (s.bindKey b) with | some q => q.isOpen | none => false

/-- The accesses that a push of this party must follow (04 R102: a push releases). -/
def State.gateOf (s : State) : Party → List Nat
  | .core c _ => (s.core c).mem.map (fun o => o.id)
  | _ => []

/-- A consumer takes markers: a core, of the region under cut if the marker belongs to a cut, or another chip's queue (08
R206). -/
def State.takesMarker (s : State) (cut : Option Nat) : Party → Bool
  | .core c _ => (match cut with | none => true | some org => decide ((s.cl (clusterOf c)).region = some org))
  | .chip _ => cut.isNone
  | _ => false

/-- Branches that an element goes to (08 R206, 09 R220). -/
def State.branchesFor (s : State) (q : Queue) (e : Elem) : List Nat :=
  (List.range q.branches.length).filter (fun i => !e.marker || (q.branches[i]?).any (fun b => s.takesMarker e.cut b.consumer))

/-- A producer: a core is one, whatever its ports, and so is another chip (04 R104, 09 R225). -/
def Party.producer : Party → Party
  | .core c _ => .core c 0
  | .far c _ => .far c 0
  | p => p

/-- A party's binding to a queue ends: no credit comes back to it (09 R218). -/
def Queue.endBinding (q : Queue) (p : Party) : Queue :=
  let mute (f : Flit) : Flit := if f.elem.src = p then { f with credit := false } else f
  { q with
    credits := q.credits.filter (fun x => decide (x.1 ≠ p))
    flight := q.flight.map mute
    beyond := q.beyond.map mute
    returns := q.returns.map (fun x => if x = p then .service else x) }

/-- Puts an element on its way: it takes one credit of its producer (09 R218) and enters the mesh at a router. One that no branch
takes is discarded (08 R206). -/
def State.pushElem (s : State) (router key : Nat) (e : Elem) : State :=
  let src := e.src
  match mget s.queues key with
  | none => s
  | some q =>
    if (s.branchesFor q e).isEmpty then s
    else
      let f : Flit := { elem := e, place := router, port := if router = src.router then src.port else 4, stage := 0, branches := s.branchesFor q e,
                        since := s.clk, credit := true, seq := s.nextId, gate := s.gateOf src }
      let q := q.setCredits src (q.creditsOf src - 1)
      { s with queues := mset s.queues key { q with flight := q.flight ++ [f] }, nextId := s.nextId + 1 }

/-- Pushes an item or marker from a router. A guarded item carries the last jsn assigned as its stamp (16 R364). -/
def State.pushAt (s : State) (router key : Nat) (src : Party) (words : List Word) (marker : Bool) : State :=
  s.pushElem router key ⟨padWords (((mget s.queues key).map (fun q => q.words)).getD 0) words, marker, s.journal.last, false, src, none⟩

/-- A marker of a region's cut (08 R204, R209). -/
def State.cutMark (s : State) (org : Nat) (src : Party) : Elem := ⟨[], true, s.journal.last, false, src, some org⟩

/-- A push enters the mesh at its producer's router (09 R419). -/
def State.push (s : State) (key : Nat) (src : Party) (words : List Word) (marker : Bool) : State :=
  s.pushAt src.router key src words marker

/-- A JREC of this core has no jsn yet; one that diverges never gets one, and is raised once its answer has come (16
R359, R372). -/
def Core.recording (k : Core) : Bool := k.recs.any (fun r => r.trunc.isNone) || k.recAns.any (fun a => a.2.2.2.isSome)

/-- What R359 (16) names, and a JREC, JSYNC or JTRUNC (R372), takes effect only once every JREC that the core issued
before has its jsn; a divergent answer is raised here (R372). -/
def journalGate : M Unit := do
  let k ← source
  match k.diverged with
  | some a => stopWith (.diverge a)
  | none => await (!k.recording)

/-- Pushes through output port `p` of the core: stalls when no credit is held (04 R105, 09 R218). -/
def pushPort (p : Nat) (b : Binding) (words : List Word) (marker : Bool) : M Unit := do
  journalGate
  let s ← get
  match mget s.queues (s.bindKey b) with
  | none => fault .queueUnbound (BitVec.ofNat 64 p)
  | some q =>
    await (decide (0 < q.creditsOf (.core s.cur p)))
    modify (fun s => s.push (s.bindKey b) (.core s.cur p) words marker)

/-- A port register read as a source (04 R103): pops once a pair (01 R39). -/
def portRead (p : Nat) (b : Binding) : M Word := do
  let s ← get
  require (s.isOpen b) .queueUnbound (BitVec.ofNat 64 p)
  if b.output then pure b.last
  else match mget s.issue.popped p with
    | some v => pure v
    | none =>
      match s.headFor (s.bindKey b) s.cur with
      | .item ws =>
        modify (fun s => s.popFor (s.bindKey b) s.cur)
        modIssue (fun i => { i with popped := mset i.popped p (ws.headD 0) })
        pure (ws.headD 0)
      | .closed => fault .queueClosed (BitVec.ofNat 64 p)
      | .marker => stall
      | .empty => stall

/-- A result that the divider computes. -/
def Pending.divider (p : Pending) : Bool := decide (p.unit = .divider)

/-- Writes a register `lat` clk after issue (03 R78, 06 R158); flags are set in the same clk. -/
def writeLate (d : Dest) (v : Vec) (flags : BitVec 6) (lat : Nat) (unit : ResultUnit := .scalar) : M Unit := do
  let id ← freshId
  let s ← get
  let p : Pending := { id := id, dest := d, value := v, flags := flags, ready := s.clk + lat, unit := unit }
  modHere (fun k => { k with pending := k.pending ++ [p] })

/-- A port register written as a destination (04 R103). A write beside a JREC of its own pair is pushed once that
record has its jsn (16 R359). -/
def portWrite (p : Nat) (b : Binding) (v : Word) : M Unit := do
  let s ← get
  require (s.isOpen b) .queueUnbound (BitVec.ofNat 64 p)
  require b.output .queueDirection (BitVec.ofNat 64 p)
  let old ← source
  let k ← here
  if k.recording && !old.recording then writeLate (.x (24 + p)) (v.setWidth 1024) 0 1
  else do
    pushPort p b [v] false
    modHere (fun k => { k with ports := mset k.ports p { b with last := v } })

/-- Reads x[r] as a source (03 R77, 04 R103). -/
def readX (r : Reg) : M Word :=
  if r = 0 then pure 0
  else do
    touch (.x r.toNat) true
    let k ← source
    match (if 24 ≤ r.toNat then mget k.ports (r.toNat - 24) else none) with
    | some b => portRead (r.toNat - 24) b
    | none => pure (k.getX r.toNat)

/-- Writes x[r], usable by the next pair (03 R78). -/
def writeX (r : Reg) (v : Word) : M Unit :=
  if r = 0 then pure ()
  else do
    touch (.x r.toNat) false
    let k ← source
    match (if 24 ≤ r.toNat then mget k.ports (r.toNat - 24) else none) with
    | some b => portWrite (r.toNat - 24) b v
    | none => modHere (fun k => k.setX r.toNat v)

/-- The checks that writing x[r] later will need: its result must not be pending, and a bound port must be an
open output (04 R103). -/
def claimX (r : Reg) : M Unit :=
  if r = 0 then pure ()
  else do
    touch (.x r.toNat) false
    let k ← source
    match (if 24 ≤ r.toNat then mget k.ports (r.toNat - 24) else none) with
    | some b => do
      let s ← get
      require (s.isOpen b) .queueUnbound (BitVec.ofNat 64 (r.toNat - 24))
      require b.output .queueDirection (BitVec.ofNat 64 (r.toNat - 24))
    | none => pure ()

/-- Writes x[r], usable `lat` clk after issue. -/
def writeXLate (r : Reg) (v : Word) (lat : Nat) (unit : ResultUnit := .scalar) : M Unit := do
  claimX r
  writeLate (.x r.toNat) (v.setWidth 1024) 0 lat unit

/-- Sets YFLAGS bits (03 R96). -/
def raiseFlags (f : BitVec 6) : M Unit := modHere (fun k => { k with yflags := k.yflags ||| f })

/-- Reads ring handle h[r] as a source; an invalid one raises ring-geometry (04 R122). -/
def readH (r : Reg) : M RingH := do
  let k ← source
  let h := k.getH r.toNat
  require h.valid .ringGeometry (BitVec.ofNat 64 r.toNat)
  pure h

/-! ### Leaving the chip (15 R348, R349) -/

/-- The ports of a chip's route that are up (15 R351). -/
def State.upPorts (s : State) (chip : Nat) : List Nat :=
  (mgetD s.routes chip []).filter (fun p => decide ((mgetD s.straits p Strait.reset).state = 3))

/-- A port that is up on the route of a chip, if there is one. -/
def State.egressPort (s : State) (chip : Nat) : Option Nat := (s.upPorts chip).head?

/-- The router at which a Strait port's traffic joins the mesh (log 20). -/
def straitRouter (p : Nat) : Nat := if p < 4 then 0 else 1023

/-- The router of a host port (09 R419). -/
def hostRouter (p : Nat) : Nat := if p = 0 then 0 else 1023

/-- Traffic that keeps its order takes the first port that is up; other traffic is spread over the route (15 R348). -/
def ordered : FlitBody → Bool
  | .item _ _ _ => true
  | .credit _ => true
  | .journalRecord _ _ => true
  | .journalTruncate _ _ => true
  | .journalAck _ => true
  | _ => false

/-- The port that a flit waits at: one that is up, or the first of the route until one is. Spread traffic takes the port
with the fewest flits waiting. -/
def State.portFor (s : State) (f : StraitFlit) : Option Nat :=
  let waiting (p : Nat) : Nat := (mgetD s.straits p Strait.reset).egress.length
  match s.upPorts f.dstChip with
  | [] => (mgetD s.routes f.dstChip []).head?
  | p :: rest => some (if ordered f.body then p else rest.foldl (fun b q => if waiting q < waiting b then q else b) p)

/-- Queues a flit at a Strait port. -/
def State.sendBy (s : State) (p : Nat) (f : StraitFlit) : State :=
  let t := mgetD s.straits p Strait.reset
  { s with straits := mset s.straits p { t with egress := t.egress ++ [f] } }

/-- Queues a flit for another chip at a port of its route; one to a chip that no route names waits for a route. -/
def State.sendFlit (s : State) (f : StraitFlit) : State :=
  match s.portFor f with
  | none => { s with unrouted := s.unrouted ++ [f] }
  | some p => s.sendBy p f

/-- Flits that wait for a route, or at a port that is not up, go where their route leads now (15 R348). -/
def State.reroute (s : State) : State :=
  let down (p : Nat × Strait) : Bool := decide (p.2.state ≠ 3)
  let flits := (s.straits.filter down).flatMap (fun p => p.2.egress) ++ s.unrouted
  flits.foldl State.sendFlit { s with
    straits := s.straits.map (fun p => if down p then (p.1, { p.2 with egress := [] }) else p), unrouted := [] }

/-- The incarnation of a chip as this chip knows it: the one that its ports recorded at their last join (15 R352). -/
def State.incarnationOf (s : State) (chip : Nat) : Option Nat :=
  let known := s.straits.filter (fun p => decide (p.2.peer = chip) && (decide (p.2.state = 3) || decide (p.2.downAt ≠ 0)))
  if chip = s.chip.toNat then some s.inc.toNat
  else match known.find? (fun p => decide (p.2.state = 3)) with
    | some p => some p.2.pinc
    | none => known.head?.map (fun p => p.2.pinc)

/-- A flit of this chip. -/
def State.flitTo (s : State) (chip part cls gen : Nat) (b : FlitBody) : StraitFlit :=
  ⟨chip, s.chip.toNat, s.inc.toNat, part, cls, gen, 0, b⟩

/-! ### Translation (12 R281-R288) -/

/-- What an address resolves to: a physical address, a page absent from the cluster's translation cache, or a
fault. -/
inductive Xlate where
  | ok (pa : Nat)
  | miss
  | bad (c : Cause)
  deriving DecidableEq, Repr

/-- Bits 63:57 all equal bit 56 (05 R126). -/
def canonical (va : Word) : Bool :=
  let h := va.toNat >>> 56
  decide (h = 0) || decide (h = 255)

/-- The translation-cache entry that covers an address. -/
def tlbFind (l : List TlbEntry) (part va : Nat) : Option TlbEntry :=
  l.find? (fun e => decide (e.part = part) && decide (va >>> e.log2 = e.vpage))

/-- The entry used last goes first, so that the list's order is the order of use. -/
def tlbTouch (l : List TlbEntry) (e : TlbEntry) : List TlbEntry := e :: l.filter (fun f => decide (f ≠ e))

/-- Installs a leaf in the least recently used way of its set: a cluster's cache has 128 sets of 8 ways (12 R287). -/
def tlbInstall (l : List TlbEntry) (e : TlbEntry) (sets : Nat := 128) : List TlbEntry :=
  let l := l.filter (fun f => !(decide (f.part = e.part) && decide (f.log2 = e.log2) && decide (f.vpage = e.vpage)))
  let same := l.filter (fun f => decide (f.vpage % sets = e.vpage % sets))
  match (if 8 ≤ same.length then same.getLast? else none) with
  | some old => e :: l.filter (fun f => decide (f ≠ old))
  | none => e :: l

/-- The rights of an entry (12 R285): S bars tenants, R reads, W writes. -/
def rightsOk (sup sys r w needR needW : Bool) : Bool := (sup || !sys) && (!needR || r) && (!needW || w)

/-- The kind of an address of the virtual space (12 R281). -/
inductive Place where
  | hole | own (off : Nat) | window (v : Nat) | mapped | supervisor | crooked
  deriving DecidableEq, Repr

/-- Which range an address lies in (12 R281). -/
def placeOf (va : Word) : Place :=
  let a := va.toNat
  if !canonical va then .crooked
  else if a < 0x10000 then .hole
  else if a < 0x20000 then .own (a - 0x10000)
  else if 0x10000000000 ≤ a && a < 0x10040000000 then .window (a - 0x10000000000)
  else if 0xff00000000000000 ≤ a then .supervisor
  else .mapped

/-- The cluster that a window address names (12 R282), or none outside the region's shape. -/
def Cluster.windowCluster (k : Cluster) (v : Nat) : Option Nat :=
  let r := v / 2 ^ 25
  let c := v / 2 ^ 20 % 32
  if k.region.isSome && decide (r ≤ k.rows1) && decide (c ≤ k.cols1) then some ((k.row0 + r) * 32 + (k.col0 + c)) else none

/-- Resolves a window address with its slice-map rights (12 R282). -/
def State.windowPa (s : State) (cl : Nat) (sup : Bool) (v : Nat) (needR needW : Bool) : Xlate :=
  match (s.cl cl).windowCluster v with
  | none => .bad .accessKind
  | some t =>
    let e := mgetD (s.cl t).slice (v % 2 ^ 20 / 65536) SliceMap.none
    if rightsOk sup e.s e.r e.w needR needW then .ok (s.chip.toNat * 2 ^ 52 + sliceKey t (v % 2 ^ 20))
    else .bad .protection

/-- Resolves an address for core `c` (12 R281-R287): a global physical address, a miss, or a fault. -/
def State.xlate (s : State) (c : Nat) (va : Word) (needR needW : Bool) : Xlate :=
  match placeOf va with
  | .crooked => .bad .addressForm
  | .hole => .bad .protection
  | .own off => .ok (s.chip.toNat * 2 ^ 52 + localKey c off)
  | .window v => s.windowPa (clusterOf c) (isSup c) v needR needW
  | .supervisor =>
    if !isSup c then .bad .protection
    else match tlbFind (s.cl (clusterOf c)).tlb 16 va.toNat with
      | none => .miss
      | some e =>
        if !rightsOk true e.sys e.r e.w needR needW then .bad .protection
        else if needW && !e.dirty then .miss
        else .ok (e.frame + va.toNat % 2 ^ e.log2)
  | .mapped =>
    match tlbFind (s.cl (clusterOf c)).tlb (s.partOf c) va.toNat with
    | none => .miss
    | some e =>
      if !rightsOk (isSup c) e.sys e.r e.w needR needW then .bad .protection
      else if needW && !e.dirty then .miss
      else .ok (e.frame + va.toNat % 2 ^ e.log2)

/-- Marks the entry that covers an address as used (12 R287). -/
def State.useTlb (s : State) (cl part va : Nat) : State :=
  match tlbFind (s.cl cl).tlb part va with
  | some e => s.modCl cl (fun k => { k with tlb := tlbTouch k.tlb e })
  | none => s

/-- Translates an access of the core: a miss stalls and starts a walk; a walk that found the page absent raises
translation (12 R287, 05 R128). -/
def translate (va : Word) (needR needW : Bool) : M Nat := do
  let s ← get
  match s.xlate s.cur va needR needW with
  | .ok pa =>
    modify (fun s => s.useTlb (clusterOf s.cur) (s.partOf s.cur) va.toNat)
    pure pa
  | .bad c => fault c va
  | .miss =>
    if (s.core s.cur).absent = some (va.toNat / 65536) then fault .translation va
    else stall (.walk (s.partOf s.cur) va.toNat needW)

/-- The chip, space and offset of a global physical address (12 R283). -/
def paChip (pa : Nat) : Nat := pa / 2 ^ 52
def paSpace (pa : Nat) : Nat := pa / 2 ^ 48 % 16
def paOff (pa : Nat) : Nat := pa % 2 ^ 48
/-- The key of a physical address of the own chip. -/
def paKey (pa : Nat) : Nat := pa % 2 ^ 52

/-- The ranges of space 3: first offset and length (18 R418); the configuration's stand from 2^40 on (log 12). -/
def deviceRanges : List (Nat × Nat) :=
  [(0x10000, 0x200), (0x20000, 0x4000), (0x30000, 0x18), (0x40000, 0x20), (0x40108, 0x78), (0x41000, 0x10000), (0x90000, 0x80),
   (0xa0000, 0x2000), (0x300000, 0x2000), (0x310000, 0x200), (0x320000, 8), (0x330000, 8), (0x340000, 0x10000),
   (0x400000, 0x20000), (0x420000, 0x2000), (0x1000000, 0x804000), (2 ^ 40, 7 * 2 ^ 40)]

/-- Some of the `n` bytes at an offset names something (12 R283): HBM, cluster store, local store, device registers (18 R418),
journal rings (16 R360), decode apertures (10 R258). -/
def offsetNamed (space off : Nat) (n : Nat := 1) : Bool :=
  if space = 0 then decide (off < 384 * 2 ^ 30)
  else if space = 1 then decide (off < 2 ^ 30)
  else if space = 2 then decide (off < 8208 * 65536)
  else if space = 3 then deviceRanges.any (fun r => decide (off < r.1 + r.2) && decide (r.1 < off + n))
  else if space = 4 then decide (off < 2 ^ 34)
  else decide (space = 5) && decide (off < 2 ^ 35)

/-- What a walk ends at (12 R284-R287): absent (V = 0 or malformed), or a leaf with its entry's key. -/
inductive Leaf where
  | absent
  | leaf (key log2 entry : Nat)
  deriving DecidableEq, Repr

/-- An entry is malformed (12 R286). -/
def malformed (chip level entry : Nat) : Bool :=
  let leaf := bitsAt entry 1 1 == 1
  let pa := entry / 4096 * 4096
  let log2 := if level = 0 then 16 else if level = 1 then 21 else 30
  bitsAt entry 8 4 != 0 || bitsAt entry 4 1 != 0 || (leaf && decide (3 ≤ level)) || (!leaf && level == 0) ||
    (leaf && pa % 2 ^ log2 != 0) ||
    (!leaf && !(decide (paChip pa = chip) && decide (paSpace pa = 0))) ||
    (leaf && ((decide (paChip pa = chip) && decide (paSpace pa = 1)) || decide (6 ≤ paSpace pa) ||
      !offsetNamed (paSpace pa) (paOff pa) (2 ^ log2)))

/-- Walks the levels of a table: level, low virtual bit and number of index bits (12 R284). -/
def walkLevels (s : State) (va : Nat) : List (Nat × Nat × Nat) → Nat → Leaf
  | [], _ => .absent
  | (level, lo, n) :: rest, base =>
    let key := memKey 0 (base + 8 * bitsAt va lo n)
    let e := ofBytes (memRead s.mem key 8)
    if e % 2 = 0 || malformed s.chip.toNat level e then .absent
    else if bitsAt e 1 1 = 1 then .leaf key lo e
    else walkLevels s va rest (paOff (e / 4096 * 4096))

/-- The root table of a partition (17 R395), or Lemnani's own. -/
def State.rootOf (s : State) (part : Nat) : Nat :=
  if part = 16 then s.supRoot else match s.part? part with | some p => p.root | none => 0

/-- A walk of a partition's table (12 R284). -/
def State.walkTable (s : State) (part va : Nat) : Leaf :=
  walkLevels s va [(4, 48, 9), (3, 39, 9), (2, 30, 9), (1, 21, 9), (0, 16, 5)] (s.rootOf part)

/-- A leaf's D after a walk: set before the first write (12 R285). -/
def leafDirty (entry : Nat) (write : Bool) : Bool := bitsAt entry 7 1 == 1 || (write && bitsAt entry 3 1 == 1)

/-- The leaf's entry after a walk: A set, and D before a write (12 R285). -/
def usedLeaf (entry : Nat) (write : Bool) : Nat := (entry ||| 64) ||| (if leafDirty entry write then 128 else 0)

/-- What a translation cache holds of a leaf (12 R287). -/
def leafEntry (part va log2 entry : Nat) (write : Bool) : TlbEntry :=
  { part := part, log2 := log2, vpage := va >>> log2, frame := entry / 4096 * 4096, sys := bitsAt entry 5 1 == 1
    w := bitsAt entry 3 1 == 1, r := bitsAt entry 2 1 == 1, dirty := leafDirty entry write }

/-- Sets A, and D before a write, in the entry (12 R285), and installs the leaf in a cluster's cache. -/
def State.installLeaf (s : State) (cl part va : Nat) (key log2 entry : Nat) (write : Bool) : State :=
  ({ s with mem := memWrite s.mem key (leBytes 8 (usedLeaf entry write)) } : State).modCl cl (fun k =>
    { k with tlb := tlbInstall k.tlb (leafEntry part va log2 entry write) })

/-- The physical address that core `c`'s address has by its page table as it stands, cached or not. -/
def State.physOf (s : State) (c : Nat) (va : Word) : Option Nat :=
  match s.xlate c va false false with
  | .ok pa => some pa
  | .bad _ => none
  | .miss => match s.walkTable (s.partOf c) va.toNat with
    | .leaf _ log2 e => some (e / 4096 * 4096 + va.toNat % 2 ^ log2)
    | .absent => none

/-! ### Taking an exception and returning from one (17 R379-R386, 03 R87, R88) -/

/-- Cause codes (17 R379, 18 R411). -/
def Cause.code : Cause → Nat
  | .illegalInstruction => 0x01 | .misalignedPair => 0x02 | .illegalPair => 0x03 | .fetchRange => 0x04
  | .breakpoint => 0x05 | .privilege => 0x06 | .sysregValue => 0x07 | .operandRange => 0x08
  | .addressForm => 0x09 | .misalignedAccess => 0x0a | .accessKind => 0x0b | .translation => 0x0c
  | .protection => 0x0d | .windowUnbound => 0x0e | .queueUnbound => 0x0f | .queueDirection => 0x10
  | .queueBind => 0x11 | .queueClosed => 0x12 | .activationTarget => 0x13 | .barrierNumber => 0x14
  | .barrierState => 0x15 | .ringGeometry => 0x16 | .ringOverrun => 0x17 | .ringUnderrun => 0x18
  | .parkHandle => 0x19 | .tileState => 0x1a | .tileSpace => 0x1b | .spanState => 0x1c
  | .deterministicMode => 0x1d | .asyncFailed => 0x1e | .journalState => 0x1f | .replayDivergence => 0x20
  | .memoryError => 0x21 | .roundVoided => 0x40 | .templateFailed => 0x41 | .queuePeerReset => 0x43
  | .faultBufferOverflow => 0x50 | .supervisorCall => Config.supervisorCallCode

/-- The cause's information is a faulting address (17 R379). -/
def Cause.hasAddress : Cause → Bool
  | .fetchRange => true
  | .addressForm => true
  | .misalignedAccess => true
  | .accessKind => true
  | .translation => true
  | .protection => true
  | .deterministicMode => true
  | .asyncFailed => true
  | .replayDivergence => true
  | .memoryError => true
  | _ => false

/-- BRK and SYSC: the trap returns past the pair, whose address is the raise's information (03 R83, R87). -/
def Cause.resumesPast : Cause → Bool
  | .breakpoint => true
  | .supervisorCall => true
  | _ => false

/-- The words of a fault item (17 R380); kind 0 saved, 1 in place, 2 engine event, 3 summary. -/
def faultItem (kind entry : Nat) (r : Raise) (tag : Word) : List Word :=
  [ BitVec.ofNat 64 (r.cause.code * 2 ^ 56 + kind * 2 ^ 52 + entry * 2 ^ 48 +
      (if r.pair then 2 ^ 47 else 0) + (if r.aHalf then 2 ^ 46 else 0) + tag.toNat % 2 ^ 46),
    r.pc, r.info, BitVec.ofNat 64 (r.word.toNat * 2 ^ 32 + r.detail) ]

/-- Sends a fault item from a router to a partition's fault-service queue; it is never dropped (17 R380). -/
def State.sendFault (s : State) (router part : Nat) (words : List Word) : State :=
  match s.part? part with
  | some p => s.pushAt router p.faultQ .service words false
  | none => { s with outbox := s.outbox ++ [.report words] }

/-- Sends an engine event's item for core `c` (17 R379 kind E). -/
def State.sendEvent (s : State) (c : Nat) (cause : Cause) (pc info : Word) (detail : Nat) : State :=
  let k := s.cl (clusterOf c)
  s.sendFault (clusterOf c % 1024) k.part (faultItem 2 0 ⟨cause, info, pc, false, false, 0, detail⟩
    (callTag ((s.core c).act.getD 0) k.gen c))

/-- A trap of a supervisor core (03 R87, 17 R386). -/
def State.trap (s : State) (c : Nat) (r : Raise) : State :=
  if (s.core c).th then s.modCore c (fun k => { k with mode := .stopped })
  else s.modCore c (fun k =>
    { k with
      yepc := (if r.cause.resumesPast then r.info else r.pc) &&& ~~~3
      ycause := BitVec.ofNat 18 (r.cause.code % 65536 + (if r.aHalf then 2 ^ 16 else 0) + (if r.pair then 2 ^ 17 else 0))
      yinfo := if r.cause.hasAddress then r.info else 0
      th := true
      barArrived := false
      owed := none
      nextPair := s.clk + 3
      pc := k.ytvec })

/-- The lowest-numbered free entry of a fault buffer (17 R382). -/
def Cluster.freeEntry (k : Cluster) : Option Nat :=
  firstFree (fun i => (mgetD k.faults i FaultEntry.reset).valid) 16 0

/-- The activation keeps its core: a crew or span member, or a token is not zero (17 R381). -/
def State.parksInPlace (s : State) (c : Nat) : Bool :=
  !(s.core c).tokensClear || (match s.running c with | some a => a.member | none => false)

/-- Every pending result of earlier pairs has been written (17 R381); a memory-error stays pending (18 R411). -/
def Core.settled (k : Core) : Bool :=
  k.pending.isEmpty && k.waits.all (fun w => match w.err with | .memory _ => true | _ => false)

/-- Parks the activation of core `c` in a given entry (17 R381, R382). -/
def State.parkIn (s : State) (c e : Nat) (r : Raise) : State :=
  let cl := clusterOf c
  let k := s.cl cl
  let old := mgetD k.faults e FaultEntry.reset
  let inPlace := s.parksInPlace c
  let n := (s.core c).act.getD 0
  let entry : FaultEntry := { valid := true, inPlace := inPlace, ticket := (old.ticket + 1) % 256, gen := k.gen,
                              core := c, act := n, raise := r, written := inPlace, after := 0 }
  let s := s.modCl cl (fun k => { k with faults := mset k.faults e entry })
  if inPlace then
    (s.modCore c (fun k => { k with mode := .inPlace e })).sendFault cl k.part
      (faultItem 1 e r (callTag n k.gen c))
  else s.modCore c (fun k => { k with mode := .saving e (if k.settled then s.clk + 76 else 0) })

/-- A fault of a tenant core parks its activation, or holds it in place while all 16 entries are in use
(17 R381-R383). -/
def State.park (s : State) (c : Nat) (r : Raise) : State :=
  let cl := clusterOf c
  match (s.cl cl).freeEntry with
  | some e => s.parkIn c e r
  | none =>
    let s := s.modCore c (fun k => { k with mode := .holding r s.clk })
    if (s.cl cl).overflow then s
    else { s.modCl cl (fun k => { k with overflow := true }) with
           supFaults := s.supFaults ++ [faultItem 3 0
             ⟨.faultBufferOverflow, BitVec.ofNat 64 cl, 0, false, false, 0, 0⟩ 0] }

/-- TAKING AN EXCEPTION: the one entry that every fault, BRK and supervisor SYSC takes. A supervisor core
traps (03 R87); a tenant core's activation parks (17 R381). -/
def State.takeException (s : State) (c : Nat) (r : Raise) : State :=
  if isSup c then s.trap c r else s.park c r

/-- RETURNING FROM ONE: the pc becomes YEPC and TH clears (03 R88). -/
def State.returnFromTrap (s : State) (c : Nat) : State :=
  s.modCore c (fun k => { k with pc := k.yepc, th := false, nextPair := s.clk + 3 })

end Sys2Proof.Machine
end

