-- ==== Sys2Proof/Machine/Flags.lean ====
section
/-!
DEFINITION. The numbers (10 R247-R252) and every flag computation (06 R159, R167; 05 R140): exact values, one
rounding, saturation, NaN, YFLAGS bits.
-/

namespace Sys2Proof.Machine

/-! ### YFLAGS bits (03 R96) -/

/-- NX. -/
def fNX : BitVec 6 := 1
/-- UF. -/
def fUF : BitVec 6 := 2
/-- OF. -/
def fOF : BitVec 6 := 4
/-- DZ. -/
def fDZ : BitVec 6 := 8
/-- NV. -/
def fNV : BitVec 6 := 16

/-- The flag, if a condition holds. -/
def flagIf (c : Bool) (f : BitVec 6) : BitVec 6 := if c then f else 0

/-! ### Formats (10 R248, R250) -/

/-- Bits of an element (06 R155: 6-bit formats stand in a byte). -/
def fmtBits : Fmt → Nat
  | .f32 => 32 | .f16 => 16 | .b16 => 16 | .e5 => 8 | .e4 => 8 | .k3 => 6 | .k2 => 6 | .q2 => 4
  | .i8 => 8 | .n8 => 8 | .i4 => 4 | .n4 => 4 | .p1 => 1

/-- Bits of a lane (06 R155). -/
def laneBits : Fmt → Nat
  | .k3 => 8
  | .k2 => 8
  | t => fmtBits t

/-- n(T): lanes of a vector register (06 R155). -/
def laneCount (t : Fmt) : Nat := 1024 / laneBits t

/-- Exponent bits of a floating format. -/
def expBits : Fmt → Nat
  | .f32 => 8 | .f16 => 5 | .b16 => 8 | .e5 => 5 | .e4 => 4 | .k3 => 3 | .k2 => 2 | .q2 => 2 | _ => 0

/-- Mantissa bits of a floating format. -/
def manBits : Fmt → Nat
  | .f32 => 23 | .f16 => 10 | .b16 => 7 | .e5 => 2 | .e4 => 3 | .k3 => 2 | .k2 => 3 | .q2 => 1 | _ => 0

/-- Bias of a floating format. -/
def bias : Fmt → Int
  | .f32 => 127 | .f16 => 15 | .b16 => 127 | .e5 => 15 | .e4 => 7 | .k3 => 3 | .k2 => 1 | .q2 => 1 | _ => 0

/-- The encoding of the largest finite magnitude. -/
def maxMag : Fmt → Nat
  | .f32 => 0x7f7fffff | .f16 => 0x7bff | .b16 => 0x7f7f | .e5 => 0x7b | .e4 => 0x7e | .k3 => 0x1f
  | .k2 => 0x1f | .q2 => 7 | _ => 0

/-- The encoding of +∞, where there is one. -/
def infMag : Fmt → Option Nat
  | .f32 => some 0x7f800000 | .f16 => some 0x7c00 | .b16 => some 0x7f80 | .e5 => some 0x7c | _ => none

/-- The canonical NaN, where there is one (10 R248, R249). -/
def canonNan : Fmt → Option Nat
  | .f32 => some 0x7fc00000 | .f16 => some 0x7e00 | .b16 => some 0x7fc0 | .e5 => some 0x7e | .e4 => some 0x7f
  | _ => none

/-- Least and greatest value of an integer format (10 R250). -/
def intRange : Fmt → Int × Int
  | .i8 => (-128, 127) | .n8 => (0, 255) | .i4 => (-8, 7) | .n4 => (0, 15) | _ => (0, 1)

/-- The sign bit of a floating format. -/
def signOf (t : Fmt) (neg : Bool) : Nat := if neg then 2 ^ (fmtBits t - 1) else 0

/-! ### Values -/

/-- What an element stands for: a NaN, an infinity, or a sign and a magnitude m × 2^e. -/
inductive Val where
  | nan (signalling : Bool)
  | inf (neg : Bool)
  | fin (neg : Bool) (m : Nat) (e : Int)
  deriving DecidableEq, Repr

/-- The value of a floating element (10 R247-R249). -/
def floatVal (t : Fmt) (x : Nat) : Val :=
  let p := manBits t
  let mag := x % 2 ^ (fmtBits t - 1)
  let neg := decide (2 ^ (fmtBits t - 1) ≤ x % 2 ^ fmtBits t)
  let E := mag / 2 ^ p
  let m := mag % 2 ^ p
  if maxMag t < mag then
    (if infMag t = some mag then .inf neg else .nan (decide (t ≠ .e4) && decide (m < 2 ^ (p - 1))))
  else if E = 0 then .fin neg m (1 - bias t - p)
  else .fin neg (2 ^ p + m) (E - bias t - p)

/-- The value of an integer element (10 R250). -/
def intVal (t : Fmt) (x : Nat) : Int :=
  let w := fmtBits t
  let v := x % 2 ^ w
  if (t = .i8 ∨ t = .i4) ∧ 2 ^ (w - 1) ≤ v then (v : Int) - 2 ^ w else v

/-- The value of an element of any format. -/
def elemVal (t : Fmt) (x : Nat) : Val :=
  if t.isFloat then floatVal t x
  else let i := intVal t x
       .fin (decide (i < 0)) i.natAbs 0

/-- The bits of an integer in an integer format. -/
def intBits (t : Fmt) (i : Int) : Nat := (i % (2 ^ fmtBits t : Nat)).toNat

/-! ### Rounding (10 R251) -/

/-- Whether the magnitude rounds up: `lo` the grid point below in quanta, `rem` and `half` what is left of it
and half a quantum, both in the same unit. -/
def roundsUp (rm : RMode) (neg : Bool) (lo rem half : Nat) : Bool :=
  if rem = 0 then false
  else match rm with
    | .rne => decide (half < rem) || (decide (rem = half) && decide (lo % 2 = 1))
    | .rna => decide (half ≤ rem)
    | .rtz => false
    | .rup => !neg
    | .rdn => neg
    | .rod => decide (lo % 2 = 0)

/-- The magnitude m × 2^e in quanta of 2^q, rounded; whether it is inexact. -/
def roundQuanta (rm : RMode) (neg : Bool) (m : Nat) (e q : Int) : Nat × Bool :=
  if q ≤ e then (m * 2 ^ (e - q).toNat, false)
  else
    let r := (q - e).toNat
    let lo := m / 2 ^ r
    let rem := m % 2 ^ r
    (if roundsUp rm neg lo rem (2 ^ (r - 1)) then lo + 1 else lo, decide (rem ≠ 0))

/-- The exponent of the quantum at |x| = m × 2^e. -/
def quantum (t : Fmt) (m : Nat) (e : Int) : Int := max ((Nat.log2 m : Int) + e) (1 - bias t) - manBits t

/-- The magnitude bits of n quanta of 2^q; beyond the largest finite one the count goes on (10 R251). -/
def magBits (t : Fmt) (n : Nat) (q : Int) : Nat :=
  if n < 2 ^ manBits t then n
  else (q + manBits t + bias t).toNat * 2 ^ manBits t + (n - 2 ^ manBits t)

/-- An overflow of a mode goes to infinity (06 R168). -/
def overflowToInf (rm : RMode) (neg : Bool) : Bool :=
  match rm with
  | .rne => true
  | .rna => true
  | .rtz => false
  | .rup => !neg
  | .rdn => neg
  | .rod => false

/-- An infinity as the format holds it; E4 holds its NaN with the sign (06 R168). -/
def infBits (t : Fmt) (neg : Bool) : Nat :=
  signOf t neg + (match infMag t with | some i => i | none => (canonNan t).getD (maxMag t))

/-- ±m × 2^e rounded once to a floating format, with its flags (06 R159, R167, R168). -/
def roundFloat (t : Fmt) (rm : RMode) (sat neg : Bool) (m : Nat) (e : Int) : Nat × BitVec 6 :=
  if m = 0 then (signOf t neg, 0)
  else
    let q := quantum t m e
    let r := roundQuanta rm neg m e q
    let mag := magBits t r.1 q
    if maxMag t < mag then
      (if !sat && overflowToInf rm neg then infBits t neg else signOf t neg + maxMag t, fOF ||| fNX)
    else (signOf t neg + mag, flagIf r.2 fNX ||| flagIf (r.2 && decide ((Nat.log2 m : Int) + e < 1 - bias t)) fUF)

/-- ±m × 2^e rounded to an integer format (06 R167). -/
def roundInt (t : Fmt) (rm : RMode) (sat neg : Bool) (m : Nat) (e : Int) : Nat × BitVec 6 :=
  let r := roundQuanta rm neg m e 0
  let y : Int := if neg then -(r.1 : Int) else r.1
  let lo := (intRange t).1
  let hi := (intRange t).2
  if lo ≤ y ∧ y ≤ hi then (intBits t y, flagIf r.2 fNX)
  else if sat then (intBits t (if y < lo then lo else hi), fOF ||| fNX)
  else (intBits t y, fNV ||| fNX)

/-! ### Arithmetic on exact values -/

/-- The exact sum of two finite values; an exact zero is +0 unless both are -0 (06 R159). -/
def addFin (n1 : Bool) (m1 : Nat) (e1 : Int) (n2 : Bool) (m2 : Nat) (e2 : Int) : Val :=
  let e := min e1 e2
  let a : Int := (m1 * 2 ^ (e1 - e).toNat : Nat)
  let b : Int := (m2 * 2 ^ (e2 - e).toNat : Nat)
  let s := (if n1 then -a else a) + (if n2 then -b else b)
  if s = 0 then .fin (n1 && n2 && decide (m1 = 0) && decide (m2 = 0)) 0 0
  else .fin (decide (s < 0)) s.natAbs e

/-- A sum of values; `.nan false` is an invalid operation. -/
def addVal : Val → Val → Val
  | .nan s, .nan s' => .nan (s || s')
  | .nan s, _ => .nan s
  | _, .nan s => .nan s
  | .inf a, .inf b => if a = b then .inf a else .nan false
  | .inf a, _ => .inf a
  | _, .inf b => .inf b
  | .fin n1 m1 e1, .fin n2 m2 e2 => addFin n1 m1 e1 n2 m2 e2

/-- A product of values. -/
def mulVal : Val → Val → Val
  | .nan s, .nan s' => .nan (s || s')
  | .nan s, _ => .nan s
  | _, .nan s => .nan s
  | .inf a, .inf b => .inf (a != b)
  | .inf a, .fin b m _ => if m = 0 then .nan false else .inf (a != b)
  | .fin a m _, .inf b => if m = 0 then .nan false else .inf (a != b)
  | .fin a m e, .fin b m' e' => .fin (a != b) (m * m') (e + e')

/-- A value with its sign changed. -/
def negVal : Val → Val
  | .nan s => .nan s
  | .inf n => .inf (!n)
  | .fin n m e => .fin (!n) m e

/-- The value is a NaN. -/
def Val.isNan : Val → Bool
  | .nan _ => true
  | _ => false

/-- The value is a signalling NaN. -/
def Val.isSnan : Val → Bool
  | .nan s => s
  | _ => false

/-- The value is an infinity. -/
def Val.isInf : Val → Bool
  | .inf _ => true
  | _ => false

/-- The value is a zero. -/
def Val.isZero : Val → Bool
  | .fin _ m _ => decide (m = 0)
  | _ => false

/-- The product is 0 × ∞ (06 R159). -/
def zeroTimesInf (a b : Val) : Bool := (a.isZero && b.isInf) || (a.isInf && b.isZero)

/-- A result of a floating form, rounded to nearest even (06 R159): the canonical NaN for a NaN, with NV for a
signalling operand or an invalid operation. -/
def resultFloat (t : Fmt) (r : Val) (snan invalid : Bool) : Nat × BitVec 6 :=
  match r with
  | .nan _ => ((canonNan t).getD 0, flagIf (snan || invalid) fNV)
  | .inf n => (infBits t n, flagIf snan fNV)
  | .fin n m e => roundFloat t .rne false n m e

/-- a + b. -/
def fAdd (t : Fmt) (a b : Val) : Nat × BitVec 6 :=
  let r := addVal a b
  resultFloat t r (a.isSnan || b.isSnan) (r.isNan && !a.isNan && !b.isNan)

/-- a × b. -/
def fMul (t : Fmt) (a b : Val) : Nat × BitVec 6 :=
  resultFloat t (mulVal a b) (a.isSnan || b.isSnan) (zeroTimesInf a b)

/-- a × b + d, exact, one rounding; 0 × ∞ is invalid even with a quiet NaN addend (06 R159). -/
def fFma (t : Fmt) (a b d : Val) : Nat × BitVec 6 :=
  let pr := mulVal a b
  let r := addVal pr d
  resultFloat t r (a.isSnan || b.isSnan || d.isSnan)
    (zeroTimesInf a b || (r.isNan && !pr.isNan && !d.isNan))

/-- a < b for values that are no NaN, with -0 < +0 when `zeros` is set. -/
def ltVal (zeros : Bool) : Val → Val → Bool
  | .inf a, .inf b => a && !b
  | .inf a, .fin _ _ _ => a
  | .fin _ _ _, .inf b => !b
  | .fin n1 m1 e1, .fin n2 m2 e2 =>
    if m1 = 0 ∧ m2 = 0 then zeros && n1 && !n2
    else
      let e := min e1 e2
      let a : Int := (m1 * 2 ^ (e1 - e).toNat : Nat)
      let b : Int := (m2 * 2 ^ (e2 - e).toNat : Nat)
      decide ((if n1 then -a else a) < (if n2 then -b else b))
  | _, _ => false

/-- IEEE 754-2019 minimum or maximum on encodings (06 R160). -/
def fMinMax (t : Fmt) (isMax : Bool) (x y : Nat) : Nat × BitVec 6 :=
  let a := floatVal t x
  let b := floatVal t y
  if a.isNan || b.isNan then ((canonNan t).getD 0, flagIf (a.isSnan || b.isSnan) fNV)
  else if (if isMax then ltVal true a b else ltVal true b a) then (y, 0) else (x, 0)

/-- Equality of values that are no NaN (06 R161). -/
def eqVal (a b : Val) : Bool := !a.isNan && !b.isNan && !ltVal false a b && !ltVal false b a

/-- x × 2^k, exactly. -/
def scaleVal (v : Val) (k : Int) : Val :=
  match v with
  | .fin n m e => .fin n m (e + k)
  | w => w

/-- Conversion of a value (06 R167). -/
def convertVal (tt : Fmt) (rm : RMode) (sat : Bool) (v : Val) : Nat × BitVec 6 :=
  match v with
  | .nan s => match canonNan tt with
    | some c => (c, flagIf s fNV)
    | none => (0, fNV)
  | .inf n =>
    if sat then
      (if tt.isFloat then (signOf tt n + maxMag tt, 0)
       else (intBits tt (if n then (intRange tt).1 else (intRange tt).2), fNV))
    else match infMag tt with
      | some i => (signOf tt n + i, 0)
      | none => if tt = .e4 then (signOf tt n + 0x7f, fNV) else (0, fNV)
  | .fin n m e => if tt.isFloat then roundFloat tt rm sat n m e else roundInt tt rm sat n m e

/-- Conversion of one element. -/
def convert (tt ts : Fmt) (rm : RMode) (sat : Bool) (x : Nat) : Nat × BitVec 6 := convertVal tt rm sat (elemVal ts x)

/-! ### Exact results that are no dyadic number (06 R165)

Each is given as a magnitude m × 2^e whose last bit is set when anything was cut off; the rounding of R251 needs
no more. -/

/-- The integer square root of `n`, bit by bit from bit `b - 1`. -/
def isqrtFrom (n : Nat) : Nat → Nat → Nat
  | 0, r => r
  | b + 1, r => if (r + 2 ^ b) * (r + 2 ^ b) ≤ n then isqrtFrom n b (r + 2 ^ b) else isqrtFrom n b r

/-- 1 ÷ (m × 2^e), m ≠ 0. -/
def recipExact (m : Nat) (e : Int) : Nat × Int :=
  let n := 2 ^ 64
  (2 * (n / m) + (if n % m = 0 then 0 else 1), -e - 65)

/-- 1 ÷ √(m × 2^e), m ≠ 0. -/
def rsqrtExact (m : Nat) (e : Int) : Nat × Int :=
  let odd := e % 2 = 1
  let m' := if odd then 2 * m else m
  let e' := if odd then e - 1 else e
  let n := 2 ^ 128 / m'
  let r := isqrtFrom n 65 0
  (2 * r + (if r * r * m' = 2 ^ 128 then 0 else 1), -64 - e' / 2 - 1)

/-- ⌊ln 2 × 2^200⌋. -/
def ln2Fixed : Int := 1113844574712631719546256151097547306333272293549090750737802

/-- Σ x^k / k! in units of 2^-200, from the term after `term`. -/
def expSeries (x : Int) : Nat → Nat → Int → Int
  | 0, _, _ => 0
  | n + 1, k, term => term + expSeries x n (k + 1) (term * x / (2 ^ 200 * (k + 1)))

/-- Σ z^(2k+1) / (2k+1) in units of 2^-200. -/
def atanhSeries (z2 : Int) : Nat → Nat → Int → Int
  | 0, _, _ => 0
  | n + 1, k, pow => pow / (2 * k + 1) + atanhSeries z2 n (k + 1) (pow * z2 / 2 ^ 200)

/-- The nearest integer to ±m × 2^e with e < 0, and the rest in units of 2^e. -/
def splitNearest (neg : Bool) (m : Nat) (e : Int) : Int × Int :=
  let d : Int := (2 ^ (-e).toNat : Nat)
  let a : Int := if neg then -(m : Int) else m
  let k := (2 * a + d) / (2 * d)
  (k, a - k * d)

/-- 2^a for a = ±m × 2^e, |a| < 256. -/
def exp2Exact (neg : Bool) (m : Nat) (e : Int) : Nat × Int :=
  if 0 ≤ e then
    let a : Int := (m * 2 ^ e.toNat : Nat)
    (1, if neg then -a else a)
  else
    let s := splitNearest neg m e
    if s.2 = 0 then (1, s.1)
    else if s.2.natAbs * 2 ^ 40 < 2 ^ (-e).toNat then
      (if s.2 < 0 then (2 ^ 40 - 1, s.1 - 40) else (2 ^ 40 + 1, s.1 - 40))
    else
      let x := s.2 * ln2Fixed / (2 ^ (-e).toNat : Nat)
      let y := expSeries x 64 0 (2 ^ 200)
      (2 * (y.toNat / 2 ^ 40) + 1, s.1 - 161)

/-- log₂ (m × 2^e), m ≠ 0: sign, magnitude and exponent. -/
def log2Exact (m : Nat) (e : Int) : Bool × Nat × Int :=
  let l := Nat.log2 m
  let k := (l : Int) + e
  if m = 2 ^ l then (decide (k < 0), k.natAbs, 0)
  else
    let one : Int := 2 ^ 200
    let f : Int := ((m - 2 ^ l) * 2 ^ 200 / (m + 2 ^ l) : Nat)
    let ln := 2 * atanhSeries (f * f / one) 70 0 f
    let v := k * one + ln * one / ln2Fixed
    (decide (v < 0), 2 * (v.natAbs / 2 ^ 20) + 1, -181)

/-- VRCP of one lane (06 R165). -/
def fRcp (x : Nat) : Nat × BitVec 6 :=
  match floatVal .f32 x with
  | .nan s => (0x7fc00000, flagIf s fNV)
  | .inf n => (signOf .f32 n, 0)
  | .fin n m e => if m = 0 then (infBits .f32 n, fDZ)
    else let r := recipExact m e
         roundFloat .f32 .rne false n r.1 r.2

/-- VRSQ of one lane (06 R165). -/
def fRsq (x : Nat) : Nat × BitVec 6 :=
  match floatVal .f32 x with
  | .nan s => (0x7fc00000, flagIf s fNV)
  | .inf n => if n then (0x7fc00000, fNV) else (0, 0)
  | .fin n m e => if m = 0 then (infBits .f32 n, fDZ)
    else if n then (0x7fc00000, fNV)
    else let r := rsqrtExact m e
         roundFloat .f32 .rne false false r.1 r.2

/-- VEXP2 of one lane (06 R165). -/
def fExp2 (x : Nat) : Nat × BitVec 6 :=
  match floatVal .f32 x with
  | .nan s => (0x7fc00000, flagIf s fNV)
  | .inf n => if n then (0, 0) else (infBits .f32 false, 0)
  | .fin n m e =>
    if 8 ≤ (Nat.log2 m : Int) + e ∧ m ≠ 0 then
      (if n then roundFloat .f32 .rne false false 1 (-400) else roundFloat .f32 .rne false false 1 400)
    else let r := exp2Exact n m e
         roundFloat .f32 .rne false false r.1 r.2

/-- VLOG2 of one lane (06 R165). -/
def fLog2 (x : Nat) : Nat × BitVec 6 :=
  match floatVal .f32 x with
  | .nan s => (0x7fc00000, flagIf s fNV)
  | .inf n => if n then (0x7fc00000, fNV) else (infBits .f32 false, 0)
  | .fin n m e => if m = 0 then (infBits .f32 true, fDZ)
    else if n then (0x7fc00000, fNV)
    else let r := log2Exact m e
         roundFloat .f32 .rne false r.1 r.2.1 r.2.2

/-- FAMO's sum (05 R140): no flag; the canonical NaN for a NaN or for infinities of opposite sign. -/
def famoSum (half : Bool) (old v : Nat) : Nat :=
  let t : Fmt := if half then .b16 else .f32
  (fAdd t (floatVal t old) (floatVal t v)).1

end Sys2Proof.Machine
end

