-- ==== Sys2Proof/Machine/Lifecycle.lean ====
section
/-!
DEFINITION. The life of an activation: frames, suspension, retirement, system calls, and what a lone word or a
pair does when its halves have run (01 R35, R40; 03 R82-R88; 04 R117-R119; 09 R230-R242).
-/

namespace Sys2Proof.Machine

/-! ### Run queues -/

/-- Adds an entry to a run queue. -/
def State.joinRunq (s : State) (c : Nat) (e : RunEntry) : State :=
  s.modCore c (fun k => { k with runq := k.runq ++ [e] })

/-- Among cores of a cluster that a test accepts, the one with the fewest entries, then the lowest number
(04 R112). -/
def State.fewest (s : State) (cl : Nat) (ok : Nat → Bool) : Option Nat :=
  (List.range 8).foldl (fun best i =>
    let c := cl * 8 + i
    if !ok c then best
    else match best with
      | none => some c
      | some b => if (s.core c).runq.length < (s.core b).runq.length then some c else some b) none

/-! ### Frames (04 R117, R118; 09 R241; 17 R381) -/

/-- YACT of an activation (03 R95). -/
def Act.yact (a : Act) : Word :=
  BitVec.ofNat 64 (a.queue * 2 ^ 48 + a.handler * 2 ^ 40 + a.kind * 2 ^ 37 + a.rank * 2 ^ 34 +
    (a.size - 1) * 2 ^ 31 + a.eff * 2 ^ 5 + a.base)

/-- The slice offset of a frame: a slot of the cactus stack, 640 bytes each, or of the fault frames, 4,864 bytes each. -/
def Cluster.frameOff (k : Cluster) (fault : Bool) (slot : Nat) : Nat :=
  if fault then k.faultStack + 4864 * slot else k.stack + 640 * slot

/-- The slice offset of an activation's frame; one without a frame has none. -/
def Cluster.frameOf (k : Cluster) (a : Act) : Option Nat := a.frame.map (fun f => k.frameOff f.fault f.slot)

/-- The lowest-numbered free slot of the cactus stack (04 R118, 09 R241). -/
def Cluster.freeFrame (k : Cluster) : Option Nat :=
  firstFree (fun i => k.acts.any (fun a => match a.2.frame with | some f => !f.fault && decide (f.slot = i) | none => false))
    k.stackFrames 0

/-- The word at frame offset 0x0d0 (04 R117): the parent's frame in bits 31:0, 0 for a parent without one, and the children
outstanding in bits 63:32 (log 46). -/
def Cluster.link (k : Cluster) (a : Act) : Word :=
  let up := ((a.parent.bind (mget k.acts)).bind k.frameOf).getD 0
  BitVec.ofNat 64 (a.children * 2 ^ 32 + up)

/-- A ring handle's 24 bytes: base, geometry word, positions; bit 63 of the geometry word says that it is valid (log 46). -/
def RingH.bytes (h : RingH) : List Byte :=
  leBytes 8 h.base.toNat ++ leBytes 8 ((if h.valid then 2 ^ 63 else 0) + h.log2 * 2 ^ 20 + h.slot) ++
    leBytes 4 h.wpos.toNat ++ leBytes 4 h.rpos.toNat

/-- The 640 bytes of a frame (04 R117). A tile binding is two bytes, the tile's number plus 1, or 0 (log 46). -/
def Core.frameBytes (k : Core) (a : Act) (link pc : Word) : List Byte :=
  (List.range 23).flatMap (fun i => leBytes 8 (k.getX (i + 1)).toNat) ++ leBytes 8 pc.toNat ++ leBytes 8 a.yact.toNat ++
    leBytes 8 k.yflags.toNat ++ leBytes 8 link.toNat ++
    (List.range 16).flatMap (fun i => leBytes 2 (match mget k.a i with | some t => t + 1 | none => 0)) ++ leBytes 8 0 ++
    (List.range 16).flatMap (fun i => (k.getH i).bytes)

/-- What a fault frame adds (17 R381): m1-m7, 16 bytes of zeros, v0-v31. -/
def Core.vectorBytes (k : Core) : List Byte :=
  (List.range 7).flatMap (fun i => leBytes 16 (k.getM (i + 1)).toNat) ++ leBytes 16 0 ++
    (List.range 32).flatMap (fun i => leBytes 128 (k.getV i).toNat)

/-- The record beside a frame's bytes. -/
def Core.frame (k : Core) (fault : Bool) (slot : Nat) (endOnly : Bool) (savedAt : Nat) : Frame :=
  { fault := fault, slot := slot, h := k.h, a := k.a, waits := if fault then k.waits else [], fails := k.fails,
    barArrived := k.barArrived, owed := k.owed, endOnly := endOnly, savedAt := savedAt, bytes := [] }

/-- Frees the core of its activation. -/
def Core.released (k : Core) : Core :=
  { k with mode := .idle, act := none, pending := [], waits := [], barArrived := false, owed := none }

/-- The accesses that a core has outstanding, for a release to come (04 R116). -/
def State.leftOn (s : State) (c : Nat) : List (Nat × List Nat) :=
  if (s.core c).mem.isEmpty then [] else [(c, (s.core c).mem.map (fun o => o.id))]

/-- Writes the bytes of an activation's frame from its core's registers. -/
def State.writeFrame (s : State) (c : Nat) (a : Act) (fault : Bool) (slot : Nat) (pc : Word) : State :=
  let k := s.cl (clusterOf c)
  let bs := (s.core c).frameBytes a (k.link a) pc ++ (if fault then (s.core c).vectorBytes else [])
  s.writeOnce (sliceKey (clusterOf c) (k.frameOff fault slot)) bs

/-- `n` bytes of a frame from offset `off`. -/
def State.framePart (s : State) (cl : Nat) (f : Frame) (off n : Nat) : Nat :=
  ofBytes (if f.bytes.isEmpty then memRead s.mem (sliceKey cl ((s.cl cl).frameOff f.fault f.slot + off)) n
    else (f.bytes.drop off).take n)

/-- Writes a word of a frame in the cluster store; one whose entry has freed lies there no more. -/
def State.setFrameWord (s : State) (cl : Nat) (f : Frame) (off : Nat) (w : Word) : State :=
  if f.bytes.isEmpty then s.writeOnce (sliceKey cl ((s.cl cl).frameOff f.fault f.slot + off)) (leBytes 8 w.toNat) else s

/-- An activation's frame, if it has one, shows its children (09 R241). -/
def State.relink (s : State) (cl n : Nat) : State :=
  match s.act? cl n with
  | some a => (match a.frame with | some f => s.setFrameWord cl f 0x0d0 ((s.cl cl).link a) | none => s)
  | none => s

/-- Saves the running activation's frame and releases its core, which selects again once the frame is whole: 640 bytes take
10 clk (04 R125). -/
def State.suspend (s : State) (c n : Nat) (a : Act) (slot : Nat) (place : ActPlace) (pc : Word) (endOnly : Bool) : State :=
  let b : Act := { a with
    place := place, frame := some ((s.core c).frame false slot endOnly (s.clk + 10)), kind := 1, left := a.left ++ s.leftOn c }
  ((s.writeFrame c a false slot pc).setAct (clusterOf c) n b).modCore c (fun k => { k.released with nextPair := s.clk + 11 })

/-- A run-queue entry for a continuation, ordered among those of its clk by its frame's offset (09 R233). -/
def State.contEntry (s : State) (cl n : Nat) (a : Act) : RunEntry := ⟨.cont n, s.clk, a.base, 1, ((s.cl cl).frameOf a).getD 0⟩

/-- A continuation that became ready earlier waits for a slot of a core that this one could take (09 R234). -/
def Cluster.olderReady (k : Cluster) (n : Nat) (a : Act) (since : Nat) : Bool :=
  k.acts.any (fun p => match p.2.place with
    | .ready t _ => decide (p.1 ≠ n) && decide (p.2.role = a.role) && (decide (t < since) || (decide (t = since) && decide (p.1 < n)))
    | _ => false)

/-- Places a ready continuation on a core of its cluster that holds its role, the oldest first; one that finds every run queue
with 64 entries stays on the stack marked ready (09 R234). A yielder's keeps to its own core (04 R119). -/
def State.placeContinuation (s : State) (cl n : Nat) (a : Act) (since : Nat) (on : Option Nat) : State :=
  let ok (c : Nat) : Bool := decide ((s.core c).role = a.role) && decide ((s.core c).runq.length < 64) &&
    (match on with | some d => decide (c = d) | none => true)
  match (if (s.cl cl).olderReady n a since then none else s.fewest cl ok) with
  | some c => (s.joinRunq c (s.contEntry cl n a)).setAct cl n { a with place := .queued c }
  | none => s.setAct cl n { a with place := .ready since on }

/-! ### Retirement (03 R82) -/

/-- Ends a span whose last member has ended: every claim releases and the span barriers reset (09 R239). -/
def State.endSpan (s : State) (id : Nat) : State :=
  match mget s.spans id with
  | none => s
  | some sp =>
    sp.claimed.foldl (fun s cl => s.modCl cl (fun k =>
      { k with span := none, crew := if (k.crew.bind (fun w => w.span)) = some id then none else k.crew }))
      { s with spans := mdel s.spans id }

/-- A member of a span has ended. -/
def State.memberEnded (s : State) (id : Nat) : State :=
  match mget s.spans id with
  | none => s
  | some sp =>
    if sp.members ≤ 1 then s.endSpan id
    else { s with spans := mset s.spans id { sp with members := sp.members - 1 } }

/-- Releases what an activation owned: tiles, parking slots (03 R82, 07 R176, 06 R174). -/
def Cluster.releaseOwned (k : Cluster) (n clk : Nat) : Cluster :=
  let rows := (k.tiles.filter (fun t => decide (t.2.owner = n))).flatMap (fun t => t.2.rows)
  let slots := (k.parks.filter (fun p => decide (p.2 = n))).map (fun p => p.1)
  { k with
    tiles := k.tiles.filter (fun t => decide (t.2.owner ≠ n))
    parks := k.parks.filter (fun p => decide (p.2 ≠ n))
    freed := (rows ++ slots).foldl (fun m r => mset m r clk) k.freed }

/-- A parent counts one child less; one that waits for this inline child may return (04 R114). -/
def Act.childEnded (b : Act) (n clk : Nat) : Act :=
  { b with
    children := b.children - 1
    endAt := some clk
    place := match b.place with | .inlineParent c m d => if m = n then .inlineDone c d else b.place | p => p }

/-- Removes an activation; its parent counts one child less (04 R116, 09 R242). -/
def State.removeAct (s : State) (cl n : Nat) (a : Act) : State :=
  let s := s.modCl cl (fun k => ({ k with acts := mdel k.acts n }).releaseOwned n s.clk)
  let s := match a.parent with
    | some p => (s.modAct cl p (fun b => b.childEnded n s.clk)).relink cl p
    | none => s
  match a.span with | some id => s.memberEnded id | none => s

/-- A child's accesses, on this core and on those where it was suspended, have been performed at cluster scope, which its end
releases at (04 R116). -/
def State.childReleased (s : State) (c : Nat) (a : Act) : Bool :=
  a.parent.isNone || (((s.core c).mem.all (fun o => o.shownAt .cl)) && a.left.all (s.gateOpen .cl))

/-- Retires the activation of a core (03 R82 steps 3 and 4). -/
def State.retire (s : State) (c n : Nat) (a : Act) : State :=
  (s.removeAct (clusterOf c) n a).modCore c Core.released

/-! ### Commands that outlive an activation's time on its core -/

/-- The number that stands for the token of a command that counts on none any more (03 R84, 17 R384). -/
def noToken : Nat := 8

/-- Changes the token and the ring handles of every command that a core has outstanding. -/
def State.rename (s : State) (c : Nat) (token ring : Nat → Nat) : State :=
  let cmd (a : AtollCmd) : AtollCmd :=
    if a.core = c then { a with token := token a.token, hIn := ring a.hIn, hOut := ring a.hOut } else a
  let s := s.modCore c (fun k => { k with
    copies := k.copies.map (fun x => { x with token := token x.token, ring := ring x.ring })
    atollQ := k.atollQ.map cmd
    jsyncs := k.jsyncs.map (fun j => (j.1, j.2.1, token j.2.2)) })
  let s := s.modCl (clusterOf c) (fun k => { k with
    mat := { k.mat with queues := mset k.mat.queues (c % 8) ((mgetD k.mat.queues (c % 8) []).map (fun x => { x with token := token x.token })) }
    atoll := { k.atoll with
      arrivals := k.atoll.arrivals.map cmd
      serving := k.atoll.serving.map (fun v => { v with cmd := cmd v.cmd }) } })
  { s with sends := s.sends.map (fun x => if x.core = c then { x with token := token x.token } else x) }

/-- The number by which commands name handle `h` of a suspended activation. -/
def suspendedRing (n h : Nat) : Nat := 16 * (n + 1) + h

/-- SYSC suspends an activation whose commands go on: they count on no token, as k0-k7 of its continuation are 0 (08 R201), and
act on its own ring handles (log 19). -/
def State.leaveEngines (s : State) (c n : Nat) : State :=
  s.rename c (fun _ => noToken) (fun h => if h < 16 then suspendedRing n h else h)

/-- Its continuation takes its handles back. -/
def State.takeEngines (s : State) (c n : Nat) : State :=
  s.rename c (fun t => t) (fun h => if suspendedRing n 0 ≤ h ∧ h < suspendedRing (n + 1) 0 then h - suspendedRing n 0 else h)

/-- The outstanding commands of a core whose activation ends count on no token, and name no handle of a later one (17 R384). -/
def State.dropTokens (s : State) (c n : Nat) : State := s.leaveEngines c n

/-- The handle that a command of core `c` names: the core's, or that of an activation suspended from it. -/
def State.handle (s : State) (c ring : Nat) : RingH :=
  if ring < 16 then (s.core c).getH ring
  else match (s.act? (clusterOf c) (ring / 16 - 1)).bind (fun a => a.frame) with
    | some f => mgetD f.h (ring % 16) RingH.invalid
    | none => RingH.invalid

/-- Sets the handle that a command of core `c` names. -/
def State.setHandle (s : State) (c ring : Nat) (h : RingH) : State :=
  if ring < 16 then s.modCore c (fun k => k.setH ring h)
  else s.modAct (clusterOf c) (ring / 16 - 1) (fun a => { a with
    frame := a.frame.map (fun f => { f with h := mset f.h (ring % 16) h }) })

/-! ### What ends a half's stalls -/

/-- A pending memory-error is raised at END, SYNC, YIELD and SYSC (18 R411). -/
def raisePoison : M Unit := do
  let k ← here
  match k.waits.find? (fun w => match w.err with | .memory _ => true | _ => false) with
  | some w => match w.err with | .memory a => stopWith (.poisoned w.id a) | _ => pure ()
  | none => pure ()

/-- The token stall of END, SYNC and YIELD: a recorded failure is raised, then every token must be zero
(05 R142, 03 R82, 04 R117). -/
def tokenStall : M Unit := do
  let k ← here
  match k.fails with
  | (t, _) :: _ => stopWith (.failed t)
  | [] => await k.tokensClear

/-- A pending result that goes to a bound output port (03 R82). -/
def Core.portPending (k : Core) : Bool :=
  let port (d : Dest) : Bool := match d with
    | .x r => decide (24 ≤ r) && (mget k.ports (r - 24)).isSome
    | _ => false
  k.pending.any (fun p => port p.dest) || k.waits.any (fun w => port w.dest)

/-- A register of the frame whose result is still pending. -/
def Core.framePending (k : Core) : Bool :=
  let inFrame (d : Dest) : Bool := match d with
    | .x _ => true
    | _ => false
  k.pending.any (fun p => inFrame p.dest || decide (p.flags ≠ 0)) || k.waits.any (fun w => inFrame w.dest)

/-- The running activation and its number. -/
def runningAct : M (Nat × Act) := fun s =>
  match (s.core s.cur).act with
  | some n =>
    match s.act? (clusterOf s.cur) n with
    | some a => .ok ((n, a), s)
    | none => .error (.stall .none)
  | none => .error (.stall .none)

/-- Suspends the running activation into a frame; a full cactus stack stalls (04 R118). -/
def suspendHere (place : ActPlace) (pc : Word) (endOnly : Bool) : M Unit := do
  let k ← here
  await (!k.framePending)
  let (n, a) ← runningAct
  let s ← get
  match (s.cl (clusterOf s.cur)).freeFrame with
  | none => stall
  | some slot => modify (fun s => s.suspend s.cur n a slot place pc endOnly)

/-- The address past the word or pair that issues. -/
def pastPair (s : State) : Word := (s.core s.cur).pc + (if s.issue.slot = .lone then 4 else 8)

/-! ### END, SYNC, YIELD, SYSC, BRK, ERET after the A-half (01 R40) -/

/-- END (03 R82). A supervisor core may run without an activation: END then leaves it idle (log 8). -/
def endAfter : M Unit := do
  raisePoison
  let s ← get
  if (s.core s.cur).act.isNone then modHere Core.released
  else do
  journalGate
  let (n, a) ← runningAct
  if a.children ≠ 0 then do
    await (!a.member)
    tokenStall
    suspendHere .waitChildren (s.core s.cur).pc true
  else do
    tokenStall
    let k ← here
    await (!k.portPending && s.childReleased s.cur a)
    modify (fun s => s.retire s.cur n a)

/-- SYNC (04 R117, R118). A member holds its core while its children run, and goes on in the clk after the last one's end
(09 R242). -/
def syncAfter : M Unit := do
  raisePoison
  let s ← get
  let a := (s.running s.cur)
  if (a.map (fun b => b.children)).getD 0 = 0 then do
    await (!(a.any (fun b => b.member && decide (b.endAt = some s.clk))))
    modHere (fun k => { k with pc := pastPair s })
  else do
    let member := (a.map (fun b => b.member)).getD false
    await (!member)
    tokenStall
    suspendHere .waitChildren (pastPair s) false

/-- The effective priority of an entry (09 R231): ageing interval I (0 reads as 65,536), ceiling C. -/
def effective (base waited : Nat) (k : Cluster) : Nat :=
  let i := if k.yagei = 0 then 65536 else k.yagei.toNat
  min (base + waited / i) k.yceil.toNat

/-- An express-trigger entry (09 R232). -/
def RunEntry.isExpress (e : RunEntry) : Bool :=
  match e.kind with | .trigger _ _ _ x => x | _ => false

/-- Other work that the core would select in the yielder's place (04 R119). -/
def State.otherWork (s : State) (c : Nat) (a : Act) : Bool :=
  !(s.core c).resumed.isEmpty ||
  (s.core c).runq.any (fun e => e.isExpress || decide (a.eff ≤ effective e.base (s.clk - e.time) (s.cl (clusterOf c))))

/-- YIELD (04 R119). With 64 entries in the core's run queue the continuation waits, marked ready, for the first slot of this
core, as 09 R234 has it for others (DESIGN CHOICE, log 62). -/
def yieldAfter : M Unit := do
  raisePoison
  let s ← get
  if (s.core s.cur).act.isNone then modHere (fun k => { k with pc := pastPair s })
  else do
  let (n, a) ← runningAct
  if a.member || !s.otherWork s.cur a then modHere (fun k => { k with pc := pastPair s })
  else do
    tokenStall
    suspendHere (.queued s.cur) (pastPair s) false
    modify (fun t => match t.act? (clusterOf s.cur) n with
      | some b => t.placeContinuation (clusterOf s.cur) n b s.clk (some s.cur)
      | none => t)

/-- The core may push a call now (03 R86): YSYSQ.V is 1, the last full signal is clear, it holds a credit. -/
def State.canCall (s : State) (c : Nat) : Bool :=
  let k := s.cl (clusterOf c)
  match k.sysq with
  | none => false
  | some q =>
    !k.sysFull && (match mget s.queues q with | some qu => decide (0 < qu.creditsOf (callParty c)) | none => false)

/-- The oldest parked caller whose core may push, if any comes before `n` (03 R86). -/
def State.olderCaller (s : State) (cl n : Nat) : Bool :=
  (((s.cl cl).callers.takeWhile (fun m => decide (m ≠ n))).any (fun m =>
    match s.act? cl m with | some a => s.canCall a.home | none => false))

/-- Pushes a call item (03 R84 step 2). -/
def State.pushCall (s : State) (c : Nat) (words : List Word) : State :=
  match (s.cl (clusterOf c)).sysq with
  | some q => s.push q (callParty c) words false
  | none => s

/-- SYSC (03 R84, R86; supervisor core R87). -/
def syscAfter (words : List Word) : M Unit := do
  let s ← get
  if isSup s.cur then
    modify (fun s => s.takeException s.cur
      ⟨.supervisorCall, pastPair s, (s.core s.cur).pc, decide (s.issue.slot ≠ .lone), false, s.issue.word, 0⟩)
  else do
    raisePoison
    journalGate
    let (n, a) ← runningAct
    let item := words ++ [callTag n (s.cl (clusterOf s.cur)).gen s.cur]
    let go := s.canCall s.cur && !s.olderCaller (clusterOf s.cur) n
    if a.member then
      if go then do
        modify (fun s => (s.pushCall s.cur item).modCl (clusterOf s.cur)
          (fun k => { k with callers := k.callers.filter (fun m => decide (m ≠ n)) }))
        modHere (fun k => { k with mode := .memberCall n, pc := pastPair s })
      else stall (.caller n)
    else do
      if go then modify (fun s => s.pushCall s.cur item) else pure ()
      suspendHere (if go then .inCall s.cur else .parkedCall s.cur) (pastPair s) false
      modify (fun t => ((t.leaveEngines s.cur n).modAct (clusterOf s.cur) n (fun b => { b with call := item })).modCl (clusterOf s.cur)
        (fun k => if go then k else { k with callers := k.callers ++ [n] }))

/-- The lowest activation number of a cluster that is free (03 R85). -/
def Cluster.freeAct (k : Cluster) : Option Nat := firstFree (fun i => (mget k.acts i).isSome) 65536 0

/-- A new activation of Kind 2 (04 R111, 08 R201). -/
def NewAct.act (n : NewAct) (parent : Option Nat) : Act :=
  { queue := 0xffff, handler := 0, kind := 2, rank := 0, size := 1, eff := n.base, base := n.base, parent := parent,
    children := 0, start := n.start, args := n.args, place := .fresh, frame := none, call := [], span := none,
    member := false, role := some n.role, home := n.issuer, gate := (n.issuer, n.gate), left := [], endAt := none }

/-- FORK.INLINE through a full run queue (04 R114): the frame is saved as SYNC does, and the child starts on the
core 11 clk after issue (R125) with the parent's effective priority. -/
def forkAfter (child : NewAct) (d : Nat) : M Unit := do
  raisePoison
  tokenStall
  let (n, a) ← runningAct
  let s ← get
  let cl := clusterOf s.cur
  match (s.cl cl).freeAct with
  | none => stall
  | some m => do
    suspendHere (.inlineParent s.cur m d) (pastPair s) false
    modify (fun t => (((t.modAct cl n (fun b => { b with children := b.children + 1 })).relink cl n).setAct cl m
      { child.act (some n) with place := .running s.cur, member := a.member }).modCore s.cur (fun k =>
        { k with act := some m, mode := .starting ⟨.task m, s.clk, child.base, 2, 0⟩ a.eff (s.clk + 11) }))

/-- BRK: its pair's effects stay, and it resumes past the pair (03 R83). -/
def brkAfter : M Unit :=
  modify (fun s => s.takeException s.cur
    ⟨.breakpoint, pastPair s, (s.core s.cur).pc, decide (s.issue.slot ≠ .lone), false, s.issue.word, 0⟩)

/-- What follows the halves: the pc advances or transfers (01 R35), or the activation's state changes (01 R40). -/
def complete : M Unit := do
  let s ← get
  modHere (fun k => { k with barArrived := false, owed := none })
  match s.issue.after with
  | .none => modHere (fun k => { k with pc := s.issue.target.getD (pastPair s) })
  | .endAct => endAfter
  | .sync => syncAfter
  | .sysc ws => syscAfter ws
  | .brk => brkAfter
  | .eret => modify (fun s => s.returnFromTrap s.cur)
  | .yield => yieldAfter
  | .fork child d => forkAfter child d

/-! ### Stops -/

/-- The participants' barrier of a word (04 R120): cluster barriers are keyed owner × 1,024 + index. -/
def barKey (w : Word) : Nat := w.toNat % 2 ^ 13

/-- A set of cores with one more. -/
def addCore (l : List Nat) (c : Nat) : List Nat := if l.contains c then l else l ++ [c]

/-- One arrival at a cluster barrier (04 R121): a phase completes at most once a clk, and what arrives beyond N
counts towards the next phase. -/
def Barrier.arrive (b : Barrier) (c clk : Nat) : Barrier :=
  if decide (b.n ≤ b.a + 1) && decide (b.doneAt ≠ some clk) then
    { b with a := b.a + 1 - b.n, pend := [], rel := b.rel ++ b.pend.filter (fun d => decide (d ≠ c)), doneAt := some clk }
  else { b with a := b.a + 1, pend := addCore b.pend c }

/-- The core still waits at the barrier (04 R121, R125). -/
def Barrier.holds (b : Barrier) (c : Nat) : Bool := b.pend.contains c || b.rel.contains c

/-- The time from a member's cluster to its span's place in the barrier network (09 R240). -/
def Span.delay (sp : Span) (cl : Nat) : Nat :=
  let d (x y : Nat) := (x - y) + (y - x)
  2 + 2 * (d (cl / 32) sp.orow + d (cl % 32) sp.ocol)

/-- The barrier a word names, as core `c` sees it. -/
def State.barrier (s : State) (c : Nat) (w : Word) : Barrier :=
  if bitsAt w.toNat 14 1 = 1 then
    match (s.running c).bind (fun a => a.span) with
    | some id => (match mget s.spans id with | some sp => mgetD sp.bars (w.toNat % 16) Barrier.reset | none => Barrier.reset)
    | none => Barrier.reset
  else mgetD (s.cl (clusterOf c)).bars (barKey w) Barrier.reset

/-- Sets the barrier a word names. -/
def State.setBarrier (s : State) (c : Nat) (w : Word) (b : Barrier) : State :=
  if bitsAt w.toNat 14 1 = 1 then
    match (s.running c).bind (fun a => a.span) with
    | some id => (match mget s.spans id with
      | some sp => { s with spans := mset s.spans id { sp with bars := mset sp.bars (w.toNat % 16) b } }
      | none => s)
    | none => s
  else s.modCl (clusterOf c) (fun k => { k with bars := mset k.bars (barKey w) b })

/-- An arrival of core `c` at a cluster barrier, or on its way to a span barrier (04 R121, 09 R240). A span
arrival's pending bit is set at once; the network counts it when it gets there. -/
def State.arrive (s : State) (c : Nat) (w : Word) : State :=
  if bitsAt w.toNat 14 1 = 1 then
    let b := s.barrier c w
    let s := s.setBarrier c w { b with pend := addCore b.pend c }
    match (s.running c).bind (fun a => a.span) with
    | some id => (match mget s.spans id with
      | some sp => { s with spans := mset s.spans id { sp with
          inFlight := sp.inFlight ++ [(w.toNat % 16, c, s.clk + sp.delay (clusterOf c))] } }
      | none => s)
    | none => s
  else s.setBarrier c w ((s.barrier c w).arrive c s.clk)

/-- A walk takes its place in order of arrival, and by cluster among those of one clk (12 R287). -/
def joinWalks (w : Walk) : List Walk → List Walk
  | [] => [w]
  | v :: r => if w.since = v.since ∧ w.cluster < v.cluster then w :: v :: r else v :: joinWalks w r

/-- A miss joins a walk of its page or starts one (12 R287). -/
def State.startWalk (s : State) (cl part va : Nat) (write : Bool) (waiters : List Nat) (clients : List Client := []) : State :=
  if s.walks.any (fun w => decide (w.cluster = cl) && decide (w.part = part) && decide (w.va / 65536 = va / 65536)) then
    { s with walks := s.walks.map (fun w =>
        if w.cluster = cl ∧ w.part = part ∧ w.va / 65536 = va / 65536 then
          { w with write := w.write || write, waiters := w.waiters ++ waiters.filter (fun c => !w.waiters.contains c)
                   clients := w.clients ++ clients.filter (fun c => !w.clients.contains c) }
        else w) }
  else { s with walks := joinWalks ⟨cl, part, va, write, waiters, clients, s.clk⟩ s.walks }

/-- What a stalled pair leaves behind (00 R11). -/
def State.leaveNote (s : State) : Note → State
  | .none => s
  | .walk part va w => s.startWalk (clusterOf s.cur) part va w [s.cur]
  | .arrived w => (s.arrive s.cur w).modCore s.cur (fun k => { k with barArrived := true })
  | .ask p chip q =>
    if s.asks.any (fun a => decide (a.core = s.cur) && decide (a.port = p) && decide (a.chip = chip) && decide (a.queue = q)) then s
    else
      let k := s.cl (clusterOf s.cur)
      let t : State := { s with asks := s.asks ++ [⟨s.cur, p, chip, q, none⟩] }
      t.sendFlit (s.flitTo chip k.part 0 k.gen (.bindAsk q s.cur p))
  | .caller n => s.modCl (clusterOf s.cur) (fun k =>
      if k.callers.contains n then k else { k with callers := k.callers ++ [n] })

/-- Settles a stop of the pair that issues: a stall leaves all else unchanged (00 R11); every other stop takes
the exception, with the recorded failure cleared as its rule says (05 R142, 16 R372, 18 R411). -/
def State.settle (s : State) (e : Stop) : State :=
  let c := s.cur
  let pair := decide (s.issue.slot ≠ .lone)
  let half := decide (s.issue.slot = .aHalf)
  let pc := (s.core c).pc
  let w := s.issue.word
  let s := { s with issue := Issue.start }
  match e with
  | .stall n => s.leaveNote n
  | .fault cause info =>
    let s := if cause = .translation then s.modCore c (fun k => { k with absent := none }) else s
    s.takeException c ⟨cause, info, pc, pair, half, w, 0⟩
  | .failed t =>
    let r := mgetD (s.core c).fails t ⟨0, 0, 0, 0⟩
    (s.modCore c (fun k => { k with
      fails := mdel k.fails t
      waits := k.waits.filter (fun v => decide (v.err ≠ .failed t)) })).takeException c
      ⟨.asyncFailed, r.addr, pc, pair, half, w, r.status * 65536 + t⟩
  | .diverge a =>
    (s.modCore c (fun k => { k with
      diverged := none
      waits := k.waits.filter (fun v => match v.err with | .diverged _ => false | _ => true) })).takeException c
      ⟨.replayDivergence, a, pc, pair, half, w, 0⟩
  | .bindFailed p v =>
    let t : State := { s with asks := s.asks.filter (fun a => !(decide (a.core = c) && decide (a.port = p))) }
    (t.modCore c
      (fun k => { k with ports := mdel k.ports p })).takeException c ⟨.queueBind, v, pc, pair, half, w, 0⟩
  | .poisoned id a =>
    (s.modCore c (fun k => { k with waits := k.waits.filter (fun v => decide (v.id ≠ id)) })).takeException c
      ⟨.memoryError, a, pc, pair, half, w, 0⟩

/-- Runs one half (01 R33, R37). A lone word also completes; a half of a pair leaves that to the pair. -/
def issueHalf (op : M Unit) (s : State) : Host.Outcome State Fault Refusal :=
  match s.issue.slot with
  | .lone =>
    match (op >>= fun _ => complete) s with
    | .ok (_, t) => .next { t with issue := Issue.start }
    | .error e => .next (s.settle e)
  | _ =>
    match op s with
    | .ok (_, t) => .next t
    | .error e => .next { s with issue := { s.issue with stop := some e } }

end Sys2Proof.Machine
end

