-- ==== Sys2Proof/Machine/Operands.lean ====
section
/-!
DEFINITION. Operand forms: vector lanes and masks (06 R155, R156), runs of x registers (04 R100), rings
(04 R122, R123), and the geometry and extents of copies (05 R146, R151).
-/

namespace Sys2Proof.Machine

/-! ### Vector lanes -/

/-- Lane i of a register; bits 7:6 of a 6-bit format's byte are ignored on read (06 R155). -/
def laneOf (t : Fmt) (v : Vec) (i : Nat) : Nat := bitsAt v.toNat (laneBits t * i) (fmtBits t)

/-- Every lane of a register. -/
def lanesOf (t : Fmt) (v : Vec) : List Nat := (List.range (laneCount t)).map (laneOf t v)

/-- The number that lanes of `w` bits spell, lane 0 lowest. -/
def packLanes (w : Nat) : List Nat → Nat
  | [] => 0
  | x :: r => x % 2 ^ w + 2 ^ w * packLanes w r

/-- A register from its lanes. -/
def ofLanes (t : Fmt) (l : List Nat) : Vec := BitVec.ofNat 1024 (packLanes (laneBits t) l)

/-- Lane i of a format of `n` lanes is active (06 R156). -/
def laneActive (n : Nat) (m : MaskWord) (i : Nat) : Bool := if n = 256 then m.getLsbD (i / 2) else m.getLsbD i

/-- The OR of flags. -/
def orFlags (l : List (BitVec 6)) : BitVec 6 := l.foldl (fun a b => a ||| b) 0

/-- Reads v[r] as a source. -/
def readV (r : Reg) : M Vec := do
  touch (.v r.toNat) true
  let k ← source
  pure (k.getV r.toNat)

/-- Reads m[r] as a source; m0 is all ones. -/
def readM (r : Nat) : M MaskWord :=
  if r = 0 then pure (BitVec.allOnes 128)
  else do
    touch (.m r) true
    let k ← source
    pure (k.getM r)

/-- Writes v[d], usable `lat` clk after issue, with its flags (06 R158). -/
def writeV (d : Reg) (v : Vec) (flags : BitVec 6) (lat : Nat) : M Unit := do
  touch (.v d.toNat) false
  if lat = 1 then modHere (fun k => k.setV d.toNat v) else writeLate (.v d.toNat) v flags lat

/-- Writes m[d], usable `lat` clk after issue. -/
def writeM (d : Reg) (v : MaskWord) (flags : BitVec 6) (lat : Nat) : M Unit := do
  touch (.m d.toNat) false
  if lat = 1 then modHere (fun k => k.setM d.toNat v) else writeLate (.m d.toNat) (v.setWidth 1024) flags lat

/-! ### Runs of x registers (04 R100) -/

/-- A run must end at or below x23. -/
def checkRun (r : Reg) (n : Nat) : M Unit :=
  require (decide (n = 0) || decide (r.toNat + n ≤ 24)) .operandRange (BitVec.ofNat 64 r.toNat)

/-- The registers of a run; one past x31 cannot arise after `checkRun`. -/
def runRegs (r : Reg) (n : Nat) : List Reg := (List.range n).map (fun i => BitVec.ofNat 5 (r.toNat + i))

/-- Reads each register of a list. -/
def readAll : List Reg → M (List Word)
  | [] => pure []
  | r :: rest => do
    let v ← readX r
    let vs ← readAll rest
    pure (v :: vs)

/-- Writes registers in order. -/
def writeAll : List (Reg × Word) → M Unit
  | [] => pure ()
  | (r, v) :: rest => do
    writeX r v
    writeAll rest

/-! ### Rings (04 R122, R123) -/

/-- Slot count. -/
def RingH.slots (h : RingH) : Nat := 2 ^ h.log2

/-- Slots written and not yet read. -/
def RingH.filled (h : RingH) : Nat := (h.wpos - h.rpos).toNat

/-- Free slots, reserved ones included (04 R123). -/
def RingH.free (h : RingH) : Nat := h.slots - h.filled

/-- Slots free; reserved slots count as filled (05 R149). -/
def RingH.room (h : RingH) : Nat := h.slots - h.filled - h.resv

/-- The address of slot p (04 R122). -/
def RingH.slotAddr (h : RingH) (p : Nat) : Word := h.base + BitVec.ofNat 64 (p % h.slots * h.slot)

/-- The handle advanced by c written slots. -/
def RingH.advW (h : RingH) (c : Nat) : RingH := { h with wpos := h.wpos + BitVec.ofNat 32 c }

/-- The handle advanced by c read slots. -/
def RingH.advR (h : RingH) (c : Nat) : RingH := { h with rpos := h.rpos + BitVec.ofNat 32 c }

/-- The bytes of the whole ring. -/
def RingH.extent (h : RingH) : Nat := h.slots * h.slot

/-! ### Copies (05 R146, R151) -/

/-- A geometry word (05 R146). -/
def geoPitch (g : Word) : Nat := bitsAt g.toNat 32 32
def geoRows (g : Word) : Nat := bitsAt g.toNat 16 16
def geoBytes (g : Word) : Nat := bitsAt g.toNat 0 16

/-- Bytes that a geometry moves. -/
def geoTotal (g : Word) : Nat := geoRows g * geoBytes g

/-- The extent of a geometry from its base: base to base + (rows − 1) × pitch + row bytes − 1 (05 R151). -/
def geoExtent (g : Word) : Nat := if geoTotal g = 0 then 0 else (geoRows g - 1) * geoPitch g + geoBytes g

/-- The signed stride and the slot count of CPYS (05 R145). -/
def cpysStride (g : Word) : Int := (g >>> 32 |>.setWidth 32).toInt
def cpysCount (g : Word) : Nat := bitsAt g.toNat 0 32

/-- Two byte ranges given by first byte and length, as address ranges of the 64-bit space. -/
def rangesMeet (a b : Nat × Nat) : Bool := overlaps a.1 a.2 b.1 b.2

/-! ### Selectors of lookup cells -/

/-- A selector byte that R187 (07) calls invalid. -/
def badSelector (b : Byte) : Bool := decide (b.toNat / 64 = 3) && decide (2 ≤ b.toNat % 64)

end Sys2Proof.Machine
end

