-- ==== Sys2Proof/Machine/System.lean ====
section
/-!
DEFINITION. END, SYSC, BRK, ERET (03 R82-R88) and the system registers (03 R89-R98).
-/

namespace Sys2Proof.Machine

/-- What follows the A-half (01 R40). -/
def setAfter (a : After) : M Unit := modIssue (fun i => { i with after := a })

/-! ### Reading system registers -/

/-- YSTATE (03 R92). -/
def Core.ystate (k : Core) (sup : Bool) : Word :=
  BitVec.ofNat 64 ((if k.th then 8 else 0) + (if k.cut then 4 else 0) + (if k.det then 2 else 0) + (if sup then 1 else 0))

/-- YCORE (03 R94); row, column and core number read 0 on supervisor cores. -/
def State.ycore (s : State) (c : Nat) : Word :=
  BitVec.ofNat 64 (s.chip.toNat * 2 ^ 52 + c * 2 ^ 32 + (if isSup c then 0 else c))

/-- YREGION (03 R94). -/
def Cluster.yregion (k : Cluster) : Word :=
  BitVec.ofNat 64 (k.gen * 2 ^ 48 + k.part * 2 ^ 32 + k.rows1 * 2 ^ 21 + k.cols1 * 2 ^ 16 + k.row0 * 2 ^ 5 + k.col0)

/-- Rows of the accumulator store in use: tiles, parking slots and rows freed in this clk (07 R176, 11 R275). -/
def Cluster.rowUsed (k : Cluster) (clk r : Nat) : Bool :=
  k.tiles.any (fun t => t.2.rows.contains r) || (mget k.parks r).isSome ||
    (match mget k.freed r with | some t => decide (clk ≤ t) | none => false)

/-- Free rows of the accumulator store, of 2,048 (03 R97). -/
def Cluster.freeRows (k : Cluster) (clk : Nat) : List Nat :=
  (List.range 2048).filter (fun r => !k.rowUsed clk r)

/-- How many rows are free. -/
def Cluster.freeCount (k : Cluster) (clk : Nat) : Nat :=
  2048 - ((k.tiles.map (fun t => t.2.rows.length)).sum + k.parks.length +
    (k.freed.filter (fun p => decide (clk ≤ p.2))).length)

/-- The owner of what a core allocates: its activation, or a number of its own past every activation's where a
supervisor core runs without one. -/
def Core.owner (k : Core) : Nat := k.act.getD 65536

/-- YALLOC (03 R97). -/
def State.yalloc (s : State) (c : Nat) : Word :=
  let cl := s.cl (clusterOf c)
  let k := s.core c
  let parked := (cl.parks.filter (fun p => decide (p.2 = k.owner))).length
  let tiles := ((List.range 16).map (fun i => match mget k.a i with
    | some t => if (mget cl.tiles t).isSome then 2 ^ i else 0
    | none => 0)).sum
  BitVec.ofNat 64 (cl.freeCount s.clk * 2 ^ 32 + parked * 2 ^ 16 + tiles)

/-- Scale exponent zn (03 R98). -/
def Cluster.getZ (k : Cluster) (n : Nat) : Int := mgetD k.z n 0

/-- Channel-table entry n (03 R98). -/
def Cluster.getChan (k : Cluster) (n : Nat) : Chan := mgetD k.chans n Chan.reset

/-- YCHn (03 R98). -/
def Chan.word (h : Chan) (n : Nat) : Word :=
  BitVec.ofNat 64 (h.rm.code.toNat * 2 ^ 17 + h.scale * 2 ^ 12 + h.set * 2 ^ 10 + (if h.zs then 2 ^ 9 else 0) +
    h.fmt.code.toNat * 2 ^ 5 + n)

/-- Tenant cores may read the register (03 R90). -/
def tenantReads (n : Nat) : Bool := decide (n = 0) || decide (0x10 ≤ n)

/-- Tenant cores may write the register (03 R90). -/
def tenantWrites (n : Nat) : Bool :=
  decide (n = 0x14) || decide (n = 0x15) || (decide (0x20 ≤ n) && decide (n ≤ 0x5f))

/-- A YWR of supervisor cores is allowed; one of a cluster register is then ignored (03 R90). -/
def supWrites (n : Nat) : Bool :=
  decide (n < 0xc) || tenantWrites n || decide (n = 0x11) || (decide (0x80 ≤ n) && decide (n ≤ 0x82))

/-- The register is held once per cluster (03 R90). -/
def isClusterReg (n : Nat) : Bool :=
  decide (n = 0x11) || (decide (0x20 ≤ n) && decide (n ≤ 0x5f)) || (decide (0x80 ≤ n) && decide (n ≤ 0x82))

/-- The value of a system register (03 R90-R98). -/
def State.readSys (s : State) (c n : Nat) : Word :=
  let k := s.core c
  let cl := s.cl (clusterOf c)
  if isSup c && isClusterReg n then 0
  else if n = 0 then k.ystate (isSup c)
  else if n = 1 then k.ycause.setWidth 64
  else if n = 2 then k.yepc &&& ~~~3
  else if n = 3 then k.yinfo
  else if n = 4 then k.ytvec &&& ~~~7
  else if n < 0xc then mgetD k.yscr (n - 8) 0
  else if n = 0x10 then s.ycore c
  else if n = 0x11 then cl.yregion
  else if n = 0x12 then (match s.running c with | some a => a.yact | none => BitVec.ofNat 64 (0xffff * 2 ^ 48))
  else if n = 0x13 then BitVec.ofNat 64 s.clk
  else if n = 0x14 then k.yflags.setWidth 64
  else if n = 0x15 then k.ywoob.setWidth 64
  else if n = 0x16 then s.yalloc c
  else if n < 0x40 then BitVec.ofInt 64 (cl.getZ (n - 0x20)) &&& 0xff
  else if n < 0x60 then (cl.getChan (n - 0x40)).word (n - 0x40)
  else if n = 0x80 then (match cl.sysq with | some q => BitVec.ofNat 64 (65536 + q) | none => 0)
  else if n = 0x81 then cl.yagei.setWidth 64
  else cl.yceil.setWidth 64

/-- An earlier vector instruction has yet to write its result and set its flags, a VLD or VGATH that waits for data among them
(06 R158). -/
def Core.flagsPending (k : Core) : Bool :=
  k.pending.any (fun p => match p.dest with | .x _ => decide (p.unit = .vector) | _ => true) ||
    k.waits.any (fun w => match w.dest with | .v _ => true | _ => false)

/-- YRD (03 R89, R90; 06 R158). -/
def opYrd (d : Reg) (num : BitVec 12) : M Unit := do
  let s ← get
  require (isSysNum num) .illegalInstruction
  require (isSup s.cur || tenantReads num.toNat) .privilege
  let k ← source
  await (!(decide (num.toNat = 0x14) && k.flagsPending))
  writeX d (({ s with cores := mset s.cores s.cur k }).readSys s.cur num.toNat)

/-! ### Writing system registers -/

/-- A value that YWR refuses (03 R98). -/
def sysInvalid (n : Nat) (v : Word) : Bool :=
  let x := v.toNat
  if 0x20 ≤ n ∧ n < 0x40 then decide (x % 256 = 0x80)
  else if 0x40 ≤ n ∧ n < 0x60 then
    decide (6 ≤ bitsAt x 17 3) || decide (13 ≤ bitsAt x 5 4) ||
      (decide (bitsAt x 9 1 = 1) && decide (bitsAt x 5 4 ≠ 3) && decide (bitsAt x 5 4 ≠ 4))
  else false

/-- The channel entry of a YCHn value (03 R98). -/
def Chan.ofWord (x : Nat) : Chan :=
  { rm := (RMode.ofCode (BitVec.ofNat 3 (bitsAt x 17 3))).getD .rne
    scale := bitsAt x 12 5
    set := bitsAt x 10 2
    zs := decide (bitsAt x 9 1 = 1)
    fmt := (Fmt.ofCode (BitVec.ofNat 4 (bitsAt x 5 4))).getD .f32 }

/-- A signed byte. -/
def signed8 (x : Nat) : Int := if x % 256 < 128 then (x % 256 : Nat) else ((x % 256 : Nat) : Int) - 256

/-- The effect of a write on a core register (03 R90-R96). -/
def Core.writeSys (k : Core) (sup : Bool) (n : Nat) (v : Word) : Core :=
  if n = 0 then (if sup then { k with th := v.getLsbD 3 } else k)
  else if n = 1 then { k with ycause := v.setWidth 18 }
  else if n = 2 then { k with yepc := v &&& ~~~3 }
  else if n = 3 then { k with yinfo := v }
  else if n = 4 then { k with ytvec := v &&& ~~~7 }
  else if 8 ≤ n ∧ n < 0xc then { k with yscr := mset k.yscr (n - 8) v }
  else if n = 0x14 then { k with yflags := k.yflags &&& ~~~(v.setWidth 6) }
  else if n = 0x15 then { k with ywoob := k.ywoob &&& ~~~(v.setWidth 16) }
  else k

/-- The effect of a write on a cluster register (03 R98). -/
def Cluster.writeSys (k : Cluster) (n : Nat) (v : Word) : Cluster :=
  if 0x20 ≤ n ∧ n < 0x40 then { k with z := mset k.z (n - 0x20) (signed8 v.toNat) }
  else if 0x40 ≤ n ∧ n < 0x60 then { k with chans := mset k.chans (n - 0x40) (Chan.ofWord v.toNat) }
  else k

/-- Cluster-register writes take effect in the next clk; of several to one register in one clk the highest
core's stands (03 R91). -/
def State.applyClusterWrites (s : State) : State :=
  s.ywrites.foldl (fun t w =>
    if s.ywrites.any (fun u => decide (clusterOf u.1 = clusterOf w.1) && decide (u.2.1 = w.2.1) && decide (w.1 < u.1)) then t
    else t.modCl (clusterOf w.1) (fun k => k.writeSys w.2.1 w.2.2)) { s with ywrites := [] }

/-- YWR (03 R89-R91; 06 R158). On a supervisor core a write to a cluster register is ignored (R90), yet an invalid value raises
sysreg-value first (DESIGN CHOICE, log 62: R89 and R90 give no order between them). -/
def opYwr (a : Reg) (num : BitVec 12) : M Unit := do
  let s ← get
  let n := num.toNat
  require (isSysNum num) .illegalInstruction
  require (if isSup s.cur then supWrites n else tenantWrites n) .privilege
  let v ← readX a
  require (!sysInvalid n v) .sysregValue v
  let k ← source
  await (!(decide (n = 0x14) && k.flagsPending))
  if isClusterReg n then
    if isSup s.cur then pure () else modify (fun s => { s with ywrites := s.ywrites ++ [(s.cur, n, v)] })
  else modHere (fun k => k.writeSys (isSup s.cur) n v)

/-- END (03 R82). -/
def opEnd : M Unit := setAfter .endAct

/-- SYSC reads x10-x16 as words 0-6 of the call item at issue (03 R84); a supervisor core traps (03 R87). -/
def opSysc : M Unit := do
  let s ← get
  if isSup s.cur then setAfter (.sysc [])
  else do
    let w0 ← readX 10
    let w1 ← readX 11
    let w2 ← readX 12
    let w3 ← readX 13
    let w4 ← readX 14
    let w5 ← readX 15
    let w6 ← readX 16
    setAfter (.sysc [w0, w1, w2, w3, w4, w5, w6])

/-- BRK (03 R83). -/
def opBrk : M Unit := setAfter .brk

/-- ERET (03 R88). -/
def opEret : M Unit := do
  let s ← get
  require (isSup s.cur) .privilege
  setAfter .eret

/-- Issues END. -/
def execEnd (s : State) : Host.Outcome State Fault Refusal := issueHalf opEnd s

/-- Issues SYSC. -/
def execSysc (s : State) : Host.Outcome State Fault Refusal := issueHalf opSysc s

/-- Issues BRK. -/
def execBrk (s : State) : Host.Outcome State Fault Refusal := issueHalf opBrk s

/-- Issues ERET. -/
def execEret (s : State) : Host.Outcome State Fault Refusal := issueHalf opEret s

/-- Issues YRD. -/
def execYrd (d : Reg) (num : BitVec 12) (s : State) : Host.Outcome State Fault Refusal := issueHalf (opYrd d num) s

/-- Issues YWR. -/
def execYwr (a : Reg) (num : BitVec 12) (s : State) : Host.Outcome State Fault Refusal := issueHalf (opYwr a num) s

end Sys2Proof.Machine
end

