-- ==== Sys2Proof/Machine/Activation.lean ====
section
/-!
DEFINITION. Activation instructions: major 0x21 (04 R111-R119).
-/

namespace Sys2Proof.Machine

/-! ### Activation words (04 R111) -/

/-- The fields of an activation word. -/
structure ActWord where
  argc : Nat
  prio : Option Nat
  core : Nat
  chosen : Bool
  cluster : Nat
  entry : Nat
  deriving DecidableEq, Repr

/-- A word that raises no operand-range: reserved bits 0, Argc at most 8, an entry that is a multiple of 4. -/
def ActWord.valid (w : Word) : Bool :=
  decide (bitsAt w.toNat 16 24 = 0) && decide (w.toNat % 4 = 0) && decide (bitsAt w.toNat 60 4 ≤ 8)

/-- The fields of a word. -/
def ActWord.ofWord (w : Word) : ActWord :=
  let x := w.toNat
  { argc := bitsAt x 60 4
    prio := if bitsAt x 54 1 = 1 then some (bitsAt x 55 5) else none
    core := bitsAt x 51 3
    chosen := decide (bitsAt x 50 1 = 1)
    cluster := bitsAt x 40 10
    entry := x % 65536 }

/-- The base priority of the new activation, clamped to YCEIL (04 R111). -/
def ActWord.base (w : ActWord) (issuer : Nat) (ceil : BitVec 5) : Nat := min (w.prio.getD issuer) ceil.toNat

/-- The new activation that a word asks for (04 R111). -/
def ActWord.new (w : ActWord) (args : List Word) (base issuer : Nat) (role : Nat × Nat) (gate : List Nat) : NewAct :=
  ⟨0x10000 + BitVec.ofNat 64 w.entry, args, base, role, issuer, gate⟩

/-! ### Targets (04 R112) -/

/-- A created entry finds space: fewer than 60 entries, and no cut report begun (09 R230, 08 R209). -/
def Core.hasSpace (k : Core) : Bool :=
  decide (k.runq.length < 60) && !k.cutBegun

/-- Where a new activation goes. -/
inductive Target where
  | refused | full | core (c : Nat)
  deriving DecidableEq, Repr

/-- The core that an activation word selects in a cluster; FORK prefers the issuing core. -/
def State.target (s : State) (cl : Nat) (role : Nat × Nat) (w : ActWord) (prefer : Option Nat) : Target :=
  if w.chosen then
    let k := s.core (cl * 8 + w.core)
    if k.role = none ∨ k.role = some role then (if k.hasSpace then .core (cl * 8 + w.core) else .full) else .refused
  else
    let holds (want : Option (Nat × Nat)) (c : Nat) : Bool := decide ((s.core c).role = want)
    let cores := (List.range 8).map (fun i => cl * 8 + i)
    let ok := if cores.any (holds (some role)) then holds (some role) else holds none
    if !cores.any ok then .refused
    else match prefer.filter (fun c => ok c && (s.core c).hasSpace) with
      | some c => .core c
      | none => match s.fewest cl (fun c => ok c && (s.core c).hasSpace) with
        | some c => .core c
        | none => .full

/-- The role image that a region's program gives a number. -/
def State.roleImage (s : State) (role : Nat × Nat) : Option Role :=
  (mget s.progs role.2).bind (fun p => p.image.roles.find? (fun r => decide (r.num = role.1)))

/-- A core that holds no role takes one on: the copy of the role's code words and data segment begins. Its first bytes come in
the next clk, or after the mesh time from another cluster; it follows the issuer's earlier accesses (04 R112, R116; log 9). -/
def State.takeRole (s : State) (issuer c : Nat) (role : Nat × Nat) (gate : List Nat) : State :=
  if (s.core c).role.isSome then s
  else
    let ranges := match s.roleImage role with
      | none => []
      | some r => [(r.off, 4 * r.code.length), (r.dataOff, r.data.length)].filter (fun x => decide (x.2 ≠ 0))
    let first := if clusterOf issuer = clusterOf c then s.clk + 1 else s.clk + meshTime (clusterOf issuer) (clusterOf c)
    s.modCore c (fun k => { k with
      role := some role, ports := []
      roleCopy := if ranges.isEmpty then none else some ⟨issuer, gate, first, ranges⟩ })

/-- The next 64 bytes of a copy: of each range in turn, what is taken from it and what is left. -/
def roleBytes : Nat → List (Nat × Nat) → List (Nat × Nat) × List (Nat × Nat)
  | _, [] => ([], [])
  | n, (off, len) :: rest =>
    if n < len then ([(off, n)], (off + n, len - n) :: rest)
    else
      let (now, later) := roleBytes (n - len) rest
      ((off, len) :: now, later)

/-- The next bytes of a role reach a core, as they stand in the issuer's local store (04 R112). -/
def execRoleCopy (core : Nat) (s : State) : Host.Outcome State Fault Refusal :=
  match (s.core core).roleCopy with
  | none => .next s
  | some r =>
    let (now, later) := roleBytes 64 r.ranges
    let t := now.foldl (fun t x => t.writeOnce (localKey core x.1) (memRead t.mem (localKey r.issuer x.1) x.2)) s
    let ok := decide (r.at_ ≤ s.clk) && s.gateOpen .cl (r.issuer, r.gate) && s.awakeAt core
    .next (if ok then t.modCore core (fun k =>
      { k with roleCopy := if later.isEmpty then none else some { r with ranges := later } }) else s)

/-- Creates an activation with a run-queue entry on core `c` (04 R113, 09 R230, R233); none when the cluster has
no number left. -/
def State.create (s : State) (issuer c : Nat) (role : Nat × Nat) (a : Act) (cls key : Nat) : Option State :=
  let cl := clusterOf c
  match (s.cl cl).freeAct with
  | none => none
  | some n =>
    some (((s.takeRole issuer c role a.gate.2).setAct cl n { a with place := .queued c }).joinRunq c ⟨.task n, s.clk, a.base, cls, key⟩)

/-! ### ACT, FORK, SPAWN, CREW -/

/-- Reads and checks an activation word (04 R111). -/
def readActWord (a : Reg) : M (Word × ActWord) := do
  let w ← readX a
  require (ActWord.valid w) .operandRange w
  pure (w, ActWord.ofWord w)

/-- Reads the argument run x[r] on (04 R100). -/
def readArgs (r : Nat) (n : Nat) (w : Word) : M (List Word) := do
  require (decide (n = 0) || decide (r + n ≤ 24)) .operandRange w
  readAll ((List.range n).map (fun i => BitVec.ofNat 5 (r + i)))

/-- The base priority of the issuer. -/
def State.baseOf (s : State) (c : Nat) : Nat := (s.running c).elim 0 (fun a => a.base)

/-- The issuer's role; a core that holds none can create nothing (04 R112). Creation releases, so it follows R359 (16). -/
def issuerRole (w : Word) : M (Nat × Nat) := do
  journalGate
  let k ← here
  match k.role with
  | some r => pure r
  | none => fault .activationTarget w

/-- The issuer's earlier accesses, which the new activation must see (04 R116). -/
def State.actGate (s : State) : List Nat := (s.core s.cur).mem.map (fun o => o.id)

/-- What a FORK does when no candidate has space (04 R113). -/
inductive WhenFull where
  | stall | inlined | busy
  deriving DecidableEq, Repr

/-- FORK and SPAWN: a task in the issuer's cluster (04 R113). A Cluster field that is not 0 raises operand-range, as a reserved bit
does (DESIGN CHOICE, log 62). -/
def forkOp (full : WhenFull) (child prefer : Bool) (d a b : Reg) : M Unit := do
  let (w, aw) ← readActWord a
  require (decide (aw.cluster = 0)) .operandRange w
  let args ← readArgs b.toNat aw.argc w
  let role ← issuerRole w
  claimX d
  let s ← get
  let c := s.cur
  let parent := if child then (s.core c).act else none
  let new := aw.new args (aw.base (s.baseOf c) (s.cl (clusterOf c)).yceil) c role s.actGate
  let crowded := child && decide (65535 ≤ (s.running c).elim 0 (fun p => p.children))
  let whenFull : M Unit := match full with
    | .stall => stall
    | .busy => writeXLate d 2 2
    | .inlined => setAfter (.fork new d.toNat)
  match s.target (clusterOf c) role aw (if prefer then some c else none) with
  | .refused => fault .activationTarget w
  | .full => whenFull
  | .core t =>
    if crowded then whenFull
    else match s.create c t role (new.act parent) (if t = c then 2 else 4) c with
      | none => whenFull
      | some u => do
        set (match parent with
          | some p => u.modAct (clusterOf c) p (fun q => { q with children := q.children + 1 })
          | none => u)
        writeXLate d 0 2

/-- FORK.STALL. -/
def opForkStall (d a b : Reg) : M Unit := forkOp .stall true true d a b

/-- FORK.INLINE. -/
def opForkInline (d a b : Reg) : M Unit := forkOp .inlined true true d a b

/-- FORK.BUSY. -/
def opForkBusy (d a b : Reg) : M Unit := forkOp .busy true true d a b

/-- SPAWN. -/
def opSpawn (d a b : Reg) : M Unit := forkOp .busy false false d a b

/-- A cluster offset of the region: its cluster, or none outside the shape (01 R23, 04 R113). -/
def Cluster.offsetCluster (k : Cluster) (o : Nat) : Option Nat :=
  if k.region.isSome && decide (o / 32 ≤ k.rows1) && decide (o % 32 ≤ k.cols1) then
    some ((k.row0 + o / 32) * 32 + (k.col0 + o % 32)) else none

/-- ACT at its target cluster: the status, and the state with the entry if one is formed (04 R112, R113). -/
def State.actAt (s : State) (issuer cl : Nat) (role : Nat × Nat) (aw : ActWord) (act : Act) (cls key : Nat) : Nat × State :=
  match s.target cl role aw none with
  | .refused => (3, s)
  | .full => (2, s)
  | .core t => match s.create issuer t role act cls key with | some u => (0, u) | none => (2, s)

/-- ACT (04 R113): in the same cluster its status is usable at t + 2; the request to another cluster arrives there
after the mesh time, and its status is pending until the answer. -/
def opAct (d a b : Reg) : M Unit := do
  let (w, aw) ← readActWord a
  let args ← readArgs b.toNat aw.argc w
  let s ← get
  let c := s.cur
  match (s.cl (clusterOf c)).offsetCluster aw.cluster with
  | none => fault .activationTarget w
  | some cl => do
    let role ← issuerRole w
    claimX d
    let base := s.baseOf c
    if cl = clusterOf c then do
      let act := (aw.new args (aw.base base (s.cl cl).yceil) c role s.actGate).act none
      let (st, u) := s.actAt c cl role aw act (if (match s.target cl role aw none with | .core t => decide (t = c) | _ => false) then 2 else 4) c
      set u
      writeXLate d (BitVec.ofNat 64 st) 2
    else do
      let id ← freshId
      modHere (fun k => { k with waits := k.waits ++ (if d = 0 then [] else [⟨id, .x d.toNat, .none⟩]) })
      modify (fun s => { s with actReqs := s.actReqs ++
        [⟨c, id, cl, w, args, base, role, s.clk + meshTime (clusterOf c) cl, none, s.actGate⟩] })

/-- How many bits a mask sets. -/
def maskCount (m : Nat) : Nat := ((List.range 8).filter (fun i => decide (bitsAt m i 1 = 1))).length

/-- The cores of a cluster that a mask names, in ascending number. -/
def maskCores (cl m : Nat) : List Nat := ((List.range 8).filter (fun i => decide (bitsAt m i 1 = 1))).map (fun i => cl * 8 + i)

/-- CREW (04 R115). -/
def opCrew (d a b : Reg) : M Unit := do
  let (w, aw) ← readActWord a
  require (!aw.chosen && decide (aw.core = 0) && decide (aw.cluster = 0)) .activationTarget w
  let mask ← readX b
  require (decide (mask.toNat < 256) && decide (2 ≤ maskCount mask.toNat)) .operandRange mask
  let args ← readArgs (b.toNat + 1) aw.argc w
  let role ← issuerRole w
  claimX d
  let s ← get
  let cl := clusterOf s.cur
  let cores := maskCores cl mask.toNat
  require (cores.all (fun c => decide ((s.core c).role = none) || decide ((s.core c).role = some role))) .activationTarget w
  let reported (c : Nat) : Bool := (s.core c).cutBegun
  if (s.cl cl).crew.isSome || cores.any reported then writeXLate d 2 2
  else do
    modify (fun t => cores.foldl (fun t c => t.takeRole s.cur c role s.actGate) t)
    modClHere (fun k => { k with crew := some ⟨mask.toNat, 0x10000 + BitVec.ofNat 64 aw.entry, args,
      aw.base (s.baseOf s.cur) k.yceil, role, s.cur, none, s.actGate⟩ })
    writeXLate d 0 2

/-! ### SYNC, YIELD, PRIO -/

/-- SYNC takes effect after its A-half (04 R117). -/
def opSync : M Unit := setAfter .sync

/-- YIELD (04 R119). -/
def opYield : M Unit := setAfter .yield

/-- PRIO (04 R119). -/
def opPrio (a : Reg) : M Unit := do
  let v ← readX a
  require (decide (v.toNat ≤ 31)) .operandRange v
  let s ← get
  match (s.core s.cur).act with
  | none => pure ()
  | some n => modify (fun s => s.modAct (clusterOf s.cur) n (fun p =>
      let q := min v.toNat (s.cl (clusterOf s.cur)).yceil.toNat
      { p with base := q, eff := q }))

/-! ### Issue -/

/-- Issues FORKSTALL. -/
def execForkStall (d a b : Reg) (s : State) : Host.Outcome State Fault Refusal := issueHalf (opForkStall d a b) s

/-- Issues FORKINLINE. -/
def execForkInline (d a b : Reg) (s : State) : Host.Outcome State Fault Refusal := issueHalf (opForkInline d a b) s

/-- Issues FORKBUSY. -/
def execForkBusy (d a b : Reg) (s : State) : Host.Outcome State Fault Refusal := issueHalf (opForkBusy d a b) s

/-- Issues SPAWN. -/
def execSpawn (d a b : Reg) (s : State) : Host.Outcome State Fault Refusal := issueHalf (opSpawn d a b) s

/-- Issues ACT. -/
def execAct (d a b : Reg) (s : State) : Host.Outcome State Fault Refusal := issueHalf (opAct d a b) s

/-- Issues CREW. -/
def execCrew (d a b : Reg) (s : State) : Host.Outcome State Fault Refusal := issueHalf (opCrew d a b) s

/-- Issues SYNC. -/
def execSync (s : State) : Host.Outcome State Fault Refusal := issueHalf opSync s

/-- Issues YIELD. -/
def execYield (s : State) : Host.Outcome State Fault Refusal := issueHalf opYield s

/-- Issues PRIO. -/
def execPrio (a : Reg) (s : State) : Host.Outcome State Fault Refusal := issueHalf (opPrio a) s

end Sys2Proof.Machine
end

