-- ==== Sys2Proof/Machine/Memory.lean ====
section
/-!
DEFINITION. Memory instructions as they issue: loads, stores, prefetch, parameter windows, fences, atomics,
ring loads and stores, gathers and scatters (05 R126-R140, 12 R289-R295, 06 R169-R171). An access that issues waits
in the core's list and is performed at its port by a later step.
-/

namespace Sys2Proof.Machine

/-! ### Checks and entry (05 R126-R130, R137) -/

/-- A command's active write extents hold overlapping accesses of the core (05 R137); a VLD is not held by the
extent of a CPYS that fills its own ring (06 R169). -/
def Core.footHolds (k : Core) (va n : Nat) (except : List Nat) : Bool :=
  k.foot.any (fun f => !except.contains f.id && f.writes.any (fun r => rangesMeet r (va, n)))

/-- The size and spaces that an access may reach (05 R128): the own chip's HBM, cluster store and own local
store; spaces 2-4 for loads and stores of supervisor cores of 4 or 8 bytes. -/
def spaceOk (sup atomic own : Bool) (chip pa size : Nat) : Bool :=
  decide (paChip pa = chip) &&
    (own || decide (paSpace pa = 0) || decide (paSpace pa = 1) ||
      (sup && !atomic && decide (2 ≤ paSpace pa) && decide (paSpace pa ≤ 4) && (size == 4 || size == 8)))

/-- Checks one access and resolves it (05 R126-R128, R137): canonical form, alignment, rights, target, footprint. -/
def access (va : Word) (size : Nat) (needR needW atomic : Bool) (except : List Nat := []) : M Nat := do
  require (canonical va) .addressForm va
  require (decide (va.toNat % size = 0)) .misalignedAccess va
  let pa ← translate va needR needW
  let s ← get
  let own := match placeOf va with | .own _ => true | _ => false
  require (spaceOk (isSup s.cur) atomic own s.chip.toNat pa size) .accessKind va
  await (!(s.core s.cur).footHolds va.toNat size except)
  pure (paKey pa)

/-- When a load's result can be usable at the earliest (05 R130): own local store t + 2, own slice t + 8; for
another slice or HBM no figure is given, and t + 8 stands for the earliest reply (log 6). -/
def loadDelay (c key : Nat) : Nat :=
  if key / 65536 = localKey c 0 / 65536 then 2 else 8

/-- Adds an access to the core's list, with its pending destinations. -/
def enqueue (kind : MemKind) (lanes : List (Nat × Nat)) (size : Nat) (dests : List Dest) (acq rel : Option Scope)
    (delay : Nat) (vas : List Word) : M Unit := do
  let id ← freshId
  let s ← get
  let op : MemOp := { id := id, kind := kind, lanes := lanes, size := size, dest := dests.head?, acq := acq, rel := rel, shown := none,
                      ready := s.clk + delay, va := vas.headD 0, vas := vas }
  modHere (fun k => { k with
    mem := k.mem ++ [op]
    waits := k.waits ++ dests.map (fun d => ⟨id, d, .none⟩) })

/-- At most 16 loads are outstanding (05 R130). -/
def loadRoom : M Unit := do
  let k ← here
  await (decide ((k.mem.filter (fun o => o.isLoad)).length < 16))

/-- At most 32 stores are buffered (05 R130). -/
def storeRoom : M Unit := do
  let k ← here
  await (decide ((k.mem.filter (fun o => o.isStore)).length < 32))

/-- The destination list of x[d]; a write to x0 is discarded, but the access still performs (05 R131). -/
def xDests (d : Reg) : List Dest := if d = 0 then [] else [.x d.toNat]

/-- A load of `size` bytes at va (05 R131). -/
def loadOp (signed : Bool) (d : Reg) (va : Word) (size : Nat) (acq : Option Scope := none) : M Unit := do
  let key ← access va size true false false
  loadRoom
  claimX d
  let s ← get
  enqueue (.load signed) [(key, 0)] size (xDests d) acq none (loadDelay s.cur key) [va]

/-- A store of the low `size` bytes of v at va (05 R131). -/
def storeOp (v : Word) (va : Word) (size : Nat) (rel : Option Scope := none) : M Unit := do
  if rel.isSome then journalGate else pure ()
  let key ← access va size false true false
  storeRoom
  enqueue (.store [leBytes size v.toNat]) [(key, 0)] size [] none rel 1 [va]

/-- Bytes of an access size (02 R55). -/
def sizeBytes : Size → Nat
  | .b => 1
  | .h => 2
  | .w => 4
  | .d => 8
  | .q => 16

/-- x[base] + SExt(off10) × bytes (05 R126). -/
def baseOff (base : Word) (off : BitVec 10) (sz : Size) : Word := base + off.signExtend 64 * BitVec.ofNat 64 (sizeBytes sz)

/-- x[a] + (x[b] << shift) (05 R126). -/
def indexed (a b : Word) (sh : BitVec 2) : Word := a + (b <<< sh.toNat)

/-! ### Loads and stores -/

/-- LD (05 R131). -/
def opLd (d base : Reg) (sz : Size) (off : BitVec 10) : M Unit := do
  let b ← readX base
  loadOp true d (baseOff b off sz) (sizeBytes sz)

/-- LDZ (05 R131). -/
def opLdz (d base : Reg) (sz : Size) (off : BitVec 10) : M Unit := do
  let b ← readX base
  loadOp false d (baseOff b off sz) (sizeBytes sz)

/-- ST (05 R131). -/
def opSt (v base : Reg) (sz : Size) (off : BitVec 10) : M Unit := do
  let b ← readX base
  let x ← readX v
  storeOp x (baseOff b off sz) (sizeBytes sz)

/-- LDAQ: as LD, an acquire at its scope (05 R131, 13 R302). -/
def opLdaq (d base : Reg) (sz : Size) (sc : Scope) (off : BitVec 10) : M Unit := do
  let b ← readX base
  loadOp true d (baseOff b off sz) (sizeBytes sz) (some sc)

/-- STRL: as ST, a release at its scope (05 R131, 13 R302). -/
def opStrl (v base : Reg) (sz : Size) (sc : Scope) (off : BitVec 10) : M Unit := do
  let b ← readX base
  let x ← readX v
  storeOp x (baseOff b off sz) (sizeBytes sz) (some sc)

/-- LDX (05 R132). -/
def opLdx (d a b : Reg) (sz : Size) (sh : BitVec 2) : M Unit := do
  let va ← readX a
  let vb ← readX b
  loadOp true d (indexed va vb sh) (sizeBytes sz)

/-- STX: x[d] is the store's source (05 R132). -/
def opStx (d a b : Reg) (sz : Size) (sh : BitVec 2) : M Unit := do
  let va ← readX a
  let vb ← readX b
  let x ← readX d
  storeOp x (indexed va vb sh) (sizeBytes sz)

/-- PREF starts a walk for an absent translation, and does nothing more (05 R132). -/
def opPref (a b : Reg) (sh : BitVec 2) : M Unit := do
  let va ← readX a
  let vb ← readX b
  let s ← get
  let v := indexed va vb sh
  match s.xlate s.cur v false false with
  | .miss => modify (fun s => s.startWalk (clusterOf s.cur) (s.partOf s.cur) v.toNat false [])
  | _ => pure ()

/-- The bytes of a parameter window of the running program (12 R294). -/
def State.window (s : State) (c n : Nat) : Option (List Byte) :=
  match (s.cl (clusterOf c)).region with
  | none => none
  | some r => match mget s.progs r with
    | none => none
    | some p => mget p.wins n

/-- PLD (05 R133, 12 R295): usable when the reply arrives, like a load from HBM. -/
def opPld (d a : Reg) (sz : Size) (win : BitVec 4) : M Unit := do
  let off ← readX a
  require (decide (off.toNat % (sizeBytes sz) = 0)) .misalignedAccess off
  let s ← get
  match s.window s.cur win.toNat with
  | none => fault .windowUnbound (win.setWidth 64)
  | some bs =>
    if bs.length ≤ off.toNat then do
      writeXLate d 0 8
      modHere (fun k => { k with ywoob := k.ywoob ||| (1 <<< win.toNat) })
    else writeXLate d (BitVec.ofNat 64 (ofBytes ((bs.drop off.toNat).take (sizeBytes sz)))) 8

/-! ### Fences (05 R134, R135) -/

/-- An earlier access of the first kinds a fence selects is still to be performed at its scope: bit 0 .ll, 1 .ls, 2 .ss,
3 .sl. -/
def Core.fenceHeld (k : Core) (kinds : BitVec 4) (sc : Scope) : Bool :=
  let loads := kinds.getLsbD 0 || kinds.getLsbD 1
  let stores := kinds.getLsbD 2 || kinds.getLsbD 3
  k.mem.any (fun o => ((loads && !o.isStore) || (stores && !o.isLoad)) && !o.shownAt sc)

/-- FENCE (05 R134); one with .sl makes earlier stores to code visible to fetch (12 R289). -/
def opFence (kinds : BitVec 4) (sc : Scope) : M Unit := do
  require (decide (kinds ≠ 0)) .illegalInstruction
  let k ← here
  await (!k.fenceHeld kinds sc)
  modHere (fun k => if kinds.getLsbD 3 then { k with stale := [] } else k)

/-- A matrix command that has performed its last operand fetch (05 R135): its last pass has been fetched. -/
def MatCmd.readsDone (c : MatCmd) : Bool := c.doneAt.isSome || c.lastFetched

/-- The last read of a footprint entry's command is performed (05 R135). -/
def Cluster.readsDone (k : Cluster) (core id : Nat) : Bool :=
  (mgetD k.mat.queues core []).any (fun m => decide (m.id = id) && m.readsDone) ||
    (match k.atoll.serving with | some v => decide (v.cmd.id = id) && v.readsDone | none => false)

/-- A remote operation reads, or writes, at its target (05 R143). -/
def RemOp.loads : RemOp → Bool
  | .store => false
  | .copyLeave => false
  | .copyWrite => false
  | .decode => false
  | _ => true
def RemOp.stores : RemOp → Bool
  | .load => false
  | .copyRead => false
  | .copyLeave => false
  | _ => true

/-- A command of the copy engine outside the footprint table reads, or writes: a remote operation, or a template's firing
that has no entry yet (05 R135, R137). -/
def CopyCmd.readsFree (c : CopyCmd) : Bool :=
  match c.kind with | .remote op => RemOp.loads op | .cfill => false | _ => c.template.isSome
def CopyCmd.writesFree (c : CopyCmd) : Bool :=
  match c.kind with | .remote op => RemOp.stores op | _ => c.template.isSome

/-- Commands of the core whose reads are still to be performed (05 R135): by their read extents (R137). -/
def State.readsOutstanding (s : State) (c : Nat) : Bool :=
  (s.core c).copies.any CopyCmd.readsFree ||
    (s.core c).foot.any (fun f => !f.reads.isEmpty && !(s.cl (clusterOf c)).readsDone (c % 8) f.id)

/-- A copy of no byte, which has no footprint entry, counts as a store for FENCEE until it completes (05 R150, 13 R311). -/
def Core.writesNothing (k : Core) (c : CopyCmd) : Bool :=
  c.template.isNone && (match c.kind with | .remote _ => false | .carm => false | _ => true) && !k.foot.any (fun f => decide (f.id = c.id))

/-- Commands of the core whose writes are still to be performed (05 R135): by their write extents (R137). -/
def State.writesOutstanding (s : State) (c : Nat) : Bool :=
  (s.core c).copies.any (fun x => x.writesFree || (s.core c).writesNothing x) || (s.core c).foot.any (fun f => !f.writes.isEmpty)

/-- FENCEE (05 R135). -/
def opFencee (kinds : BitVec 4) (sc : Scope) : M Unit := do
  require (decide (kinds ≠ 0)) .illegalInstruction
  let k ← here
  let s ← get
  await (!k.fenceHeld kinds sc)
  await (!((kinds.getLsbD 0 || kinds.getLsbD 1) && s.readsOutstanding s.cur))
  await (!((kinds.getLsbD 2 || kinds.getLsbD 3) && s.writesOutstanding s.cur))
  modHere (fun k => if kinds.getLsbD 3 then { k with stale := [] } else k)

/-! ### Atomics (05 R136-R140) -/

/-- The acquire part of an order. -/
def orderAcquires : Order → Bool
  | .acq => true
  | .ar => true
  | _ => false

/-- The release part of an order. -/
def orderReleases : Order → Bool
  | .rel => true
  | .ar => true
  | _ => false

/-- An atomic of `size` bytes at va; usable at t + 3 at the earliest (05 R136). It takes no place among the 16 loads and the 32
buffered stores of R130 (DESIGN CHOICE, log 62). -/
def atomicOp (kind : MemKind) (va : Word) (size : Nat) (dests : List Dest) (sc : Scope) (o : Order) : M Unit := do
  if orderReleases o then journalGate else pure ()
  let key ← access va size true true true
  enqueue kind [(key, 0)] size dests (if orderAcquires o then some sc else none) (if orderReleases o then some sc else none) 3 [va]

/-- AMO (05 R138). -/
def opAmo (op : AmoOp) (d a b : Reg) (sz : Size) (sc : Scope) (o : Order) : M Unit := do
  let va ← readX a
  let v ← readX b
  claimX d
  atomicOp (.amo op v) va (sizeBytes sz) (xDests d) sc o

/-- CAS: d is read and written, so a bound port raises queue-direction (05 R129, R139). -/
def opCas (d a b : Reg) (sz : Size) (sc : Scope) (o : Order) : M Unit := do
  let k ← source
  require (!(decide (24 ≤ d.toNat) && (mget k.ports (d.toNat - 24)).isSome)) .queueDirection
    (BitVec.ofNat 64 (d.toNat - 24))
  let va ← readX a
  let old ← readX d
  let new ← readX b
  claimX d
  atomicOp (.cas old new) va (sizeBytes sz) (xDests d) sc o

/-- CASQ over even register pairs (05 R139); the pair x0, x1 takes its upper half in x1. -/
def opCasq (d a b : Reg) (sc : Scope) (o : Order) : M Unit := do
  let va ← readX a
  let o0 ← readX d
  let o1 ← readX (d + 1)
  let n0 ← readX b
  let n1 ← readX (b + 1)
  atomicOp (.casq (o1 ++ o0) (n1 ++ n0)) va 16 [.x d.toNat, .x (d.toNat + 1)] sc o

/-- FAMO: faults in deterministic mode before any access (05 R140). -/
def opFamo (half : Bool) (d a b : Reg) (sc : Scope) (o : Order) : M Unit := do
  let va ← readX a
  let v ← readX b
  let k ← here
  require (!k.det) .deterministicMode va
  claimX d
  atomicOp (.famo half v) va (if half then 2 else 4) (xDests d) sc o

/-! ### Ring loads and stores (06 R169) -/

/-- The ring can move 128 bytes in whole slots. -/
def RingH.vectorOk (h : RingH) : Bool :=
  (h.slot == 8 || h.slot == 16 || h.slot == 32 || h.slot == 64 || h.slot == 128) && decide (128 / h.slot ≤ h.slots)

/-- The address of the 8-byte unit j of the slots from position p on; a slot is a multiple of 8 bytes. -/
def RingH.unitAddr (h : RingH) (p j : Nat) : Word :=
  h.slotAddr (p + 8 * j / h.slot) + BitVec.ofNat 64 (8 * j % h.slot)

/-- Checks the units from position p, in order. -/
def accessUnits (h : RingH) (p : Nat) (write : Bool) (except : List Nat) : Nat → Nat → M (List (Nat × Nat))
  | 0, _ => pure []
  | n + 1, j => do
    let key ← access (h.unitAddr p j) 8 (!write) write false except
    let rest ← accessUnits h p write except n (j + 1)
    pure ((key, j) :: rest)

/-- The commands of core `c` that fill ring a: by CPYS (05 R149), or as an LRUN's output (07 R186). -/
def State.fillers (s : State) (c r : Nat) : List Nat :=
  let out (a : AtollCmd) : Bool := decide (a.core = c) && decide (a.hOut = r) && (match a.kind with | .lrun _ _ => true | _ => false)
  let t := (s.cl (clusterOf c)).atoll
  ((s.core c).copies.filter (fun x => decide (x.kind = .cpys) && decide (x.ring = r))).map (fun x => x.id) ++
    (((s.core c).atollQ ++ t.arrivals ++ t.serving.toList.map (fun v => v.cmd)).filter out).map (fun a => a.id)

/-- VLD (06 R169). -/
def opVld (vd hr : Reg) (_t : Fmt) : M Unit := do
  let h ← readH hr
  require h.vectorOk .ringGeometry (BitVec.ofNat 64 hr.toNat)
  let q := 128 / h.slot
  let k ← here
  await (decide (q ≤ (k.getH hr.toNat).filled))
  let s ← get
  let lanes ← accessUnits h h.rpos.toNat false (s.fillers s.cur hr.toNat) 16 0
  loadRoom
  touch (.v vd.toNat) false
  enqueue .vload lanes 8 [.v vd.toNat] none none
    ((lanes.map (fun l => loadDelay s.cur l.1)).foldl max 2) ((List.range 16).map (h.unitAddr h.rpos.toNat))
  modHere (fun k => k.setH hr.toNat ((k.getH hr.toNat).advR q))

/-- VST (06 R169). -/
def opVst (hr vb : Reg) (_t : Fmt) : M Unit := do
  let h ← readH hr
  let v ← readV vb
  require h.vectorOk .ringGeometry (BitVec.ofNat 64 hr.toNat)
  let q := 128 / h.slot
  let k ← here
  await (decide (q ≤ (k.getH hr.toNat).free))
  let lanes ← accessUnits h h.wpos.toNat true [] 16 0
  storeRoom
  enqueue (.store ((List.range 16).map (fun j => ((leBytes 128 v.toNat).drop (j * 8)).take 8))) lanes 8 []
    none none 1 ((List.range 16).map (h.unitAddr h.wpos.toNat))
  modHere (fun k => k.setH hr.toNat ((k.getH hr.toNat).advW q))

/-! ### Gather and scatter (06 R170, R171) -/

/-- Checks active lanes in ascending order. -/
def accessLanes (base : Word) (offs : List Nat) (act : Nat → Bool) (e : Nat) (write : Bool) : Nat → M (List (Nat × Nat))
  | i => match offs with
    | [] => pure []
    | o :: rest => do
      let here' ← if act i then do
          let key ← access (base + BitVec.ofNat 64 (o * e)) e (!write) write false
          pure [(key, i)]
        else pure []
      let more ← accessLanes base rest act e write (i + 1)
      pure (here' ++ more)

/-- The virtual addresses of active lanes; with none, the base. -/
def laneVas (base : Word) (offs : List Nat) (e : Nat) (lanes : List (Nat × Nat)) : List Word :=
  if lanes.isEmpty then [base] else lanes.map (fun l => base + BitVec.ofNat 64 (nth offs l.2 0 * e))

/-- VGATH (06 R170). -/
def opVgath (vd xa vb : Reg) (t : Fmt) (m : Reg3) : M Unit := do
  let b ← readX xa
  let v ← readV vb
  let mk ← readM m.toNat
  let e := laneBits t / 8
  let lanes ← accessLanes b (lanesOf t v) (laneActive (laneCount t) mk) e false 0
  loadRoom
  touch (.v vd.toNat) false
  let s ← get
  enqueue (.gather t []) lanes e [.v vd.toNat] none none
    ((lanes.map (fun l => loadDelay s.cur l.1)).foldl max 2) (laneVas b (lanesOf t v) e lanes)

/-- VSCAT: the elements of vd go to memory, the highest lane last (06 R170). -/
def opVscat (vd xa vb : Reg) (t : Fmt) (m : Reg3) : M Unit := do
  let b ← readX xa
  let v ← readV vb
  let x ← readV vd
  let mk ← readM m.toNat
  let e := laneBits t / 8
  let lanes ← accessLanes b (lanesOf t v) (laneActive (laneCount t) mk) e true 0
  storeRoom
  enqueue (.store (lanes.map (fun l => leBytes e (laneOf t x l.2)))) lanes e [] none none 1 (laneVas b (lanesOf t v) e lanes)

/-! ### Issue -/

/-- Issues LD. -/
def execLd (d base : Reg) (sz : Size) (off : BitVec 10) (s : State) : Host.Outcome State Fault Refusal := issueHalf (opLd d base sz off) s

/-- Issues LDZ. -/
def execLdz (d base : Reg) (sz : Size) (off : BitVec 10) (s : State) : Host.Outcome State Fault Refusal := issueHalf (opLdz d base sz off) s

/-- Issues ST. -/
def execSt (v base : Reg) (sz : Size) (off : BitVec 10) (s : State) : Host.Outcome State Fault Refusal := issueHalf (opSt v base sz off) s

/-- Issues LDAQ. -/
def execLdaq (d base : Reg) (sz : Size) (sc : Scope) (off : BitVec 10) (s : State) : Host.Outcome State Fault Refusal := issueHalf (opLdaq d base sz sc off) s

/-- Issues STRL. -/
def execStrl (v base : Reg) (sz : Size) (sc : Scope) (off : BitVec 10) (s : State) : Host.Outcome State Fault Refusal := issueHalf (opStrl v base sz sc off) s

/-- Issues LDX. -/
def execLdx (d a b : Reg) (sz : Size) (sh : BitVec 2) (s : State) : Host.Outcome State Fault Refusal := issueHalf (opLdx d a b sz sh) s

/-- Issues STX. -/
def execStx (d a b : Reg) (sz : Size) (sh : BitVec 2) (s : State) : Host.Outcome State Fault Refusal := issueHalf (opStx d a b sz sh) s

/-- Issues PREF. -/
def execPref (a b : Reg) (sh : BitVec 2) (s : State) : Host.Outcome State Fault Refusal := issueHalf (opPref a b sh) s

/-- Issues PLD. -/
def execPld (d a : Reg) (sz : Size) (win : BitVec 4) (s : State) : Host.Outcome State Fault Refusal := issueHalf (opPld d a sz win) s

/-- Issues FENCE. -/
def execFence (kinds : BitVec 4) (sc : Scope) (s : State) : Host.Outcome State Fault Refusal := issueHalf (opFence kinds sc) s

/-- Issues FENCEE. -/
def execFencee (kinds : BitVec 4) (sc : Scope) (s : State) : Host.Outcome State Fault Refusal := issueHalf (opFencee kinds sc) s

/-- Issues AMO. -/
def execAmo (op : AmoOp) (d a b : Reg) (sz : Size) (sc : Scope) (o : Order) (s : State) : Host.Outcome State Fault Refusal := issueHalf (opAmo op d a b sz sc o) s

/-- Issues CAS. -/
def execCas (d a b : Reg) (sz : Size) (sc : Scope) (o : Order) (s : State) : Host.Outcome State Fault Refusal := issueHalf (opCas d a b sz sc o) s

/-- Issues CASQ. -/
def execCasq (d a b : Reg) (sc : Scope) (o : Order) (s : State) : Host.Outcome State Fault Refusal := issueHalf (opCasq d a b sc o) s

/-- Issues FAMO. -/
def execFamo (half : Bool) (d a b : Reg) (sc : Scope) (o : Order) (s : State) : Host.Outcome State Fault Refusal := issueHalf (opFamo half d a b sc o) s

/-- Issues VLD. -/
def execVld (vd hr : Reg) (t : Fmt) (s : State) : Host.Outcome State Fault Refusal := issueHalf (opVld vd hr t) s

/-- Issues VST. -/
def execVst (hr vb : Reg) (t : Fmt) (s : State) : Host.Outcome State Fault Refusal := issueHalf (opVst hr vb t) s

/-- Issues VGATH. -/
def execVgath (vd xa vb : Reg) (t : Fmt) (m : Reg3) (s : State) : Host.Outcome State Fault Refusal := issueHalf (opVgath vd xa vb t m) s

/-- Issues VSCAT. -/
def execVscat (vd xa vb : Reg) (t : Fmt) (m : Reg3) (s : State) : Host.Outcome State Fault Refusal := issueHalf (opVscat vd xa vb t m) s

end Sys2Proof.Machine
end

