-- ==== Sys2Proof/Machine/Engine.lean ====
section
/-!
DEFINITION. What every engine that works for a core shares: entry of an asynchronous command, its footprint,
tokens, its end or failure (05 R137, R141, R142), and an engine's reads and writes of memory (12 R290, 18 R411).
-/

namespace Sys2Proof.Machine

/-! ### Footprints (05 R137) -/

/-- Extents of a later command overlap an active entry: read after write, write after read, write after write. -/
def Foot.blocks (f : Foot) (reads writes : List (Nat × Nat)) : Bool :=
  f.writes.any (fun w => reads.any (rangesMeet w) || writes.any (rangesMeet w)) ||
    f.reads.any (fun r => writes.any (rangesMeet r))

/-- An earlier command of the core holds accesses of command `id`: one with an entry before its own, or, where it takes none,
an earlier one's. -/
def Core.footBlocked (k : Core) (id : Nat) (reads writes : List (Nat × Nat)) : Bool :=
  let before := if k.foot.any (fun f => decide (f.id = id)) then k.foot.takeWhile (fun f => decide (f.id ≠ id))
    else k.foot.filter (fun f => decide (f.id < id))
  before.any (fun f => f.blocks reads writes)

/-- An asynchronous command issues (05 R141): it stalls while its token would pass 255 or the footprint table is
full, counts on its token and takes its entry. -/
def enterAsync (token : Nat) (counts takes : Bool) (reads writes : List (Nat × Nat)) : M Nat := do
  let k ← here
  await (!counts || decide (k.getK token < 255))
  await (!takes || decide (k.foot.length < 16))
  let id ← freshId
  modHere (fun k =>
    let k := if counts then k.setK token (k.getK token + 1) else k
    if takes then { k with foot := k.foot ++ [⟨id, reads, writes⟩] } else k)
  pure id

/-! ### The end of a command (05 R141, R142) -/

/-- The token loses 1. -/
def Core.tokenDown (k : Core) (t : Nat) : Core := if noToken ≤ t then k else k.setK t (k.getK t - 1)

/-- The command's footprint entry is free. -/
def Core.footFree (k : Core) (id : Nat) : Core := { k with foot := k.foot.filter (fun f => decide (f.id ≠ id)) }

/-- A command completes. -/
def Core.finish (k : Core) (id token : Nat) (counts : Bool) : Core :=
  let k := k.footFree id
  if counts then k.tokenDown token else k

/-- A failure recorded against a token: the first one's status, address and word, and a count of later ones. -/
def Core.record (k : Core) (token status : Nat) (addr : Word) (word : InstrWord) : Core :=
  if noToken ≤ token then k
  else match mget k.fails token with
  | some r => { k with fails := mset k.fails token { r with more := r.more + 1 } }
  | none => { k with fails := mset k.fails token ⟨status, addr, word, 0⟩ }

/-- A command that counts on a token fails after issue (05 R142). -/
def Core.failCommand (k : Core) (id token status : Nat) (addr : Word) (word : InstrWord) : Core :=
  (k.finish id token true).record token status addr word

/-! ### Memory as an engine sees it -/

/-- The bytes that a core's buffered stores put over a range, in program order (05 R130). -/
def overlayStore (base : Nat) (bs : List Byte) (a : Nat) (data : List Byte) : List Byte :=
  bs.zipIdx.map (fun (b, i) => if a ≤ base + i ∧ base + i < a + data.length then data.getD (base + i - a) 0 else b)

/-- One buffered store over a range. -/
def MemOp.overlay (o : MemOp) (base : Nat) (bs : List Byte) : List Byte :=
  match o.kind with
  | .store parts => (o.lanes.zip parts).foldl (fun bs p => overlayStore base bs p.1.1 p.2) bs
  | _ => bs

/-- `n` bytes at a key as the core's own reads see them: memory under the core's buffered stores. -/
def State.readOwn (s : State) (c key n : Nat) : List Byte :=
  (s.core c).mem.foldl (fun bs o => o.overlay key bs) (memRead s.mem key n)

/-- An earlier acquire of the core holds what it issues later (13 R302). -/
def MemOp.holdsLater (o : MemOp) : Bool := match o.acq with | some sc => !o.shownAt sc | none => false

/-- A remote operation. -/
def CopyCmd.isRemote (c : CopyCmd) : Bool := match c.kind with | .remote _ => true | _ => false

/-- An earlier remote operation of the core that reaches bytes of a physical range has not completed: accesses of one agent to
one byte keep their order (13 R299). -/
def State.remoteHeld (s : State) (c id pa n : Nat) : Bool :=
  (s.core c).copies.any (fun x => x.isRemote && decide (x.id < id) &&
    (match s.physOf c x.a0 with | some p => overlaps p 8 pa n | none => false))

/-- The physical address of a key of this chip. -/
def State.paOfKey (s : State) (key : Nat) : Nat := s.chip.toNat * 2 ^ 52 + key

/-- An engine's access waits for the earlier accesses of its core on the same bytes, and for its core's earlier
acquires (11 R273, 13 R302); it waits for bytes that another core's access holds (R298). -/
def State.accessHeld (s : State) (c id : Nat) (write : Bool) (ranges : List (Nat × Nat)) : Bool :=
  (s.core c).mem.any (fun o => decide (o.id < id) && (o.holdsLater || ranges.any (fun r => o.touches r.1 r.2))) ||
    ranges.any (fun r => s.shownHolds (some c) write r.1 r.2 || s.remoteHeld c id (s.paOfKey r.1) r.2)

/-- A ring's slots are written once every access of the core that read them has been performed: a VLD releases them as it
issues (06 R169), whatever its place. -/
def State.slotsRead (s : State) (c : Nat) (ranges : List (Nat × Nat)) : Bool :=
  !(s.core c).mem.any (fun o => decide (o.kind = .vload) && ranges.any (fun r => o.touches r.1 r.2))

/-! ### Translation for an engine (12 R287) -/

/-- What an engine's translation gives: a physical address; a walk to wait for; a page that a walk found not present; a
fault. -/
inductive EngineXlate where
  | ok (pa : Nat)
  | wait
  | absent
  | bad (c : Cause)
  deriving DecidableEq, Repr

/-- Translates for an engine's client that acts for core `c`: a miss joins or starts a walk, and one whose walk found the page
not present says so once. -/
def State.engineXlate (s : State) (who : Client) (c : Nat) (va : Word) (needR needW : Bool) : EngineXlate × State :=
  match s.xlate c va needR needW with
  | .ok pa => (.ok pa, s.useTlb (clusterOf c) (s.partOf c) va.toNat)
  | .bad f => (.bad f, s)
  | .miss =>
    if s.absents.contains (who, va.toNat / 65536) then
      (.absent, { s with absents := s.absents.filter (fun a => decide (a ≠ (who, va.toNat / 65536))) })
    else (.wait, s.startWalk (clusterOf c) (s.partOf c) va.toNat needW [] [who])

/-- Statuses of R142 (05) that a fault of translation gives. -/
def Cause.status : Cause → Nat
  | .protection => 4
  | .accessKind => 5
  | .addressForm => 6
  | _ => 5

/-- The key under which a round keeps a page that it has translated. -/
def gotKey (va : Nat) (write : Bool) : Nat := 2 * (va / 65536) + (if write then 1 else 0)

/-- Translates an address of a round; a page once translated for the round stays so (05 R148). -/
def State.pageFor (s : State) (who : Client) (c : Nat) (got : FMap Nat) (needR needW : Bool) (va : Nat) :
    EngineXlate × FMap Nat × State :=
  match mget got (gotKey va needW) with
  | some pa => (.ok (pa + va % 65536), got, s)
  | none =>
    match s.engineXlate who c (BitVec.ofNat 64 va) needR needW with
    | (.ok pa, t) => (.ok pa, (match placeOf (BitVec.ofNat 64 va) with
        | .mapped => mset got (gotKey va needW) (pa - va % 65536)
        | .supervisor => mset got (gotKey va needW) (pa - va % 65536)
        | _ => got), t)
    | (x, t) => (x, got, t)

/-! ### Descriptors in the issuing core's local store (07 R191) -/

/-- Reads `n` words of a descriptor at an aligned address of the core's local store, as an ordinary load (15 R336). -/
def readLocal (va : Word) (align n : Nat) : M (List Word) := do
  require (canonical va) .addressForm va
  require (decide (va.toNat % align = 0)) .misalignedAccess va
  match placeOf va, placeOf (va + BitVec.ofNat 64 (8 * n - 1)) with
  | .own off, .own _ => do
    let s ← get
    let key := localKey s.cur off
    await (!(s.core s.cur).footHolds va.toNat (8 * n) [])
    await (!(s.core s.cur).mem.any (fun o => o.holdsLater || (o.isAtomic && o.touches key (8 * n))))
    await (!(s.remoteHeld s.cur s.nextId (s.paOfKey key) (8 * n) || s.shownHolds (some s.cur) false key (8 * n)))
    require (!s.isPoisoned key (8 * n)) .memoryError va
    pure (wordsOfBytes n (s.readOwn s.cur key (8 * n)))
  | _, _ => fault .accessKind va

/-! ### Ranges of virtual addresses -/

/-- The window address of a slice offset of a cluster, as its own region names it (12 R282). -/
def Cluster.sliceVa (k : Cluster) (cl off : Nat) : Nat :=
  0x10000000000 + (cl / 32 - k.row0) * 2 ^ 25 + (cl % 32 - k.col0) * 2 ^ 20 + off

/-- The slice offset of an address in the own slice, if the range `n` bytes from it lies wholly there (07 R177). -/
def State.ownSlice (s : State) (c : Nat) (va : Word) (n : Nat) : Option Nat :=
  match placeOf va with
  | .window v =>
    if (s.cl (clusterOf c)).windowCluster v = some (clusterOf c) ∧ v % 2 ^ 20 + n ≤ 2 ^ 20 then some (v % 2 ^ 20) else none
  | _ => none

end Sys2Proof.Machine
end

