-- ==== Sys2Proof/Machine/AtollInsns.lean ====
section
/-!
DEFINITION. Atoll instructions as they issue: major 0x3a (07 R185-R190). The Atoll serves them
(Machine/AtollUnit.lean).
-/

namespace Sys2Proof.Machine

/-- The byte range of a whole ring. -/
def RingH.range (h : RingH) : Nat × Nat := (h.base.toNat, h.extent)

/-- The core's commands that wait for the Atoll: at most two (07 R185). -/
def State.atollWaiting (s : State) (c : Nat) : Nat :=
  (s.core c).atollQ.length + ((s.cl (clusterOf c)).atoll.arrivals.filter (fun a => decide (a.core = c))).length

/-- Enters an Atoll command; it joins the arrival order two clk after issue (14 R320). -/
def enterAtoll (kind : AtollKind) (hIn hOut : Nat) (rIn rOut : RingH) (token : Reg3) (takes : Bool)
    (reads writes : List (Nat × Nat)) : M Unit := do
  let s ← get
  await (decide (s.atollWaiting s.cur < 2))
  let id ← enterAsync token.toNat true takes reads writes
  modHere (fun k => { k with atollQ := k.atollQ ++
    [⟨id, s.cur, kind, hIn, hOut, rIn, rOut, token.toNat, s.clk + 2, s.issue.word⟩] })

/-- LTLD and LWLD: a load of `n` bytes into number x[b], at most `top` (07 R187). -/
def loadTable (kind : Nat → AtollKind) (n top : Nat) (hr b : Reg) (k : Reg3) : M Unit := do
  let h ← readH hr
  let v ← readX b
  require (decide (v.toNat ≤ top)) .operandRange v
  require (decide (n % h.slot = 0)) .operandRange (BitVec.ofNat 64 h.slot)
  enterAtoll (kind v.toNat) hr.toNat hr.toNat h h k true [h.range] []

/-- LTLD (07 R187). -/
def opLtld (hr b : Reg) (k : Reg3) : M Unit := loadTable AtollKind.ltld 4096 3 hr b k

/-- LWLD (07 R187). -/
def opLwld (hr b : Reg) (k : Reg3) : M Unit := loadTable AtollKind.lwld 3072 7 hr b k

/-- Reserved bits of a context word (07 R188). -/
def selOk (w : Word) : Bool :=
  let x := w.toNat
  decide (bitsAt x 32 32 = 0) && decide (bitsAt x 19 1 = 0) && decide (bitsAt x 11 5 = 0) && decide (bitsAt x 6 2 = 0) &&
    decide (bitsAt x 3 1 = 0)

/-- LCTX (07 R188). -/
def opLctx (a : Reg) : M Unit := do
  let w ← readX a
  require (selOk w) .operandRange w
  modHere (fun k => { k with sel := w })

/-- Fields of a selection (07 R188). -/
def selNo (w : Word) : Nat := bitsAt w.toNat 26 6 + 1
def selNi (w : Word) : Nat := bitsAt w.toNat 20 6 + 1
def selPasses (w : Word) : Nat := bitsAt w.toNat 16 3 + 1
def selStage (w : Word) : Nat := bitsAt w.toNat 8 3
def selBank (w : Word) : Nat := bitsAt w.toNat 4 2
def selContext (w : Word) : Nat := bitsAt w.toNat 0 3

/-- LRUN (07 R189, 14 R322). -/
def opLrun (hd hr b : Reg) (k : Reg3) : M Unit := do
  let ho ← readH hd
  let hi ← readH hr
  let n ← readX b
  require (decide (n.toNat < 2 ^ 32) && decide (hd ≠ hr)) .operandRange n
  let c ← source
  require (decide (hi.slot = selNi c.sel * 8)) .ringGeometry (BitVec.ofNat 64 hr.toNat)
  require (decide (ho.slot = selNo c.sel * 8)) .ringGeometry (BitVec.ofNat 64 hd.toNat)
  enterAtoll (.lrun c.sel n.toNat) hr.toNat hd.toNat hi ho k (decide (n ≠ 0)) [hi.range] [ho.range]

/-- LSTAT (07 R190). -/
def opLstat (d : Reg) : M Unit := do
  let s ← get
  let t := (s.cl (clusterOf s.cur)).atoll
  let waiting := t.arrivals.length + ((List.range 8).map (fun i => (s.core (clusterOf s.cur * 8 + i)).atollQ.length)).sum
  writeX d (BitVec.ofNat 64 ((if t.serving.isSome then 2 ^ 31 else 0) + min waiting 255 * 2 ^ 16 + t.bankMask * 2 ^ 8 + t.ctxMask))

/-- LFLUSH (07 R190). -/
def opLflush (k : Reg3) : M Unit := enterAtoll .lflush 0 0 RingH.invalid RingH.invalid k true [] []

/-! ### Issue -/

/-- Issues LTLD. -/
def execLtld (hr b : Reg) (k : Reg3) (s : State) : Host.Outcome State Fault Refusal := issueHalf (opLtld hr b k) s

/-- Issues LWLD. -/
def execLwld (hr b : Reg) (k : Reg3) (s : State) : Host.Outcome State Fault Refusal := issueHalf (opLwld hr b k) s

/-- Issues LCTX. -/
def execLctx (a : Reg) (s : State) : Host.Outcome State Fault Refusal := issueHalf (opLctx a) s

/-- Issues LRUN. -/
def execLrun (hd hr b : Reg) (k : Reg3) (s : State) : Host.Outcome State Fault Refusal := issueHalf (opLrun hd hr b k) s

/-- Issues LSTAT. -/
def execLstat (d : Reg) (s : State) : Host.Outcome State Fault Refusal := issueHalf (opLstat d) s

/-- Issues LFLUSH. -/
def execLflush (k : Reg3) (s : State) : Host.Outcome State Fault Refusal := issueHalf (opLflush k) s

end Sys2Proof.Machine
end

