-- ==== Sys2Proof/Machine/CopyInsns.lean ====
section
/-!
DEFINITION. Copy, template and remote instructions as they issue: majors 0x28 and 0x29 (05 R141-R154). The copy engine
runs the commands (Machine/CopyEngine.lean).
-/

namespace Sys2Proof.Machine

/-! ### Entry (05 R141) -/

/-- A command of the copy engine before its own fields. -/
def CopyCmd.blank (id : Nat) (kind : CopyKind) (token : Nat) (clk : Nat) (pc : Word) (word : InstrWord) : CopyCmd :=
  { id := id, kind := kind, token := token, counts := true, a0 := 0, a1 := 0, b0 := 0, b1 := 0, ring := 0,
    rh := RingH.invalid, after := [], phase := .queued, pos := 0, missing := 0, rounds := [], carry := (0, []),
    z := ZState.start, dest := none, template := none, low := 0, window := 0, since := clk, pc := pc, word := word }

/-- Enters a command: stalls while the two-entry queue, the token or the footprint table is full. -/
def enterCopy (kind : CopyKind) (token : Reg3) (takes : Bool) (reads writes : List (Nat × Nat))
    (f : CopyCmd → CopyCmd) : M Unit := do
  let k ← here
  await (decide ((k.copies.filter (fun c => decide (c.phase = .queued) && c.template.isNone)).length < 2))
  let id ← enterAsync token.toNat true takes reads writes
  let s ← get
  let cmd := f (CopyCmd.blank id kind token.toNat s.clk (s.core s.cur).pc s.issue.word)
  modHere (fun k => { k with copies := k.copies ++ [cmd] })

/-- A named address must be canonical (05 R147). -/
def requireCanonical (va : Word) : M Unit := require (canonical va) .addressForm va

/-! ### Streams and extents (05 R145, R146, R151) -/

/-- Element bytes and count of CPYI. -/
def cpyiBytes (w : Word) : Nat := bitsAt w.toNat 32 13
def cpyiCount (w : Word) : Nat := bitsAt w.toNat 0 32

/-- Bytes of the destination stream. -/
def CopyCmd.total (c : CopyCmd) : Nat :=
  match c.kind with
  | .cpy => c.a1.toNat
  | .cpy2 => geoTotal c.a1
  | .cpyi => cpyiCount c.b1 * cpyiBytes c.b1
  | .cpys => cpysCount c.a1 * c.rh.slot
  | .cfill => c.b1.toNat
  | _ => 0

/-- A range of the address space from an integer lowest and highest byte. -/
def intRangeOf (lo hi : Int) : Nat × Nat := (lo.toNat, (hi + 1 - max lo 0).toNat)

/-- The source extent of CPYS: lowest to highest source byte of all slots. -/
def cpysExtent (src g : Word) (slot : Nat) : Nat × Nat :=
  let n := cpysCount g
  let last : Int := (src.toNat : Int) + ((n : Int) - 1) * cpysStride g
  if n = 0 then (src.toNat, 0) else intRangeOf (min (src.toNat : Int) last) (max (src.toNat : Int) last + slot - 1)

/-- The whole store that holds an address: local store, cluster-store window, or HBM and far memory (05 R151). -/
def wholeStore (va : Word) : List (Nat × Nat) :=
  match placeOf va with
  | .own _ => [(0x10000, 0x10000)]
  | .window _ => [(0x10000000000, 0x40000000)]
  | _ => [(0x20000, 0x10000000000 - 0x20000), (0x10040000000, 2 ^ 64 - 0x10040000000)]

/-- Read and write extents (05 R151). -/
def CopyCmd.extents (c : CopyCmd) : List (Nat × Nat) × List (Nat × Nat) :=
  if c.total = 0 then ([], [])
  else match c.kind with
    | .cpy => ([(c.a0.toNat, c.a1.toNat)], [(c.b0.toNat, c.a1.toNat)])
    | .cpy2 => ([(c.a0.toNat, geoExtent c.a1)], [(c.b0.toNat, geoExtent c.b1)])
    | .cpyi => ((c.a1.toNat, 4 * cpyiCount c.b1) :: wholeStore c.a0, [(c.b0.toNat, c.total)])
    | .cpys => ([cpysExtent c.a0 c.a1 c.rh.slot], [(c.rh.base.toNat, c.rh.extent)])
    | .cfill => ([], [(c.b0.toNat, c.b1.toNat)])
    | _ => ([], [])

/-- A check of 05 R147 that fails: its fault and value. -/
def copyCheck (c : CopyCmd) : Option (Cause × Word) :=
  let (reads, writes) := c.extents
  let meets := reads.any (fun r => writes.any (rangesMeet r))
  match c.kind with
  | .cpy =>
    if 2 ^ 32 ≤ c.a1.toNat then some (.operandRange, c.a1)
    else if !canonical c.a0 then some (.addressForm, c.a0)
    else if !canonical c.b0 then some (.addressForm, c.b0)
    else if meets then some (.operandRange, c.b0) else none
  | .cpy2 =>
    if geoTotal c.a1 ≠ geoTotal c.b1 then some (.operandRange, c.b1)
    else if 1 < geoRows c.b1 ∧ geoPitch c.b1 < geoBytes c.b1 then some (.operandRange, c.b1)
    else if !canonical c.a0 then some (.addressForm, c.a0)
    else if !canonical c.b0 then some (.addressForm, c.b0)
    else if meets then some (.operandRange, c.b0) else none
  | .cpyi =>
    if 2 ^ 45 ≤ c.b1.toNat ∨ cpyiBytes c.b1 = 0 ∨ 4096 < cpyiBytes c.b1 then some (.operandRange, c.b1)
    else if c.a1.toNat % 4 ≠ 0 then some (.misalignedAccess, c.a1)
    else if !canonical c.a0 then some (.addressForm, c.a0)
    else if !canonical c.a1 then some (.addressForm, c.a1)
    else if !canonical c.b0 then some (.addressForm, c.b0)
    else if c.total ≠ 0 ∧ rangesMeet (c.a1.toNat, 4 * cpyiCount c.b1) (c.b0.toNat, c.total) = true then
      some (.operandRange, c.b0) else none
  | .cpys =>
    if !canonical c.a0 then some (.addressForm, c.a0)
    else if meets then some (.operandRange, c.a0) else none
  | .cfill =>
    if 2 ^ 32 ≤ c.b1.toNat then some (.operandRange, c.b1)
    else if !canonical c.b0 then some (.addressForm, c.b0) else none
  | _ => none

/-- Issues a data copy: its checks, then its entry. A zero-length copy takes no footprint entry (05 R150). -/
def issueCopy (kind : CopyKind) (k : Reg3) (f : CopyCmd → CopyCmd) : M Unit := do
  let s ← get
  let probe := f (CopyCmd.blank 0 kind k.toNat s.clk 0 0)
  match copyCheck probe with
  | some (c, v) => fault c v
  | none => enterCopy kind k (decide (probe.total ≠ 0)) probe.extents.1 probe.extents.2 f

/-- CPY (05 R145). -/
def opCpy (a b : Reg) (k : Reg3) : M Unit := do
  let src ← readX a
  let len ← readX (a + 1)
  let dst ← readX b
  issueCopy .cpy k (fun c => { c with a0 := src, a1 := len, b0 := dst })

/-- CPY2 (05 R145, R146). -/
def opCpy2 (a b : Reg) (k : Reg3) : M Unit := do
  let src ← readX a
  let sg ← readX (a + 1)
  let dst ← readX b
  let dg ← readX (b + 1)
  issueCopy .cpy2 k (fun c => { c with a0 := src, a1 := sg, b0 := dst, b1 := dg })

/-- CPYI (05 R145). -/
def opCpyi (a b : Reg) (k : Reg3) : M Unit := do
  let src ← readX a
  let list ← readX (a + 1)
  let dst ← readX b
  let n ← readX (b + 1)
  issueCopy .cpyi k (fun c => { c with a0 := src, a1 := list, b0 := dst, b1 := n })

/-- A CPYS of no negative stride holds an open window from its issue until it completes or fails (17 R388). -/
def CopyCmd.hasWindow (c : CopyCmd) : Bool := decide (c.kind = .cpys) && decide (0 ≤ cpysStride c.a1)

/-- The lowest window slot that no command of a core holds. -/
def Core.freeWindow (k : Core) : Nat :=
  ((List.range 64).find? (fun i => !k.copies.any (fun c => c.hasWindow && decide (c.window = i)))).getD 64

/-- CPYS into ring h[b] (05 R145, R149). -/
def opCpys (a hr : Reg) (k : Reg3) : M Unit := do
  let src ← readX a
  let g ← readX (a + 1)
  let h ← readH hr
  let c ← here
  issueCopy .cpys k (fun q => { q with a0 := src, a1 := g, ring := hr.toNat, rh := h, low := src, window := c.freeWindow })

/-- CFILL (05 R145). -/
def opCfill (a b : Reg) (k : Reg3) : M Unit := do
  let v ← readX a
  let dst ← readX b
  let len ← readX (b + 1)
  issueCopy .cfill k (fun c => { c with a0 := v, b0 := dst, b1 := len })

/-! ### Templates (05 R152-R154) -/

/-- A firing of template `t` is in flight. -/
def Core.firing (k : Core) (t : Nat) : Bool :=
  k.copies.any (fun c => match c.template with | some (n, _) => decide (n = t) | none => false)

/-- Disarms template `t`, once its firing has completed (05 R154). -/
def disarm (t : Nat) : M Unit := do
  let k ← here
  await (!k.firing t)
  modHere (fun k => { k with templates := mdel k.templates t })

/-- CARM (05 R152). -/
def opCarm (a b : Reg) (k : Reg3) : M Unit := do
  let t ← readX a
  let va ← readX b
  require (decide (t.toNat ≤ 7)) .operandRange t
  requireCanonical va
  require (decide (va.toNat % 64 = 0)) .misalignedAccess va
  require (match placeOf va with | .own _ => true | _ => false) .accessKind va
  disarm t.toNat
  enterCopy .carm k true [(va.toNat, 64)] [] (fun c => { c with a0 := t, b0 := va })

/-- CDIS (05 R154). -/
def opCdis (a : Reg) : M Unit := do
  let t ← readX a
  require (decide (t.toNat ≤ 7)) .operandRange t
  disarm t.toNat

/-! ### Remote operations (05 R143, R144) -/

/-- The asynchronous commands of a core that have not completed, with the token each counts on. -/
def State.pendingTokens (s : State) (c : Nat) : List (Nat × Nat) :=
  let cl := s.cl (clusterOf c)
  let atoll (l : List AtollCmd) : List (Nat × Nat) := (l.filter (fun a => decide (a.core = c))).map (fun a => (a.id, a.token))
  ((s.core c).copies.filter (fun x => x.counts)).map (fun x => (x.id, x.token)) ++
    (mgetD cl.mat.queues (c % 8) []).map (fun x => (x.id, x.token)) ++
    atoll ((s.core c).atollQ ++ cl.atoll.arrivals ++ cl.atoll.serving.toList.map (fun v => v.cmd)) ++
    (s.sends.filter (fun x => decide (x.core = c))).map (fun x => (x.id, x.token)) ++
    (s.core c).jsyncs.map (fun x => (x.1, x.2.2))

/-- All of them, whatever token they count on now. -/
def State.outstanding (s : State) (c : Nat) : List Nat := (s.pendingTokens c).map (fun x => x.1)

/-- Those that count on token `t`. -/
def State.countedOn (s : State) (c t : Nat) : List Nat :=
  ((s.pendingTokens c).filter (fun x => decide (x.2 = t))).map (fun x => x.1)

/-- The cause of an address that the source cannot use for a remote operation (05 R128). -/
def remotePlace (va : Word) : Option Cause :=
  if !canonical va then some .addressForm
  else if va.toNat % 8 ≠ 0 then some .misalignedAccess
  else match placeOf va with
    | .own _ => some .accessKind
    | _ => none

/-- Issues a remote operation (05 R143); x[d] is pending until the reply. It takes no footprint entry (R137). -/
def remoteOp (op : RemOp) (va data cmp : Word) (dest : Option Dest) (k o : Reg3) : M Unit := do
  match remotePlace va with
  | some c => fault c va
  | none => do
    let s ← get
    let after := if o = 0 then [] else s.countedOn s.cur o.toNat
    enterCopy (.remote op) k false [] [] (fun c => { c with a0 := va, b0 := data, b1 := cmp, dest := dest, after := after })
    match dest with
    | some d => modHere (fun k => { k with waits := k.waits ++ [⟨s.nextId, d, .none⟩] })
    | none => pure ()

/-- x[d] as a remote operation's destination. -/
def remDest (d : Reg) : Option Dest := if d = 0 then none else some (.x d.toNat)

/-- RLD. -/
def opRld (d a : Reg) (k o : Reg3) : M Unit := do
  let va ← readX a
  claimX d
  remoteOp .load va 0 0 (remDest d) k o

/-- RST. -/
def opRst (a b : Reg) (k o : Reg3) : M Unit := do
  let va ← readX a
  let v ← readX b
  remoteOp .store va v 0 none k o

/-- RCAS: x[d] is read and written, so a bound port raises queue-direction, as for CAS (05 R129, R143). -/
def opRcas (d a b : Reg) (k o : Reg3) : M Unit := do
  let c ← source
  require (!(decide (24 ≤ d.toNat) && (mget c.ports (d.toNat - 24)).isSome)) .queueDirection
    (BitVec.ofNat 64 (d.toNat - 24))
  let va ← readX a
  let old ← readX d
  let new ← readX b
  claimX d
  remoteOp .cas va new old (remDest d) k o

/-- RAMO. -/
def opRamo (op : AmoOp) (d a b : Reg) (k o : Reg3) : M Unit := do
  let va ← readX a
  let v ← readX b
  claimX d
  remoteOp (.amo op) va v 0 (remDest d) k o

/-! ### Issue -/

/-- Issues CPY. -/
def execCpy (a b : Reg) (k : Reg3) (s : State) : Host.Outcome State Fault Refusal := issueHalf (opCpy a b k) s

/-- Issues CPY2. -/
def execCpy2 (a b : Reg) (k : Reg3) (s : State) : Host.Outcome State Fault Refusal := issueHalf (opCpy2 a b k) s

/-- Issues CPYI. -/
def execCpyi (a b : Reg) (k : Reg3) (s : State) : Host.Outcome State Fault Refusal := issueHalf (opCpyi a b k) s

/-- Issues CPYS. -/
def execCpys (a hr : Reg) (k : Reg3) (s : State) : Host.Outcome State Fault Refusal := issueHalf (opCpys a hr k) s

/-- Issues CFILL. -/
def execCfill (a b : Reg) (k : Reg3) (s : State) : Host.Outcome State Fault Refusal := issueHalf (opCfill a b k) s

/-- Issues CARM. -/
def execCarm (a b : Reg) (k : Reg3) (s : State) : Host.Outcome State Fault Refusal := issueHalf (opCarm a b k) s

/-- Issues CDIS. -/
def execCdis (a : Reg) (s : State) : Host.Outcome State Fault Refusal := issueHalf (opCdis a) s

/-- Issues RLD. -/
def execRld (d a : Reg) (k o : Reg3) (s : State) : Host.Outcome State Fault Refusal := issueHalf (opRld d a k o) s

/-- Issues RST. -/
def execRst (a b : Reg) (k o : Reg3) (s : State) : Host.Outcome State Fault Refusal := issueHalf (opRst a b k o) s

/-- Issues RCAS. -/
def execRcas (d a b : Reg) (k o : Reg3) (s : State) : Host.Outcome State Fault Refusal := issueHalf (opRcas d a b k o) s

/-- Issues RAMO. -/
def execRamo (op : AmoOp) (d a b : Reg) (k o : Reg3) (s : State) : Host.Outcome State Fault Refusal := issueHalf (opRamo op d a b k o) s

end Sys2Proof.Machine
end

