-- ==== Sys2Proof/Machine/Device.lean ====
section
/-!
DEFINITION. Reads of the device-register space and of the journal store (12 R283, 16 R360, 18 R418), and the open
stream windows (17 R388).
-/

namespace Sys2Proof.Machine

/-! ### Stream windows (17 R388) -/

/-- The high end of a window: low + stride × slot count. -/
def CopyCmd.high (c : CopyCmd) : Word := c.low + BitVec.ofInt 64 (cpysStride c.a1 * (c.rh.slots : Int))

/-- A word of window `slot` of a core: a command holds its slot from its issue until it completes or fails. -/
def Core.windowWord (k : Core) (slot w : Nat) : Word :=
  match k.copies.find? (fun c => c.hasWindow && decide (c.window = slot)) with
  | none => 0
  | some c => if w = 0 then c.low else c.high ||| (1 <<< 63)

/-! ### Registers -/

/-- A port's state register (15 R351). -/
def State.straitWord (s : State) (p : Nat) : Nat :=
  let t := mgetD s.straits p Strait.reset
  t.peer * 2 ^ 52 + t.pinc * 2 ^ 44 + s.inc.toNat * 2 ^ 36 + t.pairs * 2 ^ 28 + t.state * 2 ^ 24

/-- The journal unit's control register (16 R361). -/
def Journal.control (j : Journal) : Nat := j.partner * 2 ^ 52 + j.pInc * 2 ^ 44 + j.state * 2 ^ 32 + j.enable.toNat

/-- A ring-table word (16 R361). -/
def JRing.word (r : JRing) : Nat := r.chip * 2 ^ 52 + r.inc * 2 ^ 44 + (if r.valid then 1 else 0)

/-- A replay-table word (16 R370). -/
def Replay.word (r : Replay) (w : Nat) : Nat :=
  if w = 0 then r.seq * 65536 + r.part * 4096 + (if r.valid then 1 else 0) else r.count * 2 ^ 32 + r.slot

/-- A cluster's power register (17 R398). -/
def Cluster.powerWord (k : Cluster) : Nat :=
  (match k.power with | .running => 0 | .clockGated => 1 | .powerGated => 2 | .waking _ => 3) * 16 + k.request

/-- A fault-buffer entry register (17 R384). -/
def FaultEntry.word (f : FaultEntry) : Nat :=
  f.gen * 2 ^ 48 + (if f.inPlace then 2 ^ 40 else 0) + f.raise.cause.code * 65536 + f.ticket * 256 + (if f.valid then 1 else 0)

/-- Activations that hold in place for want of an entry (17 R383). -/
def State.heldCount (s : State) (cl : Nat) : Nat :=
  ((List.range 8).filter (fun i => match (s.core (cl * 8 + i)).mode with | .holding _ _ => true | _ => false)).length

/-- Word `w` of a key-store slot: state, identifier, then the key's bytes (18 R412; log 12). -/
def KeySlot.word (k : KeySlot) (w : Nat) : Nat :=
  if w = 0 then k.state else if w = 1 then k.id else ofBytes ((k.key.drop (8 * (w - 2))).take 8)

/-- The power cap in force (18 R415). -/
def State.capNow (s : State) : Nat := min (min s.cap s.boardCap) 1900

/-- The 8-byte register at an aligned offset of space 3 (18 R418); an offset that no register occupies reads 0 (log 12). -/
def State.deviceRead (s : State) (off : Nat) : Nat :=
  let at' (base n : Nat) : Bool := decide (base ≤ off) && decide (off < base + n)
  if at' 0x10000 0x200 then
    (if off % 64 = 0 then s.straitWord ((off - 0x10000) / 64)
     else if off % 64 = 8 then (mgetD s.straits ((off - 0x10000) / 64) Strait.reset).stale else 0)
  else if at' 0x20000 0x4000 then
    let r := mgetD s.ranges ((off - 0x20000) / 16) ⟨0, 0⟩
    (if off % 16 = 0 then r.w0 else r.w1).toNat
  else if off = 0x30000 then s.logBase.toNat
  else if off = 0x30008 then s.logHead
  else if off = 0x30010 then s.logTail
  else if off = 0x40000 then s.journal.control
  else if off = 0x40008 then s.journal.last
  else if off = 0x40010 then s.journal.acked
  else if off = 0x40018 then s.journal.buffer.length
  else if at' 0x40108 0x78 then (mgetD s.rings ((off - 0x40100) / 8) JRing.reset).word
  else if at' 0x41000 0x10000 then (mgetD s.replays ((off - 0x41000) / 16) Replay.reset).word (off % 16 / 8)
  else if at' 0x90000 0x80 then (match mget s.freezes ((off - 0x90000) / 8) with | some f => f.value.toNat | none => 0)
  else if at' 0xa0000 0x2000 then (s.cl ((off - 0xa0000) / 8)).powerWord
  else if at' 0x300000 0x2000 then
    let e := mgetD (mgetD s.hosts ((off - 0x300000) / 0x1000) HostPort.reset).clients (off % 0x1000 / 16) ⟨0, 0⟩
    (if off % 16 = 0 then e.w0 else e.w1).toNat
  else if at' 0x310000 0x200 then
    let i := mgetD s.islands ((off - 0x310000) / 8) Island.reset
    i.current * 256 + i.floor_ * 16 + i.request
  else if off = 0x320000 then s.power * 2 ^ 48 + s.capNow
  else if off = 0x330000 then s.ready.toNat
  else if at' 0x340000 0x10000 then (mgetD s.keys ((off - 0x340000) / 0x800) KeySlot.empty).word (off % 0x800 / 8)
  else if at' 0x400000 0x20000 then
    ((mget (s.cl ((off - 0x400000) / 0x80)).faults (off % 0x80 / 8)).map FaultEntry.word).getD 0
  else if at' 0x420000 0x2000 then
    let c := (off - 0x420000) / 8
    s.heldCount c * 65536 + (if (s.cl c).overflow then 1 else 0)
  else if at' 0x1000000 0x804000 then
    ((s.core ((off - 0x1000000) / 0x400)).windowWord (off % 0x400 / 16) (off % 16 / 8)).toNat
  else 0

/-! ### The journal store (16 R360) -/

/-- Slot and ring of a journal-store offset. -/
def journalSlot (off : Nat) : Nat := off % 2 ^ 30 / 32
def journalRing (off : Nat) : Nat := off / 2 ^ 30

/-- The 8-byte word at an aligned offset of space 4; a free slot reads 0. -/
def State.journalRead (s : State) (off : Nat) : Nat :=
  (nth (mgetD (mgetD s.rings (journalRing off) JRing.reset).slots (journalSlot off) []) (off % 32 / 8) 0).toNat

/-- Writes 8 bytes of space 4. -/
def State.journalWrite (s : State) (off : Nat) (v : Word) : State :=
  let r := mgetD s.rings (journalRing off) JRing.reset
  let ws := setAt (padWords 4 (mgetD r.slots (journalSlot off) [])) (off % 32 / 8) v
  let slots := if ws.all (fun w => decide (w = 0)) then mdel r.slots (journalSlot off) else mset r.slots (journalSlot off) ws
  { s with rings := mset s.rings (journalRing off) { r with slots := slots } }

/-! ### Reads by key -/

/-- `n` bytes at a key of any space; 4 or 8 aligned bytes in spaces 3 and 4 (05 R128). -/
def State.readKey (s : State) (key n : Nat) : List Byte :=
  let off := key % 2 ^ 48
  let part (w : Nat) : List Byte := ((leBytes 8 w).drop (off % 8)).take n
  if paSpace key = 3 then part (s.deviceRead (off / 8 * 8))
  else if paSpace key = 4 then part (s.journalRead (off / 8 * 8))
  else memRead s.mem key n

/-- The 8-byte word that a write of part of it makes. -/
def mergeWord (old off : Nat) (bs : List Byte) : Word :=
  let o := leBytes 8 old
  BitVec.ofNat 64 (ofBytes (o.take (off % 8) ++ bs ++ o.drop (off % 8 + bs.length)))

end Sys2Proof.Machine
end

