-- ==== Sys2Proof/Machine/CoreEvents.lean ====
section
/-!
DEFINITION. What the core's own units and the memory do by themselves: results written back, loads, stores and atomics
at their ports, page walks, invalidations, paging (03 R78; 05 R130, R136-R140; 12 R281-R289; 17 R386-R389; 18 R411).
-/

namespace Sys2Proof.Machine

/-- An event whose conditions hold takes effect; otherwise nothing happens in this turn. -/
def whenOk (ok : Bool) (s t : State) : Host.Outcome State Fault Refusal := .next (if ok then t else s)

/-! ### Supervisor cores -/

/-- SUPERVISOR_CORE_RESET (17 R386): the Skerry pair resets a stopped supervisor core and reports it. -/
def execSupervisorCoreReset (core : Nat) (s : State) : Host.Outcome State Fault Refusal :=
  whenOk (isSup core && decide ((s.core core).mode = .stopped)) s
    { s.setCore core Core.reset with outbox := s.outbox ++ [.report [BitVec.ofNat 64 core]] }

/-! ### Delivery of a result -/

/-- The output port that a destination names, with its binding. -/
def Core.portOf (k : Core) (d : Dest) : Option (Nat × Binding) :=
  match d with
  | .x r => if 24 ≤ r then (mget k.ports (r - 24)).bind (fun b => if b.output then some (r - 24, b) else none) else none
  | _ => none

/-- Operation `id` of core `c` can deliver to `d`: a port needs an open queue, a credit (09 R218), and a jsn for each
JREC before the operation (16 R359). -/
def State.canDeliver (s : State) (c id : Nat) (d : Dest) : Bool :=
  match (s.core c).portOf d with
  | none => true
  | some (p, b) =>
    s.isOpen b && !(s.core c).recs.any (fun r => decide (r.id < id) && r.trunc.isNone) &&
      (match mget s.queues (s.bindKey b) with | some q => decide (0 < q.creditsOf (.core c p)) | none => false)

/-- Delivers a value to a destination; a bound port pushes it (04 R103). -/
def State.deliver (s : State) (c : Nat) (d : Dest) (v : Vec) : State :=
  match (s.core c).portOf d with
  | none => s.modCore c (fun k => k.put d v)
  | some (p, b) =>
    (s.push (s.bindKey b) (.core c p) [v.setWidth 64] false).modCore c
      (fun k => { k with ports := mset k.ports p { b with last := v.setWidth 64 } })

/-- The destinations that wait for operation `id`. -/
def Core.destsFor (k : Core) (id : Nat) : List Dest := (k.waits.filter (fun w => decide (w.id = id))).map (fun w => w.dest)

/-- The answer to operation `id` arrives: each destination in order takes its value. -/
def State.answer (s : State) (c id : Nat) (vals : List Vec) : State :=
  let ds := (s.core c).destsFor id
  let s := s.modCore c (fun k => { k with waits := k.waits.filter (fun w => decide (w.id ≠ id)) })
  (ds.zip vals).foldl (fun s p => s.deliver c p.1 p.2) s

/-- Every destination of operation `id` can take its value. -/
def State.canAnswer (s : State) (c id : Nat) : Bool := ((s.core c).destsFor id).all (s.canDeliver c id)

/-- The access supplied no data: its destination stays pending with the error (18 R411). -/
def State.answerPoison (s : State) (c id : Nat) (va : Word) : State :=
  let ws := (s.core c).waits
  let ws := if ws.any (fun w => decide (w.id = id)) then
      ws.map (fun w => if w.id = id then { w with err := .memory va } else w)
    else ws ++ [⟨id, .x 0, .memory va⟩]
  s.modCore c (fun k => { k with waits := ws })

/-- RESULT_WRITEBACK (03 R78, 06 R158): a result is usable, and its flags are set. -/
def execResultWriteback (core id : Nat) (s : State) : Host.Outcome State Fault Refusal :=
  match (s.core core).pending.find? (fun p => decide (p.id = id)) with
  | none => .next s
  | some p =>
    let t := s.modCore core (fun k => { k with
      pending := k.pending.filter (fun q => decide (q.id ≠ id))
      yflags := k.yflags ||| p.flags })
    whenOk (decide (p.ready ≤ s.clk) && s.canDeliver core id p.dest) s (t.deliver core p.dest p.value)

/-! ### Accesses at their ports -/

/-- The core's earlier accesses. -/
def Core.before (k : Core) (id : Nat) : List MemOp := k.mem.takeWhile (fun o => decide (o.id ≠ id))

/-- Two accesses share a byte. -/
def MemOp.meets (o p : MemOp) : Bool := p.lanes.any (fun l => o.touches l.1 p.size)

/-- What access `o` must follow has been performed at the scope of the edge, or at scope `at_` where that is narrower: an
earlier acquire, and before a release every earlier access (13 R302). -/
def MemOp.follows (o p : MemOp) (at_ : Scope) : Bool :=
  (match p.acq with | some sc => p.shownAt (scopeMin sc at_) | none => true) &&
    (match o.rel with | some sc => p.shownAt (scopeMin sc at_) | none => true)

/-- Accesses to one byte keep their order, but for a load, which reads through buffered stores (05 R130, 13 R299). -/
def MemOp.crosses (o p : MemOp) : Bool := p.meets o && !(o.isLoad && p.isStore)

/-- The access finds none of its bytes held by another core's (13 R298). -/
def State.bytesFree (s : State) (c : Nat) (o : MemOp) : Bool :=
  !o.lanes.any (fun l => s.shownHolds (some c) (!o.isLoad) l.1 o.size)

/-- An access may be performed: its earliest clk has come, what it follows has been performed, remote operations on its bytes
included (13 R299), and its bytes are free. -/
def State.portReady (s : State) (c : Nat) (o : MemOp) : Bool :=
  let pre := (s.core c).before o.id
  decide (o.ready ≤ s.clk) && pre.all (fun p => o.follows p .sys && !o.crosses p) && s.bytesFree c o &&
    !o.lanes.any (fun l => s.remoteHeld c o.id (s.paOfKey l.1) o.size)

/-- The cluster whose slice a key lies in. -/
def sliceOf (key : Nat) : Option Nat := if paSpace key = 1 then some (paOff key / 2 ^ 20) else none

/-- Gated clusters that an access reaches: it waits for them and wakes them (17 R398, R399). -/
def State.sleepers (s : State) (o : MemOp) : List Nat :=
  (o.lanes.filterMap (fun l => sliceOf l.1)).filter (fun c => decide ((s.cl c).power ≠ .running))

/-- Wakes clusters. -/
def State.wakeAll (s : State) (l : List Nat) : State := l.foldl State.wake s

/-- The bytes of one lane as the core's own access sees them: memory under the core's earlier buffered stores. -/
def State.laneBytes (s : State) (pre : List MemOp) (key n : Nat) : List Byte :=
  pre.foldl (fun bs o => o.overlay key bs) (s.readKey key n)

/-- A lane meets a poisoned line that no earlier store of the core covers. -/
def State.lanePoison (s : State) (key n : Nat) : Bool := decide (paSpace key ≤ 2) && s.isPoisoned key n

/-- The value of a load from the bytes of its lanes (05 R131, 06 R169, R170). -/
def loadValue (kind : MemKind) (size : Nat) (lanes : List (Nat × List Byte)) : Vec :=
  let find (i : Nat) : List Byte := ((lanes.find? (fun l => decide (l.1 = i))).map (fun l => l.2)).getD []
  match kind with
  | .load true => (signExtend size (ofBytes (find 0))).setWidth 1024
  | .load false => BitVec.ofNat 1024 (ofBytes (find 0))
  | .gather t got => ofLanes t ((List.range (laneCount t)).map (fun i =>
      ofBytes (((got.find? (fun l => decide (l.1 = i))).map (fun l => l.2)).getD (find i))))
  | _ => BitVec.ofNat 1024 (ofBytes ((List.range 16).flatMap find))

/-- Removes an access from its core's list. -/
def State.dropOp (s : State) (c id : Nat) : State :=
  s.modCore c (fun k => { k with mem := k.mem.filter (fun o => decide (o.id ≠ id)) })

/-- LOAD_REPLY (05 R130, R131). -/
def execLoadReply (core id : Nat) (s : State) : Host.Outcome State Fault Refusal :=
  match (s.core core).mem.find? (fun o => decide (o.id = id)) with
  | none => .next s
  | some o =>
    let pre := (s.core core).before id
    if !(o.isLoad && s.portReady core o) then .next s
    else if !(s.sleepers o).isEmpty then .next (s.wakeAll (s.sleepers o))
    else if o.lanes.any (fun l => s.lanePoison l.1 o.size) then .next ((s.dropOp core id).answerPoison core id o.va)
    else
      let v := loadValue o.kind o.size (o.lanes.map (fun l => (l.2, s.laneBytes pre l.1 o.size)))
      whenOk (s.canAnswer core id) s ((s.dropOp core id).answer core id [v])

/-- A store to the core's own code: until a FENCE, fetch may return the old word (12 R289). -/
def State.noteStale (s : State) (c key n : Nat) : State :=
  if key / 65536 = localKey c 0 / 65536 then
    let off := key % 65536
    let old (w : Nat) : InstrWord := BitVec.ofNat 32 (ofBytes (memRead s.mem (localKey c (4 * w)) 4))
    let words := (List.range ((off + n - 1) / 4 - off / 4 + 1)).map (fun i => off / 4 + i)
    let st := words.foldl (fun m w => if (mget m w).isSome then m else mset m w (old w)) (s.core c).stale
    s.modCore c (fun k => { k with stale := st })
  else s

/-- One write of a core at a key of any space; a device register's write follows as its own event (18 R418). -/
def State.writeKey (s : State) (key : Nat) (bs : List Byte) : State :=
  let off := key % 2 ^ 48
  if paSpace key = 3 then
    { s with turns := .unit (.deviceRegisterWrite (off / 8 * 8) (mergeWord (s.deviceRead (off / 8 * 8)) off bs)) :: s.turns }
  else if paSpace key = 4 then s.journalWrite (off / 8 * 8) (mergeWord (s.journalRead (off / 8 * 8)) off bs)
  else s.writeOnce key bs

/-- A store's bytes reach memory. A VST is one write operation, a VSCAT one a lane, in ascending order (18 R411, 06 R170). -/
def State.storeAt (s : State) (c : Nat) (o : MemOp) (parts : List (List Byte)) : State :=
  let s := o.lanes.foldl (fun s l => s.noteStale c l.1 o.size) s
  let ws := (o.lanes.zip parts).map (fun p => (p.1.1, p.2))
  if o.lanes.length = 16 ∧ o.size = 8 then s.writeParts ws else ws.foldl (fun s w => s.writeKey w.1 w.2) s

/-- STORE_DRAIN (05 R130). -/
def execStoreDrain (core id : Nat) (s : State) : Host.Outcome State Fault Refusal :=
  match (s.core core).mem.find? (fun o => decide (o.id = id)) with
  | none => .next s
  | some o => match o.kind with
    | .store parts =>
      if !(s.sleepers o).isEmpty then .next (if s.portReady core o then s.wakeAll (s.sleepers o) else s)
      else whenOk (s.portReady core o) s ((s.dropOp core id).storeAt core o parts)
    | _ => .next s

/-! ### Lanes by themselves, and scopes (06 R171, 13 R298, R304) -/

/-- The access without one of its lanes: a gather keeps the bytes it read, a scatter drops what it has written. -/
def MemOp.without (o : MemOp) (lane : Nat) (bs : List Byte) : MemOp :=
  match o.kind with
  | .gather t got => { o with kind := .gather t (got ++ [(lane, bs)]), lanes := o.lanes.filter (fun l => decide (l.2 ≠ lane)) }
  | .store parts => { o with
      kind := .store (((o.lanes.zip parts).filter (fun p => decide (p.1.2 ≠ lane))).map (fun p => p.2))
      lanes := o.lanes.filter (fun l => decide (l.2 ≠ lane)) }
  | _ => o

/-- Replaces an access in its core's list. -/
def State.setOp (s : State) (c : Nat) (o : MemOp) : State :=
  s.modCore c (fun k => { k with mem := k.mem.map (fun p => if p.id = o.id then o else p) })

/-- One lane of a VGATH or VSCAT is performed before the others (06 R171), in ascending order where two lanes of a VSCAT name
one byte (R170). The last lane is left to the access's own step. -/
def execLaneAccess (core id lane : Nat) (s : State) : Host.Outcome State Fault Refusal :=
  match (s.core core).mem.find? (fun o => decide (o.id = id)) with
  | none => .next s
  | some o =>
    match o.lanes.find? (fun l => decide (l.2 = lane)) with
    | none => .next s
    | some l =>
      let one : MemOp := { o with lanes := [l] }
      let lanewise := match o.kind with | .gather _ _ => true | .store _ => decide (o.lanes.length ≠ 16 ∨ o.size ≠ 8) | _ => false
      let free := decide (2 ≤ o.lanes.length) && s.portReady core one && (s.sleepers one).isEmpty && !s.lanePoison l.1 o.size &&
        !(o.isStore && o.lanes.any (fun m => decide (m.2 < lane) && overlaps m.1 o.size l.1 o.size))
      match o.kind with
      | .store parts =>
        let bs := (((o.lanes.zip parts).find? (fun p => decide (p.1.2 = lane))).map (fun p => p.2)).getD []
        whenOk (lanewise && free) s ((s.setOp core (o.without lane [])).storeAt core one [bs])
      | _ => whenOk (lanewise && free) s (s.setOp core (o.without lane (s.laneBytes ((s.core core).before id) l.1 o.size)))

/-- An access comes to count as performed at a scope narrower than the system's, ahead of its port: what it follows at that
scope counts so too, and one core at a time has such accesses. From then on the agents of the scope's instance find its bytes
held until its port takes it, and agents outside see it only then (13 R298, R304; log 31). -/
def execShowAccess (core id : Nat) (sc : Scope) (s : State) : Host.Outcome State Fault Refusal :=
  match (s.core core).mem.find? (fun o => decide (o.id = id)) with
  | none => .next s
  | some o =>
    let alone := match s.showing with
      | none => true
      | some c => decide (c = core) || (s.core c).mem.all (fun p => p.shown.isNone)
    let pre := (s.core core).before id
    whenOk (decide (sc ≠ .sys) && !o.shownAt sc && o.lanes.all (fun l => decide (paSpace l.1 ≤ 1)) && alone && s.bytesFree core o &&
        pre.all (fun p => o.follows p sc && !p.meets o)) s
      ({ s with showing := some core } |>.setOp core { o with shown := some sc })

/-! ### Atomics (05 R138-R140) -/

/-- A number of `n` bytes read as signed. -/
def asSigned (n v : Nat) : Int := if v < 2 ^ (8 * n - 1) then v else (v : Int) - 2 ^ (8 * n)

/-- AMO's new value (05 R138). -/
def amoNew (op : AmoOp) (n old v : Nat) : Nat :=
  match op with
  | .add => (old + v) % 2 ^ (8 * n)
  | .and => old &&& v
  | .or => old ||| v
  | .xor => old ^^^ v
  | .min => if asSigned n v < asSigned n old then v else old
  | .max => if asSigned n old < asSigned n v then v else old
  | .minu => min old v
  | .maxu => max old v
  | .swap => v

/-- What an atomic writes, if it writes, and the values it returns. -/
def atomicResult (kind : MemKind) (n old : Nat) : Option Nat × List Vec :=
  let low (w : Word) : Nat := w.toNat % 2 ^ (8 * n)
  let ret : List Vec := [(signExtend n old).setWidth 1024]
  match kind with
  | .amo op v => (some (amoNew op n old (low v)), ret)
  | .cas cmp new => (if old = low cmp then some (low new) else none, ret)
  | .casq cmp new => (if old = cmp.toNat then some new.toNat else none,
      [BitVec.ofNat 1024 (old % 2 ^ 64), BitVec.ofNat 1024 (old / 2 ^ 64)])
  | .famo half v => (some (famoSum half old (low v)), [BitVec.ofNat 1024 old])
  | _ => (none, [])

/-- A CAS or CASQ that compares unequal makes no release edge (05 R139, 13 R309). -/
def State.failsCompare (s : State) (o : MemOp) : Bool :=
  match o.lanes with
  | l :: _ => (match o.kind with
    | .cas _ _ => (atomicResult o.kind o.size (ofBytes (s.readKey l.1 o.size))).1.isNone
    | .casq _ _ => (atomicResult o.kind o.size (ofBytes (s.readKey l.1 o.size))).1.isNone
    | _ => false)
  | [] => false

/-- ATOMIC_AT_PORT (05 R136): the read and the write are one step. -/
def execAtomicAtPort (core id : Nat) (s : State) : Host.Outcome State Fault Refusal :=
  match (s.core core).mem.find? (fun o => decide (o.id = id)) with
  | none => .next s
  | some o =>
    let key := (o.lanes.head?.map (fun l => l.1)).getD 0
    if !(o.isAtomic && s.portReady core (if s.failsCompare o then { o with rel := none } else o)) then .next s
    else if !(s.sleepers o).isEmpty then .next (s.wakeAll (s.sleepers o))
    else if s.lanePoison key o.size then .next ((s.dropOp core id).answerPoison core id o.va)
    else
      let (new, rets) := atomicResult o.kind o.size (ofBytes (s.readKey key o.size))
      let t := match new with
        | some v => (s.noteStale core key o.size).writeKey key (leBytes o.size v)
        | none => s
      whenOk (s.canAnswer core id) s ((t.dropOp core id).answer core id rets)

/-! ### Walks and invalidations (12 R287, R288) -/

/-- The walks of one page. -/
def State.walksOf (s : State) (part va : Nat) : List Walk :=
  s.walks.filter (fun w => decide (w.part = part) && decide (w.va / 65536 = va / 65536))

/-- Distinct pages of walks, in order of arrival. -/
def pagesOf : List Walk → List (Nat × Nat) → List (Nat × Nat)
  | [], l => l
  | w :: r, l => pagesOf r (if l.contains (w.part, w.va / 65536) then l else l ++ [(w.part, w.va / 65536)])

/-- The walk is among the 32 that its die runs. -/
def State.walkRuns (s : State) (cluster part va : Nat) : Bool :=
  ((pagesOf (s.walks.filter (fun w => decide (dieOf w.cluster = dieOf cluster))) []).take 32).contains (part, va / 65536)

/-- PAGE_WALK: a walk ends; all misses of its page share it. -/
def execPageWalk (cluster part va : Nat) (s : State) : Host.Outcome State Fault Refusal :=
  let ws := s.walksOf part va
  let t := { s with walks := s.walks.filter (fun w => !(decide (w.part = part) && decide (w.va / 65536 = va / 65536))) }
  let ends : State := match s.walkTable part va with
    | .leaf key log2 _ => ws.foldl (fun t w =>
        t.installLeaf w.cluster part w.va key log2 (ofBytes (memRead t.mem key 8)) w.write) t
    | .absent => ws.foldl (fun (t : State) w => w.waiters.foldl (fun t c =>
        t.modCore c (fun k => { k with absent := some (va / 65536) })) { t with absents := t.absents ++ w.clients.map (fun i => (i, va / 65536)) }) t
  whenOk (ws.any (fun w => decide (w.cluster = cluster)) && s.walkRuns cluster part va) s ends

/-- A virtual range and another share a byte; both are first and last byte. -/
def meetsRange (lo hi a b : Nat) : Bool := decide (lo ≤ b) && decide (a ≤ hi)

/-- Cached entries of a partition meet a range. -/
def TlbEntry.meets (e : TlbEntry) (part lo hi : Nat) : Bool :=
  decide (e.part = part) && meetsRange lo hi (e.vpage * 2 ^ e.log2) (e.vpage * 2 ^ e.log2 + 2 ^ e.log2 - 1)

/-- An entry that covers an address of cluster `cl` is one that an invalidation drops: the address lies in the range, or in a
larger page that meets it. -/
def State.dropsVa (s : State) (cl part lo hi va : Nat) : Bool :=
  meetsRange lo hi (va / 65536 * 65536) (va / 65536 * 65536 + 65535) ||
    (s.cl cl).tlb.any (fun e => e.meets part lo hi && decide (va >>> e.log2 = e.vpage))

/-- A round has used an entry that an invalidation drops. -/
def State.dropsRound (s : State) (cl part lo hi : Nat) (r : Round) : Bool :=
  r.got.any (fun p => s.dropsVa cl part lo hi (p.1 / 2 * 65536))

/-- A round can be given up and started again: none of its bytes has left (05 R148). -/
def Round.isOpen (r : Round) : Bool :=
  match r.stage with | .index => true | .read => true | .full => true | .leave => true | _ => false

/-- Gives up the rounds of a copy from the first that can be and that a test names; the next round starts there again. -/
def CopyCmd.giveUp (c : CopyCmd) (bad : Round → Bool) : CopyCmd :=
  if c.isRemote then c
  else match c.rounds.find? (fun r => r.isOpen && bad r) with
    | some r => { c with pos := r.pos, carry := r.carry, rounds := c.rounds.filter (fun q => decide (q.pos < r.pos)) }
    | none => c

/-- A translation is in use in the range: an access not yet performed, a round that writes, a remote operation on its way. A
round that has only read rewinds instead. -/
def State.inUse (s : State) (part lo hi : Nat) : Bool :=
  s.cores.any (fun p => decide (s.partOf p.1 = part) &&
    (p.2.mem.any (fun o => o.vas.any (fun va => s.dropsVa (clusterOf p.1) part lo hi va.toNat)) ||
      p.2.copies.any (fun c => c.rounds.any (fun r => (c.isRemote || !r.isOpen) && s.dropsRound (clusterOf p.1) part lo hi r))))

/-- Drops every cached entry and walk of a range, and rewinds the rounds that used one (12 R288, R292). -/
def State.invalidate (s : State) (part lo hi : Nat) : State :=
  { s with
    clusters := s.clusters.map (fun p => (p.1, { p.2 with tlb := p.2.tlb.filter (fun e => !e.meets part lo hi) }))
    hosts := s.hosts.map (fun p => (p.1, { p.2 with tlb := p.2.tlb.filter (fun e => !e.meets part lo hi) }))
    cores := s.cores.map (fun p => (p.1, if s.partOf p.1 = part then
        { p.2 with copies := p.2.copies.map (fun c => c.giveUp (s.dropsRound (clusterOf p.1) part lo hi)) } else p.2))
    engines := s.engines.map (fun g => (g.1, { g.2 with
      slots := g.2.slots.map (fun q => (q.1, if q.2.part = part then { q.2 with got := [] } else q.2)) }))
    walks := s.walks.filter (fun w => !(decide (w.part = part) && meetsRange lo hi w.va w.va)) }

/-- INVALIDATION: it completes once nothing uses an entry of the range (12 R288). -/
def execInvalidation (part lo hi : Nat) (s : State) : Host.Outcome State Fault Refusal :=
  whenOk (!s.inUse part lo hi) s (s.invalidate part lo hi)

/-! ### Paging (17 R387-R389) -/

/-- The key of the level-0 entry of an address: every table above it is present. -/
def State.levelZero (s : State) (part va : Nat) : Option Nat :=
  let rec go : List (Nat × Nat × Nat) → Nat → Option Nat
    | [], base => some (memKey 0 (base + 8 * bitsAt va 16 5))
    | (level, lo, n) :: rest, base =>
      let e := ofBytes (memRead s.mem (memKey 0 (base + 8 * bitsAt va lo n)) 8)
      if e % 2 = 0 || malformed s.chip.toNat level e || bitsAt e 1 1 = 1 then none else go rest (paOff (e / 4096 * 4096))
  go [(4, 48, 9), (3, 39, 9), (2, 30, 9), (1, 21, 9)] (s.rootOf part)

/-- Every HBM stack is ready (18 R416). -/
def State.hbmReady (s : State) : Bool := decide (bitsAt s.ready.toNat 8 8 = 255)

/-- PAGE_IN (17 R387): the page's bytes are in place before V is set; the rights that the absent entry keeps in their
bits hold (log 13). -/
def execPageIn (part va frame : Nat) (s : State) : Host.Outcome State Fault Refusal :=
  let pa := frame / 65536 * 65536 % 2 ^ 48
  match s.levelZero part va with
  | none => .next s
  | some key =>
    let e := ofBytes (memRead s.mem key 8)
    let cells := ((s.far.find? (fun f => decide (f.part = part) && decide (f.va = va / 65536 * 65536))).map (fun f => f.cells)).getD []
    let entry := s.chip.toNat * 2 ^ 52 + pa + (e &&& 0x2c) + 3
    let m := memPut (memClear s.mem (memKey 0 pa) 65536) (memKey 0 pa) cells
    whenOk (decide (e % 2 = 0) && s.hbmReady && decide (pa + 65536 ≤ 384 * 2 ^ 30) &&
        !(decide (key < memKey 0 pa + 65536) && decide (memKey 0 pa ≤ key))) s
      { s with mem := memWrite m key (leBytes 8 entry)
               poison := s.poison.filter (fun l => !overlaps (l * 32) 32 (memKey 0 pa) 65536) }

/-- An open stream window of the partition intersects a page (17 R389). -/
def State.windowOver (s : State) (part lo : Nat) : Bool :=
  s.cores.any (fun p => decide (s.partOf p.1 = part) &&
    p.2.copies.any (fun c => c.hasWindow && meetsRange lo (lo + 65535) c.low.toNat c.high.toNat))

/-- EVICTION (17 R389): a page that no open window intersects is written back if dirty, its V cleared, and an
invalidation runs. Which page goes is Lemnani's order, the event's argument (log 14). -/
def execEviction (part va : Nat) (s : State) : Host.Outcome State Fault Refusal :=
  let page := va / 65536 * 65536
  match s.levelZero part va with
  | none => .next s
  | some key =>
    let e := ofBytes (memRead s.mem key 8)
    let pa := e / 4096 * 4096
    let cells := memSlice s.mem (paKey pa) 65536
    let far := if bitsAt e 7 1 = 1 then
        ⟨part, page, cells⟩ :: s.far.filter (fun f => !(decide (f.part = part) && decide (f.va = page)))
      else s.far
    let t := { s with mem := memWrite s.mem key (leBytes 8 (e - e % 2)), far := far }
    whenOk (decide (e % 4 = 3) && !malformed s.chip.toNat 0 e && decide (paChip pa = s.chip.toNat) && decide (paSpace pa = 0) &&
        !s.windowOver part page && !s.inUse part page (page + 65535)) s
      (t.invalidate part page (page + 65535))

end Sys2Proof.Machine
end

