-- ==== Sys2Proof/Machine/CopyEngine.lean ====
section
/-!
DEFINITION. The copy engine at work: commands taken up, rounds, voided rounds, completion and failure (05 R141-R151, 12
R292, R293), templates (R152, R153), and remote operations as their source sees them (R143, R144).
-/

namespace Sys2Proof.Machine

/-! ### Commands of a core -/

/-- The command with an identifier. -/
def Core.copyOf (k : Core) (id : Nat) : Option CopyCmd := k.copies.find? (fun c => decide (c.id = id))

/-- Changes a command. -/
def State.modCopy (s : State) (c id : Nat) (f : CopyCmd → CopyCmd) : State :=
  s.modCore c (fun k => { k with copies := k.copies.map (fun x => if x.id = id then f x else x) })

/-- Removes a command. -/
def State.dropCopy (s : State) (c id : Nat) : State :=
  s.modCore c (fun k => { k with copies := k.copies.filter (fun x => decide (x.id ≠ id)) })

/-- Commands in flight. -/
def Core.flying (k : Core) : Nat := (k.copies.filter (fun c => decide (c.phase ≠ .queued))).length

/-- Pulls of messages that run for a core (15 R340). -/
def State.pullsOf (s : State) (c : Nat) : Nat :=
  (s.engines.map (fun g => (g.2.slots.filter (fun p => p.2.pulling && decide (p.2.core = c))).length)).sum

/-- A firing takes a footprint entry when the engine takes it up (05 R153). -/
def CopyCmd.takesFoot (c : CopyCmd) : Bool := c.template.isSome && decide (c.total ≠ 0)

/-- COPY_ENGINE_ACCEPT (05 R141, R153; 15 R340): the engine takes the next command while it holds fewer than 64, pulls
included; a firing that finds no footprint entry free waits, and the commands behind it go on. -/
def execCopyEngineAccept (core : Nat) (s : State) : Host.Outcome State Fault Refusal :=
  if !(s.awakeAt core) then .next s else
  let k := s.core core
  match k.copies.find? (fun c => decide (c.phase = .queued) && (!c.takesFoot || decide (k.foot.length < 16))) with
  | none => .next s
  | some c =>
    let empty := decide (c.total = 0) && (match c.kind with | .carm => false | .remote _ => false | _ => true)
    let foot := if c.takesFoot then k.foot ++ [⟨c.id, c.extents.1, c.extents.2⟩] else k.foot
    whenOk (decide (k.flying + s.pullsOf core < 64)) s
      ((s.modCopy core c.id (fun c => { c with phase := if empty then .finished else .flying, since := s.clk })).modCore core
        (fun k => { k with foot := foot }))

/-! ### Failure (05 R142, R153) -/

/-- The party that a template's done pushes are made as: the core's binding 16 + t (05 R153). -/
def templateParty (c t : Nat) : Party := .core c (16 + t)

/-- Disarms a template and gives up its binding to the done queue. -/
def State.disarmAt (s : State) (c t : Nat) : State :=
  match mget (s.core c).templates t with
  | none => s
  | some p => (s.modQ p.done (fun q => q.endBinding (templateParty c t))).modCore c
      (fun k => { k with templates := mdel k.templates t })

/-- A firing fails: the template is disarmed and a fault item tells its number, status and item (05 R153). -/
def State.failTemplate (s : State) (c t status : Nat) (item : List Word) : State :=
  (s.disarmAt c t).sendEvent c .templateFailed 0 (item.headD 0) (status * 65536 + t)

/-- A pending destination receives 0, and a pair that reads it raises the failure (05 R142). -/
def State.failDest (s : State) (c id token : Nat) : State :=
  ((s.core c).destsFor id).foldl (fun s d =>
    if ((s.core c).portOf d).isSome && s.canDeliver c id d then
      (s.modCore c (fun k => { k with waits := k.waits.filter (fun w => decide (w.id ≠ id)) })).deliver c d 0
    else
      let ws := (s.core c).waits.map (fun w => if w.id = id then { w with err := .failed token } else w)
      s.modCore c (fun k => { k.put d 0 with waits := ws })) s

/-- Ring slots that a round reserved and has not filled are given back (05 R149). -/
def State.unreserve (s : State) (c : Nat) (cmd : CopyCmd) : State :=
  if cmd.kind = .cpys then
    let h := s.handle c cmd.ring
    s.setHandle c cmd.ring { h with resv := h.resv - (cmd.rounds.map (fun r => r.left.length)).sum }
  else s

/-- A command fails after issue. -/
def State.failCopy (s : State) (c : Nat) (cmd : CopyCmd) (status : Nat) (addr : Word) : State :=
  let t := (s.unreserve c cmd).dropCopy c cmd.id
  match cmd.template with
  | some (n, item) => (t.modCore c (fun k => k.footFree cmd.id)).failTemplate c n status item
  | none => (t.failDest c cmd.id cmd.token).modCore c (fun k => k.failCommand cmd.id cmd.token status addr cmd.word)

/-! ### Runs of a round: offset in the round, virtual address, length -/

/-- A virtual address modulo 2⁶⁴. -/
def wrapVa (i : Int) : Nat := (i % (2 ^ 64 : Nat)).toNat

/-- Rows of a geometry from stream byte p on. -/
def geoRuns (base : Nat) (g : Word) : Nat → Nat → Nat → Nat → List (Nat × Nat × Nat)
  | 0, _, _, _ => []
  | f + 1, p, off, n =>
    if n = 0 then []
    else
      let b := geoBytes g
      let m := min n (b - p % b)
      (off, (base + p / b * geoPitch g + p % b) % 2 ^ 64, m) :: geoRuns base g f (p + m) (off + m) (n - m)

/-- Bytes of a whole round (05 R148). -/
def CopyCmd.roundBytes (c : CopyCmd) : Nat :=
  match c.kind with
  | .cpyi => max (4096 / cpyiBytes c.b1) 1 * cpyiBytes c.b1
  | .cpys => 4096 / c.rh.slot * c.rh.slot
  | _ => 4096

/-- Bytes of the round that starts next. -/
def CopyCmd.roundLen (c : CopyCmd) : Nat := min c.roundBytes (c.total - c.pos)

/-- A round as it starts. -/
def CopyCmd.nextRound (c : CopyCmd) : Round :=
  { pos := c.pos, len := c.roundLen, stage := if c.kind = .cpyi then .index else .read, asked := false, got := [], need := [],
    idx := [], buf := [], carry := c.carry, left := [] }

/-- The index words that a round reads. -/
def CopyCmd.indexRuns (c : CopyCmd) (r : Round) : List (Nat × Nat × Nat) :=
  let e := cpyiBytes c.b1
  [(0, (c.a1.toNat + 4 * (r.pos / e)) % 2 ^ 64, 4 * (r.len / e))]

/-- The source bytes that a round reads. -/
def CopyCmd.sourceRuns (c : CopyCmd) (r : Round) : List (Nat × Nat × Nat) :=
  match c.kind with
  | .cpy => [(0, (c.a0.toNat + r.pos) % 2 ^ 64, r.len)]
  | .cpy2 => geoRuns c.a0.toNat c.a1 r.len r.pos 0 r.len
  | .cpyi =>
    let e := cpyiBytes c.b1
    (List.range (r.len / e)).map (fun i => (i * e, (c.a0.toNat + ofBytes ((r.idx.drop (4 * i)).take 4) * e) % 2 ^ 64, e))
  | .cpys =>
    let z := c.rh.slot
    (List.range (r.len / z)).map (fun i => (i * z, wrapVa (c.a0.toNat + ((r.pos / z + i : Nat) : Int) * cpysStride c.a1), z))
  | _ => []

/-- The ring slot that a CPYS fills next: one slot at the write position (05 R149). -/
def CopyCmd.slotRun (c : CopyCmd) (h : RingH) (off : Nat) : List (Nat × Nat × Nat) :=
  [(off, (c.rh.slotAddr h.wpos.toNat).toNat, c.rh.slot)]

/-- The destination bytes that a round writes; of a CPYS, all its slots from the write position on. -/
def CopyCmd.destRuns (c : CopyCmd) (h : RingH) (r : Round) : List (Nat × Nat × Nat) :=
  match c.kind with
  | .cpy2 => geoRuns c.b0.toNat c.b1 r.len r.pos 0 r.len
  | .cpys => (List.range (r.len / c.rh.slot)).map (fun i => (i * c.rh.slot, (c.rh.slotAddr (h.wpos.toNat + i)).toNat, c.rh.slot))
  | _ => [(0, (c.b0.toNat + r.pos) % 2 ^ 64, r.len)]

/-- The part of a run in each 64 KiB page. -/
def splitRun (r : Nat × Nat × Nat) : List (Nat × Nat × Nat) :=
  let m := 65536 - r.2.1 % 65536
  if r.2.2 ≤ m then [r] else [(r.1, r.2.1, m), (r.1 + m, (r.2.1 + m) % 2 ^ 64, r.2.2 - m)]

/-- What the translation of runs gives: offset, physical address and length of each part; a walk to wait for; a page that is
absent; or a failure. -/
inductive Got where
  | ok (parts : List (Nat × Nat × Nat))
  | wait
  | absent (va : Nat)
  | bad (status va : Nat)
  deriving DecidableEq, Repr

/-- The kinds of target that a copy may reach (05 R128, 10 R258, R259). -/
def targetOk (va pa : Nat) (aperture : Bool) : Bool :=
  (match placeOf (BitVec.ofNat 64 va) with | .own _ => true | _ => false) || decide (paSpace pa ≤ 1) ||
    (aperture && decide (paSpace pa = 5) && decide (paOff pa < 2 ^ 35))

/-- Translates runs in order. -/
def State.translateRuns (s : State) (who : Client) (c : Nat) (needR needW aperture : Bool) :
    List (Nat × Nat × Nat) → FMap Nat → Got × FMap Nat × State
  | [], got => (.ok [], got, s)
  | r :: rest, got =>
    match s.pageFor who c got needR needW r.2.1 with
    | (.wait, got, t) => (.wait, got, t)
    | (.absent, got, t) => (.absent r.2.1, got, t)
    | (.bad f, got, t) => (.bad f.status r.2.1, got, t)
    | (.ok pa, got, t) =>
      if !targetOk r.2.1 pa aperture then (.bad 5 r.2.1, got, t)
      else match t.translateRuns who c needR needW aperture rest got with
        | (.ok ps, got, u) => (.ok ((r.1, pa, r.2.2) :: ps), got, u)
        | x => x

/-- Runs to parts, cut at pages. -/
def State.partsOf (s : State) (who : Client) (c : Nat) (got : FMap Nat) (needR needW aperture : Bool) (runs : List (Nat × Nat × Nat)) :
    Got × FMap Nat × State :=
  s.translateRuns who c needR needW aperture ((runs.filter (fun r => decide (r.2.2 ≠ 0))).flatMap splitRun) got

/-! ### Parts on other chips (05 R143, 15 R348, R354) -/

/-- A part lies on this chip. -/
def State.isHere (s : State) (pa : Nat) : Bool := decide (paChip pa = s.chip.toNat)

/-- Chunks of a part that end at 64-byte boundaries, so that no 8-byte unit is cut (12 R293, 15 R349): offset and length. -/
def chunks (pa : Nat) : Nat → Nat → Nat → List (Nat × Nat)
  | 0, _, _ => []
  | f + 1, off, n =>
    if n = 0 then []
    else
      let m := min n (64 - (pa + off) % 64)
      (off, m) :: chunks pa f (off + m) (n - m)

/-- What another chip is asked of a part: offset in the round, address, length. A copy asks leave for a whole part. -/
def askSizes (op : RemOp) (p : Nat × Nat × Nat) : List (Nat × Nat × Nat) :=
  if op = .copyLeave then [p] else (chunks p.2.1 p.2.2 0 p.2.2).map (fun ch => (p.1 + ch.1, p.2.1 + ch.1, ch.2))

/-- A request of a copy of core `c`. -/
def State.copyAsk (s : State) (c : Nat) (op : RemOp) (pa size : Nat) (data cmp : Word) (bytes : List Byte) : RemReq :=
  let k := s.cl (clusterOf c)
  { srcChip := s.chip.toNat, srcPart := k.part, srcInc := s.inc.toNat, gen := k.gen, core := c, tag := s.nextId,
    op := op, addr := pa, data := data, cmp := cmp, size := size, bytes := bytes }

/-- Sends a request, and notes what is to be answered. -/
def State.sendAsk (s : State) (r : RemReq) (off : Nat) : Need × State :=
  let t : State := { s with nextId := s.nextId + 1 }
  (⟨r.tag, paChip r.addr, off, r.size⟩, t.sendFlit (t.flitTo (paChip r.addr) r.srcPart 0 r.gen (.request r)))

/-- Sends the requests for the parts that lie on other chips; each takes a tag. -/
def State.askParts (s : State) (c : Nat) (op : RemOp) (buf : List Byte) (parts : List (Nat × Nat × Nat)) : List Need × State :=
  ((parts.filter (fun p => !s.isHere p.2.1)).flatMap (askSizes op)).foldl (fun (acc : List Need × State) a =>
    let (need, t) := acc.2.sendAsk (acc.2.copyAsk c op a.2.1 a.2.2 0 0 (if op = .copyWrite then (buf.drop a.1).take a.2.2 else [])) a.1
    (acc.1 ++ [need], t)) ([], s)

/-- The first part on a chip that no route reaches. -/
def State.linkDown (s : State) (parts : List (Nat × Nat × Nat)) : Option Nat :=
  (parts.find? (fun p => !s.isHere p.2.1 && (s.egressPort (paChip p.2.1)).isNone)).map (fun p => p.1)

/-! ### Reading a round (05 R148, 12 R293) -/

/-- The keys of parts on this chip. -/
def State.keysOf (s : State) (parts : List (Nat × Nat × Nat)) : List (Nat × Nat) :=
  (parts.filter (fun p => s.isHere p.2.1)).map (fun p => (paKey p.2.1, p.2.2))

/-- The bytes of parts in order; those of other chips are filled in by their replies. -/
def State.readParts (s : State) (c : Nat) (parts : List (Nat × Nat × Nat)) : List Byte :=
  parts.flatMap (fun p => if s.isHere p.2.1 then s.readOwn c (paKey p.2.1) p.2.2 else List.replicate p.2.2 0)

/-- The first part that meets a poisoned line. -/
def State.poisonIn (s : State) (parts : List (Nat × Nat × Nat)) : Option Nat :=
  (parts.find? (fun p => s.isHere p.2.1 && s.isPoisoned (paKey p.2.1) p.2.2)).map (fun p => p.1)

/-- The virtual address of a round's byte. -/
def vaAt (runs : List (Nat × Nat × Nat)) (off : Nat) : Word :=
  match runs.find? (fun r => decide (r.1 ≤ off) && decide (off < r.1 + r.2.2)) with
  | some r => BitVec.ofNat 64 (r.2.1 + (off - r.1))
  | none => 0

/-- The virtual address of a byte that a round is asking for: of its index words, its source or its destination. -/
def CopyCmd.askedVa (c : CopyCmd) (h : RingH) (r : Round) (off : Nat) : Word :=
  if c.isRemote then c.a0
  else match r.stage with
    | .index => vaAt (c.indexRuns r) off
    | .read => vaAt (c.sourceRuns r) off
    | _ => vaAt (c.destRuns h r) off

/-- Bytes that the round before read at an address and after it replace those just read: a unit is read once (12 R293). -/
def Round.carried (r : Round) (va : Nat) (bs : List Byte) : List Byte :=
  bs.zipIdx.map (fun (b, i) =>
    if r.carry.1 ≤ va + i ∧ va + i < r.carry.1 + r.carry.2.length then r.carry.2.getD (va + i - r.carry.1) b else b)

/-- The source bytes, with those that the round before had read already. -/
def carryRuns (r : Round) (runs : List (Nat × Nat × Nat)) (buf : List Byte) : List Byte :=
  runs.flatMap (fun x => r.carried x.2.1 ((buf.drop x.1).take x.2.2))

/-- What remains of the 8-byte unit in which a round's source ends and the next round's begins: address and length (12 R293). -/
def CopyCmd.tail (c : CopyCmd) (r : Round) : Nat × Nat :=
  match (c.sourceRuns r).getLast?, (c.sourceRuns { r with pos := r.pos + r.len, len := min 8 (c.total - (r.pos + r.len)) }).head? with
  | some x, some y =>
    let stop := x.2.1 + x.2.2
    if y.2.1 = stop ∧ (c.kind = .cpy ∨ c.kind = .cpy2) then (stop, min ((8 - stop % 8) % 8) y.2.2) else (stop, 0)
  | _, _ => (0, 0)

/-- Changes one round of a command. -/
def State.modRound (s : State) (c id pos : Nat) (f : Round → Round) : State :=
  s.modCopy c id (fun x => { x with rounds := x.rounds.map (fun r => if r.pos = pos then f r else r) })

/-- A page is absent: the round and those behind it are given up, and a fault item names the address; the command's next round
starts at the position recorded for it (05 R148, 12 R292). -/
def State.voidRound (s : State) (c : Nat) (cmd : CopyCmd) (r : Round) (va : Nat) : State :=
  (s.modCopy c cmd.id (fun x => { x with
    phase := .voided, missing := BitVec.ofNat 64 va, pos := r.pos, carry := r.carry
    rounds := x.rounds.filter (fun q => decide (q.pos < r.pos)) })).sendEvent c .roundVoided cmd.pc (BitVec.ofNat 64 va) 0

/-- No round of the command stands before this one. -/
def CopyCmd.isFirst (c : CopyCmd) (r : Round) : Bool := c.rounds.all (fun q => decide (r.pos ≤ q.pos))

/-- A round fails, once the rounds before it have been written (05 R148). -/
def State.failRound (s : State) (c : Nat) (cmd : CopyCmd) (r : Round) (status : Nat) (va : Word) : State :=
  if cmd.isFirst r then s.failCopy c cmd status va else s

/-- Reads the parts of runs for a round: the bytes, and what other chips are still to answer; or what comes instead. -/
def State.fetchRuns (s : State) (c : Nat) (cmd : CopyCmd) (r : Round) (runs : List (Nat × Nat × Nat)) :
    Option (List Byte × List Need) × State :=
  match s.partsOf (.command cmd.id) c r.got true false false runs with
  | (.wait, got, t) => (none, t.modRound c cmd.id r.pos (fun r => { r with got := got }))
  | (.absent va, _, t) => (none, t.voidRound c cmd r va)
  | (.bad st va, _, t) => (none, t.failRound c cmd r st (BitVec.ofNat 64 va))
  | (.ok parts, got, t) =>
    let t := t.modRound c cmd.id r.pos (fun r => { r with got := got })
    if t.accessHeld c cmd.id false (t.keysOf parts) then (none, t)
    else match t.linkDown parts, t.poisonIn parts with
      | some off, _ => (none, t.failRound c cmd r 7 (vaAt runs off))
      | none, some off => (none, t.failRound c cmd r 13 (vaAt runs off))
      | none, none =>
        let bs := t.readParts c parts
        let (needs, u) := t.askParts c .copyRead [] parts
        (some (bs, needs), u)

/-- Whether the destination's pages are translated too; a CPYS's slots are named only when they are written. -/
def State.translateDest (s : State) (c : Nat) (cmd : CopyCmd) (r : Round) : Got × FMap Nat × State :=
  if cmd.kind = .cpys then (.ok [], r.got, s)
  else s.partsOf (.command cmd.id) c r.got false true (decide (cmd.kind = .cpy)) (cmd.destRuns RingH.invalid r)

/-- Reads the index words of a CPYI's round. -/
def State.readIndex (s : State) (c : Nat) (cmd : CopyCmd) (r : Round) : State :=
  if r.asked then
    (if r.need.isEmpty then s.modRound c cmd.id r.pos (fun r => { r with stage := .read, asked := false }) else s)
  else match s.fetchRuns c cmd r (cmd.indexRuns r) with
    | (none, t) => t
    | (some (bs, needs), t) => t.modRound c cmd.id r.pos (fun r =>
        if needs.isEmpty then { r with stage := .read, idx := bs } else { r with asked := true, need := needs, idx := bs })

/-- A round's source has been read: the tail of its last unit is kept for the next round. -/
def State.sourceRead (s : State) (c : Nat) (cmd : CopyCmd) (pos : Nat) : State :=
  s.modCopy c cmd.id (fun x => match x.rounds.find? (fun r => decide (r.pos = pos)) with
    | none => x
    | some r => { x with
        carry := ((x.tail r).1, r.buf.drop r.len)
        rounds := x.rounds.map (fun q => if q.pos = pos then
          { q with stage := .full, asked := false, buf := carryRuns r (x.sourceRuns r) (r.buf.take r.len) } else q) })

/-- Reads a round's source, once every page of the round is translated (05 R148). -/
def State.readSource (s : State) (c : Nat) (cmd : CopyCmd) (r : Round) : State :=
  let runs := cmd.sourceRuns r
  let clash := if cmd.kind = .cpyi then
      runs.find? (fun (x : Nat × Nat × Nat) => rangesMeet (x.2.1, x.2.2) (cmd.b0.toNat, cmd.total)) else none
  if r.asked then (if r.need.isEmpty then s.sourceRead c cmd r.pos else s)
  else match clash with
    | some x => s.failRound c cmd r 8 (BitVec.ofNat 64 x.2.1)
    | none =>
      match s.translateDest c cmd r with
      | (.wait, got, t) => t.modRound c cmd.id r.pos (fun r => { r with got := got })
      | (.absent va, _, t) => t.voidRound c cmd r va
      | (.bad st va, _, t) => t.failRound c cmd r st (BitVec.ofNat 64 va)
      | (.ok _, got, t) =>
        let r := { r with got := got }
        let tail := cmd.tail r
        match (t.modRound c cmd.id r.pos (fun r => { r with got := got })).fetchRuns c cmd r (runs ++ [(r.len, tail.1 % 2 ^ 64, tail.2)]) with
        | (none, u) => u
        | (some (bs, needs), u) =>
          let u := u.modRound c cmd.id r.pos (fun r => { r with asked := true, need := needs, buf := bs })
          if needs.isEmpty then u.sourceRead c cmd r.pos else u

/-! ### Writing a round (05 R148, R149) -/

/-- The bytes that a round writes: the fill value's bytes for CFILL (05 R145). -/
def CopyCmd.output (c : CopyCmd) (r : Round) : List Byte :=
  match c.kind with
  | .cfill => (List.range r.len).map (fun j => nth (leBytes 8 c.a0.toNat) ((r.pos + j) % 8) 0)
  | _ => r.buf

/-- The round's bytes have been written: it is over, and the command is finished after its last (05 R148, 17 R388). -/
def State.advance (s : State) (c : Nat) (cmd : CopyCmd) (r : Round) : State :=
  let z := cmd.rh.slot
  let low := if cmd.kind = .cpys then
      BitVec.ofNat 64 (wrapVa (cmd.a0.toNat + (((r.pos + r.len) / z : Nat) : Int) * cpysStride cmd.a1)) else cmd.low
  s.modCopy c cmd.id (fun x => { x with
    phase := if x.total ≤ r.pos + r.len then .finished else x.phase
    rounds := x.rounds.filter (fun q => decide (q.pos ≠ r.pos)), low := low, since := s.clk })

/-- A slot of a CPYS is written at the write position, which then advances (05 R149). -/
def State.writeSlot (s : State) (c : Nat) (cmd : CopyCmd) (r : Round) (off : Nat) : State :=
  let h := s.handle c cmd.ring
  match s.partsOf (.command cmd.id) c r.got false true false (cmd.slotRun h off) with
  | (.ok parts, _, t) =>
    let t := t.writeParts (parts.map (fun p => (paKey p.2.1, (r.buf.drop p.1).take p.2.2)))
    let t := t.setHandle c cmd.ring { h.advW 1 with resv := h.resv - 1 }
    let left := r.left.drop 1
    if left.isEmpty then t.advance c cmd r else t.modRound c cmd.id r.pos (fun r => { r with left := left })
  | (.bad st va, _, t) => t.failCopy c cmd st (BitVec.ofNat 64 va)
  | (_, _, t) => t

/-- Parts are written in stream order: those of this chip up to the next of another, whose acknowledgements come first (05
R148). -/
def State.writeOn (s : State) (c : Nat) (cmd : CopyCmd) (r : Round) : State :=
  let out := cmd.output r
  let near := r.left.takeWhile (fun p => s.isHere p.2.1)
  let rest := r.left.drop near.length
  let far := rest.takeWhile (fun p => !s.isHere p.2.1)
  let t := s.writeParts (near.map (fun p => (paKey p.2.1, (out.drop p.1).take p.2.2)))
  let (needs, u) := t.askParts c .copyWrite out far
  if rest.isEmpty then u.advance c cmd r
  else u.modRound c cmd.id r.pos (fun r => { r with stage := .write, need := needs, left := rest.drop far.length })

/-- A round of a decoding copy goes to its cluster's decoder, on this chip or another (10 R259, R262): its stream bytes in chunks,
each with its place in the round and the round's in the stream; the last is answered when the round has been decoded. -/
def State.sendStream (s : State) (c : Nat) (cmd : CopyCmd) (r : Round) (pa : Nat) : State :=
  if s.isHere pa then
    s.modCopy c cmd.id (fun x => { x with
      rounds := x.rounds.map (fun q => if q.pos = r.pos then { q with stage := .decode } else q)
      z := { x.z with bytes := x.z.bytes ++ r.buf, staged := [], back := (x.z.count, x.z.base, x.z.bytes), out := some pa, since := s.clk } })
  else
    let (needs, u) := (chunks 0 r.len 0 r.len).foldl (fun (acc : List Need × State) ch =>
      let flags := ch.1 + 2 ^ 16 * r.len + (if cmd.total ≤ r.pos + r.len then 2 ^ 32 else 0)
      let (need, t) := acc.2.sendAsk (acc.2.copyAsk c .decode pa ch.2 (BitVec.ofNat 64 cmd.id) (BitVec.ofNat 64 flags)
        ((r.buf.drop ch.1).take ch.2)) ch.1
      (acc.1 ++ [need], t)) ([], s)
    u.modCopy c cmd.id (fun x => { x with
      rounds := x.rounds.map (fun q => if q.pos = r.pos then { q with stage := .decode, asked := true, need := needs } else q)
      z := { x.z with out := some pa } })

/-- Every part of a round's destination names the receiver that byte 0 names, or none does (10 R258, R259): the aperture
address of byte 0. -/
def CopyCmd.receiver (c : CopyCmd) (r : Round) (parts : List (Nat × Nat × Nat)) : Except Nat (Option Nat) :=
  match parts.find? (fun p => decide (paSpace p.2.1 = 5)) with
  | none => if c.z.out.isSome then .error 0 else .ok none
  | some p =>
    let out := c.z.out.getD p.2.1
    match parts.find? (fun q => decide (q.2.1 / 2 ^ 20 ≠ out / 2 ^ 20)) with
    | some q => .error q.1
    | none => if c.z.out.isNone ∧ r.pos ≠ 0 then .error p.1 else .ok (some out)

/-- A round that has been read begins to be written, in its turn: a CPYS once its ring has room (05 R148, R149), a round with
parts on other chips once they have given leave. -/
def State.beginWrite (s : State) (c : Nat) (cmd : CopyCmd) (r : Round) : State :=
  let h := s.handle c cmd.ring
  let runs := cmd.destRuns h r
  match s.partsOf (.command cmd.id) c r.got false true (decide (cmd.kind = .cpy)) runs with
  | (.ok parts, _, t) =>
    let keys := t.keysOf (parts.filter (fun p => decide (paSpace p.2.1 ≠ 5)))
    if !cmd.isFirst r || t.accessHeld c cmd.id true keys then t
    else if cmd.kind = .cpys then
      let n := r.len / cmd.rh.slot
      if h.room < n || !t.slotsRead c keys then t
      else (t.modRound c cmd.id r.pos (fun r => { r with stage := .write, left := parts.filter (fun p => decide (p.1 % cmd.rh.slot = 0)) })).setHandle
        c cmd.ring { h with resv := h.resv + n }
    else match cmd.receiver r parts, t.linkDown parts with
      | .error off, _ => t.failCopy c cmd 5 (vaAt runs off)
      | .ok _, some off => t.failCopy c cmd 7 (vaAt runs off)
      | .ok (some pa), none => t.sendStream c cmd r pa
      | .ok none, none =>
        let (needs, u) := t.askParts c .copyLeave [] parts
        if needs.isEmpty then u.writeOn c cmd { r with left := parts }
        else u.modRound c cmd.id r.pos (fun r => { r with stage := .leave, need := needs, left := parts })
  | (.bad st va, _, t) => t.failRound c cmd r st (BitVec.ofNat 64 va)
  | (.absent va, _, t) => t.voidRound c cmd r va
  | (.wait, _, t) => t

/-- One move of a round in hand. -/
def State.moveRound (s : State) (c id pos : Nat) : State :=
  match (s.core c).copyOf id with
  | none => s
  | some cmd => match cmd.rounds.find? (fun r => decide (r.pos = pos)) with
    | none => s
    | some r => match r.stage with
      | .index => s.readIndex c cmd r
      | .read => s.readSource c cmd r
      | .full => s.beginWrite c cmd r
      | .leave => if r.need.isEmpty then s.writeOn c cmd r else s
      | .write => if cmd.kind = .cpys then s.writeSlot c cmd r ((r.left.head?.map (fun p => p.1)).getD 0)
          else if r.need.isEmpty then s.writeOn c cmd r else s
      | .decode => if r.asked ∧ r.need.isEmpty then s.advance c cmd r else s

/-! ### Starting rounds (12 R292) -/

/-- A command may start a round: no earlier command's extents overlap its own, no earlier access of its core acquires (05
R137, 13 R302), and for a CPYS its ring has room. -/
def State.roundFree (s : State) (c : Nat) (cmd : CopyCmd) : Bool :=
  !(s.core c).footBlocked cmd.id cmd.extents.1 cmd.extents.2 && !s.accessHeld c cmd.id false [] &&
    (decide (cmd.kind ≠ .cpys) || !cmd.rounds.isEmpty || decide (cmd.roundLen / cmd.rh.slot ≤ (s.handle c cmd.ring).room))

/-- Rounds that an engine has in hand. -/
def Core.roundsInHand (k : Core) : Nat := (k.copies.map (fun c => if c.isRemote then 0 else c.rounds.length)).sum

/-- The round has its source. -/
def Round.isRead (r : Round) : Bool := match r.stage with | .index => false | .read => false | _ => true

/-- A copy that may start a round now: its rounds in hand have been read. -/
def State.mayStart (s : State) (c : Nat) (cmd : CopyCmd) : Bool :=
  !cmd.isRemote && decide (cmd.kind ≠ .carm) && decide (cmd.phase = .flying) && decide (cmd.pos < cmd.total) &&
    cmd.rounds.all Round.isRead && s.roundFree c cmd

/-- The copy whose turn it is to start a round: the next in order of issue after the last that did. -/
def State.nextCopy (s : State) (c : Nat) : Option Nat :=
  let k := s.core c
  let may := (k.copies.filter (s.mayStart c)).map (fun x => x.id)
  match may.find? (fun i => decide (k.copyLast < i)) with
  | some i => some i
  | none => may.head?

/-- The command starts a round, while the engine has a buffer free and it is the command's turn. -/
def State.startRound (s : State) (c id : Nat) : State :=
  if s.nextCopy c = some id ∧ (s.core c).roundsInHand < 2 then
    match (s.core c).copyOf id with
    | none => s
    | some cmd =>
      ((s.modCopy c id (fun x => { x with rounds := x.rounds ++ [x.nextRound], pos := x.pos + x.roundLen })).modCore c
        (fun k => { k with copyLast := id })).moveRound c id cmd.pos
  else s

/-! ### Remote operations as their source sees them (05 R143, R144) -/

/-- What a remote operation needs of its page (12 R285). -/
def remNeeds : RemOp → Bool × Bool
  | .load => (true, false)
  | .store => (false, true)
  | .copyRead => (true, false)
  | .copyLeave => (false, true)
  | .copyWrite => (false, true)
  | .decode => (false, true)
  | _ => (true, true)

/-- A remote operation leaves for its target (05 R143, R144), after its core's earlier accesses to the same bytes (13 R299). -/
def State.sendRemote (s : State) (c : Nat) (cmd : CopyCmd) (op : RemOp) : State :=
  let r := { cmd.nextRound with len := 8 }
  match s.engineXlate (.command cmd.id) c cmd.a0 (remNeeds op).1 (remNeeds op).2 with
  | (.wait, t) => t
  | (.absent, t) => t.voidRound c cmd r cmd.a0.toNat
  | (.bad f, t) => t.failCopy c cmd f.status cmd.a0
  | (.ok pa, t) =>
    if 2 ≤ paSpace pa then t.failCopy c cmd 5 cmd.a0
    else if (t.linkDown [(0, pa, 8)]).isSome then t.failCopy c cmd 7 cmd.a0
    else if t.remoteHeld c cmd.id pa 8 || (t.isHere pa && t.accessHeld c cmd.id (remNeeds op).2 [(paKey pa, 8)]) then t
    else
      let q := t.copyAsk c op pa 8 cmd.b0 cmd.b1 []
      let r := { r with asked := true, got := [(gotKey cmd.a0.toNat (remNeeds op).2, pa - cmd.a0.toNat % 65536)]
                        need := [⟨q.tag, paChip pa, 0, 8⟩] }
      let u : State := { t with nextId := t.nextId + 1 }
      let u := u.modCopy c cmd.id (fun x => { x with rounds := [r] })
      if u.isHere pa then { u with remIn := u.remIn ++ [q] }
      else u.sendFlit (u.flitTo (paChip pa) q.srcPart 0 q.gen (.request q))

/-- A remote operation may leave: the commands counted on its ordering token at its issue have all completed (05 R144), no
earlier command of the core holds its bytes (R137), and no earlier access acquires (13 R302). -/
def State.orderMet (s : State) (c : Nat) (cmd : CopyCmd) : Bool :=
  !(s.outstanding c).any (fun i => cmd.after.contains i) && !s.accessHeld c cmd.id false [] &&
    (match cmd.kind with
      | .remote op => !(s.core c).footBlocked cmd.id (if (remNeeds op).1 then [(cmd.a0.toNat, 8)] else [])
          (if (remNeeds op).2 then [(cmd.a0.toNat, 8)] else [])
      | _ => true)

/-- COPY_ROUND (05 R143, R148; 12 R292): the command's rounds in hand move on, and another starts in its turn; a remote
operation leaves. While the cluster is stopped only a round that writes goes on, and one that another chip decodes (17 R391). -/
def execCopyRound (core id : Nat) (s : State) : Host.Outcome State Fault Refusal :=
  match (s.core core).copyOf id with
  | none => .next s
  | some cmd =>
    let awake := s.awakeAt core
    match cmd.kind with
    | .carm => .next s
    | .remote op => whenOk (awake && decide (cmd.phase = .flying) && cmd.rounds.isEmpty && s.orderMet core cmd) s (s.sendRemote core cmd op)
    | _ =>
      let t := ((cmd.rounds.filter (fun r => awake || decide (r.stage = .write) || (decide (r.stage = .decode) && r.asked))).map (fun r => r.pos)).foldl
        (fun s p => s.moveRound core id p) s
      .next (if awake then t.startRound core id else t)

/-- ROUND_RESTART (05 R148): once the page is present, a voided round starts again at its recorded positions. -/
def execRoundRestart (core id : Nat) (s : State) : Host.Outcome State Fault Refusal :=
  if !(s.awakeAt core) then .next s else
  match (s.core core).copyOf id with
  | none => .next s
  | some cmd => whenOk (decide (cmd.phase = .voided) && (s.physOf core cmd.missing).isSome) s
      (s.modCopy core id (fun c => { c with phase := .flying }))

/-- COMMAND_COMPLETE (05 R141, R150, R153): the token loses 1 and the footprint entry frees; a firing first pushes its
done item. A JSYNC whose jsn is acknowledged already completes so (07 R194). -/
def execCommandComplete (core id : Nat) (s : State) : Host.Outcome State Fault Refusal :=
  if !(s.awakeAt core) then .next s else
  match (s.core core).copyOf id with
  | none => match (s.core core).jsyncs.find? (fun x => decide (x.1 = id)) with
    | none => .next s
    | some (_, jsn, token) => whenOk (decide (jsn ≤ s.journal.acked)) s (s.modCore core (fun k =>
        { k.finish id token true with jsyncs := k.jsyncs.filter (fun x => decide (x.1 ≠ id)) }))
  | some cmd =>
    let ready := decide (cmd.phase = .finished) && (decide (cmd.total ≠ 0) || decide (cmd.since < s.clk))
    match cmd.template with
    | none => whenOk ready s ((s.dropCopy core id).modCore core (fun k => k.finish id cmd.token cmd.counts))
    | some (t, item) =>
      let done := (s.dropCopy core id).modCore core (fun k => k.footFree id)
      match (mget (s.core core).templates t).filter (fun p => p.dv) with
      | none => whenOk ready s done
      | some p => match mget s.queues p.done with
        | none => whenOk ready s done
        | some q => whenOk (ready && decide (0 < q.creditsOf (templateParty core t)) && !(s.core core).recording) s
            (done.push p.done (templateParty core t) [item.headD 0] false)

/-! ### Templates (05 R152, R153) -/

/-- The template that a descriptor describes, if it passes its checks. -/
def State.readTemplate (s : State) (c t : Nat) (ws : List Word) : Option Template :=
  let w0 := (nth ws 0 0).toNat
  let trig := bitsAt w0 48 16
  let done := bitsAt w0 32 16
  let k := s.core c
  let kind : Option CopyKind := match bitsAt w0 8 8 with | 1 => some .cpy | 2 => some .cpy2 | 5 => some .cfill | _ => none
  let p : Template := { trig := trig, done := done, dv := decide (bitsAt w0 19 1 = 1), addDst := decide (bitsAt w0 18 1 = 1),
                        addSrc := decide (bitsAt w0 17 1 = 1), kind := kind.getD .cpy, a0 := nth ws 1 0, a1 := nth ws 2 0,
                        b0 := nth ws 3 0, b1 := nth ws 4 0 }
  let owned := match s.part? (s.cl (clusterOf c)).part with
    | some r => decide (r.qLo ≤ trig) && decide (trig < r.qLo + r.qN)
    | none => false
  let trigOk := match mget s.queues trig with
    | some q => (q.branchOf c).isSome && (!p.addDst || decide (2 ≤ q.words))
    | none => false
  let doneOk := !p.dv || (match mget s.queues done with | some q => decide (q.words = 1) | none => false)
  let unbound := !k.ports.any (fun b => decide (s.bindKey b.2 = trig)) && !k.triggers.any (fun g => decide (g.queue = trig)) &&
    !k.templates.any (fun g => decide (g.1 ≠ t) && decide (g.2.trig = trig))
  let clean := decide (bitsAt w0 20 12 = 0) && decide (bitsAt w0 16 1 = 0) && decide (bitsAt w0 0 8 = 0) &&
    ((ws.drop 5).take 3).all (fun w => decide (w = 0))
  if kind.isSome && owned && trigOk && doneOk && unbound && clean then some p else none

/-- DESCRIPTOR_CHECK (05 R152): a template that an earlier CARM has armed meanwhile is disarmed first. -/
def execDescriptorCheck (core id : Nat) (s : State) : Host.Outcome State Fault Refusal :=
  if !(s.awakeAt core) then .next s else
  match (s.core core).copyOf id with
  | none => .next s
  | some cmd =>
    let key := localKey core (cmd.b0.toNat - 0x10000)
    let t := cmd.a0.toNat
    let ready := decide (cmd.kind = .carm) && decide (cmd.phase = .flying) && !s.accessHeld core id false [(key, 64)] &&
      !(s.core core).footBlocked id [(cmd.b0.toNat, 64)] []
    if !ready then .next s
    else if s.isPoisoned key 64 then .next ((s.disarmAt core t).failCopy core cmd 13 cmd.b0)
    else match s.readTemplate core t (wordsOfBytes 8 (s.readOwn core key 64)) with
      | none => .next ((s.disarmAt core t).failCopy core cmd 9 cmd.b0)
      | some p =>
        let u := (s.disarmAt core t).dropCopy core id
        let u := if p.dv then u.modQ p.done (fun q => q.setCredits (templateParty core t) q.window) else u
        .next (u.modCore core (fun k => { (k.finish id cmd.token true) with templates := mset k.templates t p }))

/-- The command that a template forms from an item (05 R153 step 2). AS of a CFILL, which has no source, adds to A0, its fill
value (DESIGN CHOICE, log 62). -/
def Template.command (p : Template) (t id clk : Nat) (item : List Word) : CopyCmd :=
  { CopyCmd.blank id p.kind 0 clk 0 0 with
    counts := false
    a0 := if p.addSrc then p.a0 + nth item 0 0 else p.a0
    a1 := p.a1
    b0 := if p.addDst then p.b0 + nth item 1 0 else p.b0
    b1 := p.b1
    template := some (t, item) }

/-- TEMPLATE_FIRING (05 R153; 09 R227): one firing for each item, one at a time. -/
def execTemplateFiring (core t : Nat) (s : State) : Host.Outcome State Fault Refusal :=
  if !(s.awakeAt core) then .next s else
  match mget (s.core core).templates t with
  | none => .next s
  | some p =>
    if (s.core core).firing t then .next s
    else match s.headFor p.trig core with
      | .item ws =>
        let u := s.popFor p.trig core
        let cmd := p.command t s.nextId s.clk ws
        .next (match copyCheck cmd with
          | some (.addressForm, _) => u.failTemplate core t 6 ws
          | some _ => u.failTemplate core t 9 ws
          | none => { u.modCore core (fun k => { k with copies := k.copies ++ [cmd] }) with nextId := s.nextId + 1 })
      | .closed => .next (s.failTemplate core t 14 [])
      | _ => .next s

end Sys2Proof.Machine
end

