-- ==== Sys2Proof/Machine/AtollUnit.lean ====
section
/-!
DEFINITION. The Atoll at work: arrival order, table loads, runs of the lookup cells (07 R185-R190, 14 R316-R327).
-/

namespace Sys2Proof.Machine

/-! ### The cells (07 R189, 14 R316, R317) -/

/-- A list of 64 zero slices. -/
def zeroSlices : List Word := List.replicate 64 0

/-- The slice that a selector byte names, from the two stages before and the batch inputs. -/
def selected (sel : Nat) (prev prev2 input : List Word) : Word :=
  let i := sel % 64
  match sel / 64 with
  | 0 => nth prev i 0
  | 1 => nth prev2 i 0
  | 2 => nth input i 0
  | _ => if i = 1 then BitVec.allOnes 64 else 0

/-- A cell's output: bit v of its table for each lane. -/
def cellOut (table : Word) (u : List Word) : Word :=
  BitVec.ofNat 64 ((List.range 64).map (fun l =>
    let v := (u.zipIdx.map (fun p => if p.1.getLsbD l then 2 ^ p.2 else 0)).sum
    if table.getLsbD v then 2 ^ l else 0)).sum

/-- The 64 outputs of stage s. -/
def stageOut (ctx tab : List Byte) (s : Nat) (prev prev2 input : List Word) : List Word :=
  let c := ctx.drop (384 * s)
  let t := tab.drop (512 * s)
  (List.range 64).map (fun q =>
    cellOut (BitVec.ofNat 64 (ofBytes ((t.drop (8 * q)).take 8)))
      (((c.drop (6 * q)).take 6).map (fun b => selected b.toNat prev prev2 input)))

/-- One pass: its stages' outputs, latest first, from those of the pass before it. -/
def passOut (ctx tab : List Byte) (input : List Word) (before : List (List Word)) : List (List Word) :=
  (List.range 8).foldl (fun os s => stageOut ctx tab s (nth os 0 zeroSlices) (nth os 1 zeroSlices) input :: os) before

/-- The output words of one step. -/
def Atoll.run (t : Atoll) (sel : Word) (input : List Word) : List Word :=
  let out := (List.range (selPasses sel)).foldl (fun os p =>
    passOut (mgetD t.ctxs ((selContext sel + p) % 8) []) (mgetD t.banks ((selBank sel + p) % 4) []) input (os.take 8)) []
  (nth out (7 - selStage sel) zeroSlices).take (selNo sel)

/-- Every context and bank of a selection is loaded (14 R322). -/
def Atoll.isLoaded (t : Atoll) (sel : Word) : Bool :=
  (List.range (selPasses sel)).all (fun p =>
    decide (bitsAt t.ctxMask ((selContext sel + p) % 8) 1 = 1) && decide (bitsAt t.bankMask ((selBank sel + p) % 4) 1 = 1))

/-! ### Ring slots (07 R186, 14 R326) -/

/-- The keys of a slot's 8-byte units, or the status with which the access fails. -/
def State.slotKeys (s : State) (c : Nat) (va : Word) (n : Nat) (write : Bool) : Except Nat (List Nat) :=
  (List.range (n / 8)).mapM (fun i =>
    match s.xlate c (va + BitVec.ofNat 64 (8 * i)) (!write) write with
    | .ok pa => if !write && s.isPoisoned (paKey pa) 8 then .error 13 else .ok (paKey pa)
    | .bad f => .error f.status
    | .miss => .error 5)

/-- Changes the Atoll of a cluster. -/
def State.modAtoll (s : State) (cl : Nat) (f : Atoll → Atoll) : State := s.modCl cl (fun k => { k with atoll := f k.atoll })

/-- The Atoll is idle from the next clk. -/
def Atoll.freed (t : Atoll) (clk : Nat) : Atoll := { t with serving := none, freeAt := clk + 1 }

/-- The command in service completes. -/
def State.atollDone (s : State) (cl : Nat) (c : AtollCmd) : State :=
  (s.modAtoll cl (fun t => t.freed s.clk)).modCore c.core (fun k => k.finish c.id c.token true)

/-- The command in service fails; a run's reservations are given back (14 R326). -/
def State.atollFail (s : State) (cl : Nat) (c : AtollCmd) (status : Nat) (va : Word) : State :=
  let s := match c.kind with
    | .lrun _ _ => s.setHandle c.core c.hOut { s.handle c.core c.hOut with resv := 0 }
    | _ => s
  (s.modAtoll cl (fun t => t.freed s.clk)).modCore c.core (fun k => k.failCommand c.id c.token status va c.word)

/-! ### Arrival and service (14 R320) -/

/-- ATOLL_ARRIVAL: a command joins the arrival order two clk after its issue. -/
def execAtollArrival (core : Nat) (s : State) : Host.Outcome State Fault Refusal :=
  if !(s.awakeAt core) then .next s else
  match (s.core core).atollQ with
  | [] => .next s
  | c :: rest =>
    whenOk (decide (c.at_ ≤ s.clk)) s
      ((s.modCore core (fun k => { k with atollQ := rest })).modAtoll (clusterOf core)
        (fun t => { t with arrivals := t.arrivals ++ [c] }))

/-- The bytes of a load (07 R187). -/
def AtollKind.loadSize : AtollKind → Nat
  | .ltld _ => 4096
  | .lwld _ => 3072
  | _ => 0

/-- The command may make an access: no earlier command of its core holds it, no earlier access of the core waits on the bytes or
acquires, and no atomic of the core does, which an RADVW after it releases (04 R123, 05 R137, 13 R302). -/
def State.atollFree (s : State) (c : AtollCmd) (write : Bool) (keys : List Nat) : Bool :=
  let k := s.core c.core
  let mine := k.foot.filter (fun f => decide (f.id = c.id))
  !k.footBlocked c.id (mine.flatMap (fun f => f.reads)) (mine.flatMap (fun f => f.writes)) &&
    !s.accessHeld c.core c.id write (keys.map (fun a => (a, 8))) &&
    !k.mem.any (fun o => o.isAtomic && keys.any (fun a => o.touches a 8))

/-- ATOLL_SERVICE_START (14 R320, R322): an idle Atoll takes the next command; an LFLUSH completes at once, since every
command before it has. -/
def execAtollServiceStart (cluster : Nat) (s : State) : Host.Outcome State Fault Refusal :=
  if !(s.cl cluster).awake then .next s else
  let t := (s.cl cluster).atoll
  match t.serving, t.arrivals with
  | none, c :: rest =>
    let serve : AtollServe := { cmd := c, staged := [], moved := 64, steps := 0, nextAt := s.clk, readsDone := false, outs := [] }
    let u := s.modAtoll cluster (fun t => { t with arrivals := rest, serving := some serve })
    whenOk (decide (t.freeAt ≤ s.clk)) s (match c.kind with
      | .lflush => u.atollDone cluster c
      | .lrun sel n => if n ≠ 0 ∧ !t.isLoaded sel then u.atollFail cluster c 12 c.rIn.base else u
      | _ => u)
  | _, _ => .next s

/-! ### Table loads (14 R321) -/

/-- The bytes that a load may still move in a clk: 64 in all. -/
def AtollServe.quota (v : AtollServe) (clk : Nat) : Nat := if v.nextAt = clk then 64 - v.moved else 64

/-- Moves what of the slot at the read position fits into this clk; the slot is released once all of it is read. -/
def State.moveSlot (s : State) (cluster : Nat) (v : AtollServe) : State :=
  let c := v.cmd
  let h := s.handle c.core c.hIn
  let had := v.staged.length % c.rIn.slot
  let n := min (v.quota s.clk) (c.rIn.slot - had)
  let va := c.rIn.slotAddr h.rpos.toNat + BitVec.ofNat 64 had
  if n = 0 ∨ c.kind.loadSize ≤ v.staged.length ∨ h.filled < 1 then s
  else match s.slotKeys c.core va n false with
    | .error st => s.atollFail cluster c st va
    | .ok keys =>
      if !s.atollFree c false keys then s
      else
        let staged := v.staged ++ keys.flatMap (fun k => s.readOwn c.core k 8)
        let w : AtollServe := { v with
          staged := staged, moved := 64 - v.quota s.clk + n, nextAt := s.clk, readsDone := decide (c.kind.loadSize ≤ staged.length) }
        let t := s.modAtoll cluster (fun t => { t with serving := some w })
        if had + n = c.rIn.slot then t.setHandle c.core c.hIn (h.advR 1) else t

/-- TABLE_LOAD_SLOT_READ: 64 bytes a clk, in as many slots as they span; a slot is a multiple of 8 bytes (14 R321). -/
def execTableLoadSlotRead (cluster : Nat) (s : State) : Host.Outcome State Fault Refusal :=
  if !(s.cl cluster).awake then .next s
  else .next ((List.range 8).foldl (fun s _ => match (s.cl cluster).atoll.serving with
    | some v => s.moveSlot cluster v
    | none => s) s)

/-- TABLE_LOAD_COMMIT: in the clk after the last byte is read. -/
def execTableLoadCommit (cluster : Nat) (s : State) : Host.Outcome State Fault Refusal :=
  if !(s.cl cluster).awake then .next s else
  match (s.cl cluster).atoll.serving with
  | none => .next s
  | some v =>
    let c := v.cmd
    let size := c.kind.loadSize
    let ready := decide (size ≠ 0) && decide (size ≤ v.staged.length) && decide (v.nextAt < s.clk)
    let bytes := v.staged.take size
    whenOk ready s (match c.kind with
      | .ltld b => (s.modAtoll cluster (fun t => { t with
          banks := mset t.banks b bytes, bankMask := t.bankMask ||| 2 ^ b })).atollDone cluster c
      | .lwld x =>
        if bytes.any badSelector then s.atollFail cluster c 10 c.rIn.base
        else (s.modAtoll cluster (fun t => { t with
          ctxs := mset t.ctxs x bytes, ctxMask := t.ctxMask ||| 2 ^ x })).atollDone cluster c
      | _ => s)

/-! ### Runs (14 R323-R325) -/

/-- LRUN_STEP: takes an input slot, reserves an output slot, whose rights are checked now, and computes the step; a slot that a
VLD is still to read is not free yet (06 R169). -/
def execLrunStep (cluster : Nat) (s : State) : Host.Outcome State Fault Refusal :=
  if !(s.cl cluster).awake then .next s else
  match (s.cl cluster).atoll.serving with
  | none => .next s
  | some v =>
    let c := v.cmd
    match c.kind with
    | .lrun sel n =>
      let hi := s.handle c.core c.hIn
      let ho := s.handle c.core c.hOut
      if !(decide (v.steps < n) && decide (v.nextAt ≤ s.clk) && decide (1 ≤ hi.filled) && decide (1 ≤ ho.room)) then .next s
      else
        let vi := c.rIn.slotAddr hi.rpos.toNat
        let vo := c.rOut.slotAddr (ho.wpos.toNat + ho.resv)
        match s.slotKeys c.core vi c.rIn.slot false, s.slotKeys c.core vo c.rOut.slot true with
        | .error st, _ => whenOk v.outs.isEmpty s (s.atollFail cluster c st vi)
        | _, .error st => whenOk v.outs.isEmpty s (s.atollFail cluster c st vo)
        | .ok keys, .ok outs =>
          let input := keys.map (fun k => BitVec.ofNat 64 (ofBytes (s.readOwn c.core k 8)))
          let out := (s.cl cluster).atoll.run sel (input.take (selNi sel))
          let v' := { v with steps := v.steps + 1, nextAt := s.clk + selPasses sel, readsDone := decide (n ≤ v.steps + 1)
                             outs := v.outs ++ [(s.clk + 8 * selPasses sel + 2, outs, out)] }
          let t := (s.modAtoll cluster (fun t => { t with serving := some v' })).setHandle c.core c.hIn (hi.advR 1)
          whenOk (s.atollFree c false keys && s.atollFree c true outs && s.slotsRead c.core (outs.map (fun a => (a, 8)))) s
            (t.setHandle c.core c.hOut { ho with resv := ho.resv + 1 })
    | _ => .next s

/-- LRUN_STEP_OUTPUT: a step's slot is written, and the run completes with its last one; a run of no steps completes in
the clk after its service begins. -/
def execLrunStepOutput (cluster : Nat) (s : State) : Host.Outcome State Fault Refusal :=
  match (s.cl cluster).atoll.serving with
  | none => .next s
  | some v =>
    let c := v.cmd
    match c.kind, v.outs with
    | .lrun _ n, [] => whenOk (decide (n = 0) && decide (v.nextAt < s.clk)) s (s.atollDone cluster c)
    | .lrun _ n, (at', keys, ws) :: rest =>
      let t := s.writeParts ((keys.zip ws).map (fun p => (p.1, leBytes 8 p.2.toNat)))
      let h := t.handle c.core c.hOut
      let t := t.setHandle c.core c.hOut { h.advW 1 with resv := h.resv - 1 }
      let t := t.modAtoll cluster (fun a => { a with serving := some { v with outs := rest } })
      whenOk (decide (at' ≤ s.clk)) s (if n ≤ v.steps ∧ rest.isEmpty then t.atollDone cluster c else t)
    | _, _ => .next s

end Sys2Proof.Machine
end

