-- ==== Sys2Proof/Machine/Decoder.lean ====
section
/-!
DEFINITION. The Z-stream decoder of a cluster and the decoding copies it serves (10 R253-R262).
-/

namespace Sys2Proof.Machine

/-! ### Reading bits (10 R253, R255) -/

/-- Why a block does not decode: its bits run out, or the stream is invalid (10 R257). -/
inductive ZErr where
  | short | invalid
  deriving DecidableEq, Repr

/-- The bits of 16-bit units, bit 15 of the first unit highest, and how many there are. -/
def unitBits : List Byte → Nat × Nat
  | a :: b :: r =>
    let (v, n) := unitBits r
    ((b.toNat * 256 + a.toNat) * 2 ^ n + v, n + 16)
  | _ => (0, 0)

/-- Next(k) at a bit position: the value and the position after it. -/
def zNext (b : Nat × Nat) (k pos : Nat) : Except ZErr (Nat × Nat) :=
  if b.2 < pos + k then .error .short else .ok (bitsAt b.1 (b.2 - pos - k) k, pos + k)

/-- An entry of a code table: length, code, delta (10 R255). -/
def zEntry (w : InstrWord) : Nat × Nat × Int :=
  let x := w.toNat
  let l := bitsAt x 15 4
  let d := bitsAt x 19 5
  (l, bitsAt x 0 l, if d < 16 then (d : Int) else (d : Int) - 32)

/-- The code read: after `len` bits, which spell `v`, the lowest-numbered used entry of that length that matches. -/
def zCode (b : Nat × Nat) (tab : List (Nat × Nat × Int)) : Nat → Nat → Nat → Nat → Except ZErr (Int × Nat)
  | 0, _, _, _ => .error .invalid
  | f + 1, len, v, pos =>
    match zNext b 1 pos with
    | .error e => .error e
    | .ok (x, pos) =>
      let v := 2 * v + x
      match tab.find? (fun e => decide (e.1 = len + 1) && decide (e.2.1 = v)) with
      | some e => .ok (e.2.2, pos)
      | none => zCode b tab f (len + 1) v pos

/-- Reads `n` fields one after another. -/
def zMany {α : Type} (read : Nat → Except ZErr (α × Nat)) : Nat → Nat → Except ZErr (List α × Nat)
  | 0, pos => .ok ([], pos)
  | n + 1, pos =>
    match read pos with
    | .error e => .error e
    | .ok (x, pos) => match zMany read n pos with
      | .error e => .error e
      | .ok (l, pos) => .ok (x :: l, pos)

/-- A field read as an integer. -/
def zInt (b : Nat × Nat) (k pos : Nat) : Except ZErr (Int × Nat) :=
  match zNext b k pos with | .ok (v, p) => .ok ((v : Int), p) | .error e => .error e

/-- One block: its output bytes and the bytes it takes up (10 R254, R256). -/
def zBlock (e4 : Bool) (tables : Nat → List (Nat × Nat × Int)) (bytes : List Byte) : Except ZErr (List Byte × Nat) := do
  let b := unitBits (bytes.take 160)
  let (w, m) := if e4 then (4, 3) else (5, 2)
  let (h, pos) ← zNext b 16 0
  let mode := h / 2 ^ 14
  let base := bitsAt h 6 5
  let c := h % 64 + 1
  if mode = 3 then .error .invalid
  let read (p : Nat) : Except ZErr (Int × Nat) :=
    if mode = 0 then (match zCode b (tables (bitsAt h 11 3)) 15 0 0 p with | .ok (d, q) => .ok (base + d, q) | .error e => .error e)
    else if mode = 1 then zInt b w p
    else .ok (0, p)
  let (ex, pos) ← zMany read c pos
  let field (k p : Nat) : Except ZErr (Nat × Nat) := if mode = 2 then .ok (0, p) else zNext b k p
  let (sg, pos) ← zMany (field 1) c pos
  let (mn, pos) ← zMany (field m) c pos
  if ex.any (fun x => decide (x < 0) || decide ((2 ^ w : Nat) ≤ x)) then .error .invalid
  let out := (List.range c).map (fun i => BitVec.ofNat 8 (nth sg i 0 * 128 + (nth ex i 0).toNat * 2 ^ m + nth mn i 0))
  .ok (out, 2 * ((pos + 15) / 16))

/-! ### Decoding copies (10 R259-R261) -/

/-- Fields of an aperture address (10 R258). -/
def apertureCluster (pa : Nat) : Nat := bitsAt pa 20 10
def apertureChan (pa : Nat) : Nat := bitsAt pa 30 5
def apertureOff (pa : Nat) : Nat := bitsAt pa 0 20

/-- Table `t` of a code-table set's words. -/
def codeTable (set : List InstrWord) (t : Nat) : List (Nat × Nat × Int) :=
  (List.range 16).map (fun e => zEntry (nth set (16 * t + e) 0))

/-- A channel entry as the decoder reads it: with the words of the code-table set that it names (10 R261). -/
def Cluster.zEntryOf (k : Cluster) (chan : Nat) : Chan × List InstrWord :=
  let e := k.getChan chan
  (e, (List.range 128).map (fun i => mgetD k.codes (128 * e.set + i) 0))

/-- What the decoder's next action does: it goes on; it has used up the round's bytes; the stream is invalid (10 R257). -/
inductive ZStep where
  | more (z : ZState)
  | over (z : ZState)
  | bad
  deriving DecidableEq, Repr

/-- One action of a decoder (10 R256, R259, R261): a block, or the round's bytes passed plain. `final` says that the stream ends
with these bytes. -/
def Cluster.decodeStep (k : Cluster) (final : Bool) (z : ZState) : ZStep :=
  let out := z.out.getD 0
  let entry := (mget z.entries z.base).getD (k.zEntryOf (apertureChan out))
  let o := apertureOff out
  let z := { z with entries := mset z.entries z.base entry }
  if z.bytes.isEmpty then .over z
  else if !entry.1.zs then
    if 2 ^ 20 < o + z.base + z.bytes.length then .bad
    else .over { z with
      staged := z.staged ++ z.bytes.zipIdx.map (fun p => (o + z.base + p.2, p.1)), base := z.base + z.bytes.length, bytes := [] }
  else match zBlock (decide (entry.1.fmt = .e4)) (codeTable entry.2) z.bytes with
    | .error .invalid => .bad
    | .error .short => if final then .bad else .over z
    | .ok (out, used) =>
      if 2 ^ 20 < o + z.count + out.length then .bad
      else
        let z := { z with
          staged := z.staged ++ out.zipIdx.map (fun p => (o + z.count + p.2, p.1))
          count := z.count + out.length, base := z.base + used, bytes := z.bytes.drop used }
        if z.bytes.isEmpty then .over z else .more z

/-! ### The decoder of a cluster (10 R262) -/

/-- The rounds that a cluster's decoder has bytes of: clk of their arrival, issuing core, identifier. -/
def State.decodeQueue (s : State) (cl : Nat) : List (Nat × Nat × Nat) :=
  s.cores.flatMap (fun p => (p.2.copies.filter (fun c =>
      c.rounds.any (fun r => decide (r.stage = .decode) && !r.asked) && decide (c.z.out.map apertureCluster = some cl))).map
    (fun c => (c.z.since, p.1, c.id))) ++
  (s.decodes.filter (fun j => j.last.isSome && decide (j.z.out.map apertureCluster = some cl))).map (fun j => (j.z.since, j.core, j.id))

/-- One place in the decoder's order comes before another. -/
def decodesBefore (a b : Nat × Nat × Nat) : Bool :=
  decide (a.1 < b.1) || (decide (a.1 = b.1) && (decide (a.2.1 < b.2.1) || (decide (a.2.1 = b.2.1) && decide (a.2.2 < b.2.2))))

/-- It is a round's turn at its cluster's decoder, which has taken no block in this clk. -/
def State.decodeTurn (s : State) (cl : Nat) (place : Nat × Nat × Nat) : Bool :=
  (s.cl cl).awake && decide ((s.cl cl).decoded ≠ some s.clk) && !(s.decodeQueue cl).any (fun p => decodesBefore p place)

/-- The receiving slice lets tenant copies write an offset (10 R260, 12 R282). -/
def State.mayLand (s : State) (cl off : Nat) : Bool :=
  let e := mgetD (s.cl cl).slice (off / 65536) SliceMap.none
  rightsOk false e.s e.r e.w false true

/-- A round's decoded bytes are written (10 R261). -/
def State.landDecoded (s : State) (cl : Nat) (z : ZState) : State :=
  s.writeParts (z.staged.map (fun b => (sliceKey cl b.1, [b.2])))

/-- The decoder of a cluster has taken a block. -/
def State.tookBlock (s : State) (cl : Nat) : State := s.modCl cl (fun k => { k with decoded := some s.clk })

/-- DECODE_BLOCK (10 R256, R259-R262): one block, or the round's bytes passed plain, in the order in which the bytes of copies
reach the cluster; the round commits when no whole block is left in it. -/
def execDecodeBlock (core id : Nat) (s : State) : Host.Outcome State Fault Refusal :=
  match (s.core core).copyOf id with
  | none => .next s
  | some cmd => match cmd.rounds.find? (fun r => decide (r.stage = .decode) && !r.asked) with
    | none => .next s
    | some r =>
      let cl := apertureCluster (cmd.z.out.getD 0)
      let at_ := cmd.b0 + BitVec.ofNat 64 cmd.z.base
      if !s.decodeTurn cl (cmd.z.since, core, id) then .next s
      else match (s.cl cl).decodeStep (decide (cmd.total ≤ r.pos + r.len)) cmd.z with
        | .bad => .next ((s.failCopy core cmd 11 at_).tookBlock cl)
        | .more z => .next ((s.modCopy core id (fun x => { x with z := z })).tookBlock cl)
        | .over z =>
          if z.staged.any (fun b => !s.mayLand cl b.1) then .next ((s.failCopy core cmd 4 at_).tookBlock cl)
          else .next ((((s.landDecoded cl z).modCopy core id (fun x => { x with z := { z with staged := [] } })).advance core cmd r).tookBlock cl)

end Sys2Proof.Machine
end

