-- ==== Sys2Proof/Machine/MessageInsns.lean ====
section
/-!
DEFINITION. Message and journal instructions as they issue: majors 0x3c and 0x3d (07 R191-R195, 15 R336,
16 R356-R361). The receive engines and the journal unit take what they send.
-/

namespace Sys2Proof.Machine

/-! ### Message commands (07 R191-R193) -/

/-- The receive engine of a communicator (15 R330). -/
def engineOf (comm : Nat) : Nat := ((List.range 8).map (fun i => bitsAt comm (2 * i) 2)).foldl (fun a b => a ^^^ b) 0

/-- The router at which an engine's port joins the mesh (09 R419). -/
def engineRouter (e : Nat) : Nat := if e < 2 then 0 else 1023

/-- The mesh time between a core's cluster and an engine (07 R191). -/
def engineTime (c e : Nat) : Nat :=
  meshTime (if isSup c then (if c < 8200 then 0 else 1023) else clusterOf c) (engineRouter e)

/-- Engine `e`. -/
def State.engine (s : State) (e : Nat) : Engine := mgetD s.engines e Engine.reset

/-- Changes engine `e`. -/
def State.modEngine (s : State) (e : Nat) (f : Engine → Engine) : State :=
  { s with engines := mset s.engines e (f (s.engine e)) }

/-- Sends a command whose answer the destination waits for (07 R191). -/
def askEngine (d : Reg) (e : Nat) (cmd : MsgCmd) : M Unit := do
  claimX d
  let id ← freshId
  let s ← get
  let k := s.cl (clusterOf s.cur)
  modHere (fun k => { k with waits := k.waits ++ (if d = 0 then [] else [⟨id, .x d.toNat, .none⟩]) })
  modify (fun s => s.modEngine e (fun g => { g with inbox := g.inbox ++
    [⟨s.cur, id, s.partOf s.cur, k.region.getD 1024, s.clk + engineTime s.cur e, cmd⟩] }))

/-- XTEN (07 R191); it names no communicator, and engine 0 takes it (log 11). -/
def opXten (d a b : Reg) : M Unit := do
  let va ← readX a
  let n ← readX b
  require (decide (n.toNat ≤ 1023)) .operandRange n
  let ws ← readLocal va 16 6
  askEngine d 0 (.xten n.toNat ws)

/-- XPOST (07 R191, R192). -/
def opXpost (d a : Reg) : M Unit := do
  let va ← readX a
  let ws ← readLocal va 16 6
  askEngine d (engineOf (bitsAt (nth ws 0 0).toNat 48 16)) (.post ws)

/-- XCAN (07 R191). -/
def opXcan (d a : Reg) : M Unit := do
  let h ← readX a
  askEngine d (bitsAt h.toNat 16 2) (.cancel h)

/-- XPROBE (07 R191). -/
def opXprobe (d a : Reg) : M Unit := do
  let va ← readX a
  let ws ← readLocal va 16 2
  askEngine d (engineOf (bitsAt (nth ws 0 0).toNat 48 16)) (.probe ws)

/-- The partition that holds a rank on this chip, or the chip that does (15 R330). -/
def Comm.holder (m : Comm) (rank : Nat) : Option Nat := (m.ranks.find? (fun p => decide (p.1 = rank))).map (fun p => p.2)
def Comm.farChip (m : Comm) (rank : Nat) : Option Nat := (m.far.find? (fun p => decide (p.1 = rank))).map (fun p => p.2)

/-- The chip that a rank is mapped to. -/
def State.rankChip (s : State) (comm rank : Nat) : Option Nat :=
  match mget s.comms comm with
  | none => none
  | some m => if (m.holder rank).isSome then some s.chip.toNat else m.farChip rank

/-- A partition has a share of post slots on an engine (15 R331). -/
def State.hasShare (s : State) (e part : Nat) : Bool :=
  match mget (s.engine e).shares part with | some (n, _, _) => decide (n ≠ 0) | none => false

/-- XSEND's status (07 R193, 15 R331). -/
def State.sendStatus (s : State) (part comm src dst : Nat) : Nat :=
  match mget s.comms comm with
  | none => 1
  | some m =>
    if (s.rankChip comm dst).isNone || !s.hasShare (engineOf comm) part then 1
    else if m.holder src = some part then 0 else 2

/-- The payload lies where a payload may lie (07 R193). -/
def payloadPlace (va : Word) (n : Nat) : Option Cause :=
  let last := va + BitVec.ofNat 64 (n - 1)
  if n = 0 then none
  else if !canonical va || !canonical last then some .addressForm
  else match placeOf va, placeOf last with
    | .window _, .window _ => none
    | .mapped, .mapped => none
    | _, _ => some .accessKind

/-- The next number of a triple at the sending engine (15 R338). -/
def Engine.nextNumber (g : Engine) (triple : Nat × Nat × Nat) : Nat :=
  match g.numbering.find? (fun p => decide (p.1 = triple)) with | some p => p.2 | none => 0

/-- A list of numbers by triple with one set. -/
def setTriple (l : List ((Nat × Nat × Nat) × Nat)) (t : Nat × Nat × Nat) (n : Nat) : List ((Nat × Nat × Nat) × Nat) :=
  (t, n) :: l.filter (fun p => decide (p.1 ≠ t))

/-! ### The sender's side (07 R193, 15 R340) -/

/-- The send that a header names, on the chip that made it. -/
def State.sendOf (s : State) (id : Nat) : Option Sending := s.sends.find? (fun x => decide (x.id = id))

/-- Forgets a send. -/
def State.dropSend (s : State) (id : Nat) : State := { s with sends := s.sends.filter (fun x => decide (x.id ≠ id)) }

/-- The payload is no longer needed: the send completes. -/
def State.finishSend (s : State) (x : Sending) : State :=
  (s.dropSend x.id).modCore x.core (fun k => k.finish x.id x.token true)

/-- A send fails after issue (05 R142). -/
def State.failSend (s : State) (x : Sending) (status : Nat) (va : Nat) : State :=
  (s.dropSend x.id).modCore x.core (fun k => k.failCommand x.id x.token status (BitVec.ofNat 64 va) x.word)

/-- A flit of a send has left; with the last of those that are due the send completes. -/
def State.flitLeft (s : State) (id : Nat) : State :=
  match s.sendOf id with
  | none => s
  | some x =>
    if x.due = 1 then s.finishSend x
    else { s with sends := s.sends.map (fun y => if y.id = id then { y with due := y.due - 1 } else y) }

/-- A send starts: its header goes to this chip's engine over the mesh, or to another chip's over the Strait; with no port up
it fails (15 R346, R348). -/
def State.startSend (s : State) (x : Sending) : State :=
  let h := x.hdr
  let s : State := { s with sends := s.sends ++ [x] }
  match s.rankChip h.comm h.dst with
  | none => s
  | some chip =>
    if chip = s.chip.toNat then
      s.modEngine (engineOf h.comm) (fun g => { g with wire := g.wire ++ [(s.clk + engineTime x.core (engineOf h.comm), h)] })
    else if (s.egressPort chip).isNone then s.failSend x 7 x.va.toNat
    else s.sendFlit (s.flitTo chip x.part 0 0 (.header (engineOf h.comm) h))

/-- XSEND (07 R193): only status 0 counts on the token and takes a footprint entry. -/
def opXsend (d a b : Reg) (k : Reg3) : M Unit := do
  let va ← readX a
  let pay ← readX b
  let ws ← readLocal va 16 4
  let w0 := (nth ws 0 0).toNat
  let w1 := (nth ws 1 0).toNat
  let comm := bitsAt w0 48 16
  let dst := bitsAt w0 28 20
  let src := bitsAt w0 8 20
  let len := bitsAt w1 0 32
  let s ← get
  let part := s.partOf s.cur
  let st := s.sendStatus part comm src dst
  claimX d
  if st = 0 then do
    match payloadPlace pay len with
    | some c => fault c pay
    | none => pure ()
    let id ← enterAsync k.toNat true true (if len = 0 then [] else [(pay.toNat, len)]) []
    let g := s.engine (engineOf comm)
    let num := g.nextNumber (comm, src, dst)
    let h : MsgHeader := { comm := comm, src := src, dst := dst, tag := bitsAt w1 32 32, len := len, number := num,
                           sender := s.chip.toNat, inc := s.inc.toNat, part := part, cmd := id, payload := [], refusals := 0 }
    let item : Sending := ⟨id, s.cur, k.toNat, part, pay, h, s.issue.word, 0⟩
    modify (fun s => s.modEngine (engineOf comm) (fun g => { g with numbering := setTriple g.numbering (comm, src, dst) (num + 1) }))
    modify (fun s => s.startSend item)
  else pure ()
  writeXLate d (BitVec.ofNat 64 st) 2

/-! ### Journal commands (07 R194, 16 R357-R361) -/

/-- The partition of a core journals (16 R361). -/
def State.journals (s : State) (c : Nat) : Bool := s.journal.enable.getLsbD (s.partOf c)

/-- Records in the append buffer or on their way to it (16 R358). -/
def State.buffered (s : State) : Nat :=
  s.journal.buffer.length + (s.cores.map (fun c => (c.2.recs.filter (fun r => r.trunc.isNone)).length)).sum

/-- Sends a record or a truncation to the unit. -/
def toJournal (words : List Word) (addr : Word) (trunc : Option (Nat × Nat)) (d : Reg) : M Unit := do
  let id ← freshId
  let s ← get
  modHere (fun k => { k with
    recs := k.recs ++ [⟨id, words, addr, trunc, s.clk⟩]
    waits := k.waits ++ (if d = 0 then [] else [⟨id, .x d.toNat, .none⟩]) })

/-- JREC (07 R194). -/
def opJrec (d a : Reg) : M Unit := do
  journalGate
  let va ← readX a
  let ws ← readLocal va 32 4
  let w := nth ws 0 0
  require (decide (w.toNat / 256 % 256 = 0) && decide (1 ≤ w.toNat % 256) && decide (w.toNat % 256 ≤ 4)) .operandRange w
  let s ← get
  require (s.journals s.cur) .journalState
  claimX d
  await (decide (s.buffered < 4096))
  toJournal ws va none d

/-- JSYNC (07 R194). -/
def opJsync (a : Reg) (k : Reg3) : M Unit := do
  journalGate
  let j ← readX a
  let s ← get
  require (decide (j.toNat ≤ s.journal.last)) .operandRange j
  let id ← enterAsync k.toNat true true [] []
  modHere (fun c => { c with jsyncs := c.jsyncs ++ [(id, j.toNat, k.toNat)] })

/-- JTRUNC: queues behind the core's earlier JRECs (07 R194, 16 R376). -/
def opJtrunc (a b : Reg) : M Unit := do
  journalGate
  let q ← readX a
  let p ← readX b
  require (decide (q.toNat < 2 ^ 48)) .operandRange q
  let s ← get
  require (s.journals s.cur) .journalState
  await (decide (s.buffered < 4096))
  toJournal [] 0 (some (q.toNat, p.toNat)) 0

/-- JSTAT (07 R194). -/
def opJstat (d a : Reg) : M Unit := do
  let sel ← readX a
  require (decide (sel.toNat ≤ 3)) .operandRange sel
  let s ← get
  let j := s.journal
  writeXLate d (BitVec.ofNat 64 (match sel.toNat with
    | 0 => j.last
    | 1 => j.acked
    | 2 => j.state * 4096 + j.partner
    | _ => j.buffer.length)) 2

/-! ### The sampler generator (07 R195) -/

/-- One round of RNGC. -/
def rngRound (k0 k1 : Word) (x : Word × Word) (r : Nat × Nat) : Word × Word :=
  let x0 := x.1 + x.2
  let x1 := (x.2.rotateLeft r.2) ^^^ x0
  if r.1 = 1 ∨ r.1 = 3 then (x0 + k1, x1 + k0 + BitVec.ofNat 64 ((r.1 + 1) / 2)) else (x0, x1)

/-- RNGC's sample. -/
def rngSample (c0 c1 k0 k1 : Word) : Word :=
  let x := [(0, 16), (1, 32), (2, 48), (3, 16)].foldl (rngRound k0 k1) (c0 ^^^ k0, c1 ^^^ k1 ^^^ 0x9e3779b97f4a7c15)
  x.1 + x.2

/-- RNGC. -/
def opRngc (d a b : Reg) : M Unit := do
  let c0 ← readX a
  let c1 ← readX (a + 1)
  let k0 ← readX b
  let k1 ← readX (b + 1)
  writeXLate d (rngSample c0 c1 k0 k1) 4

/-! ### Issue -/

/-- Issues XTEN. -/
def execXten (d a b : Reg) (s : State) : Host.Outcome State Fault Refusal := issueHalf (opXten d a b) s

/-- Issues XPOST. -/
def execXpost (d a : Reg) (s : State) : Host.Outcome State Fault Refusal := issueHalf (opXpost d a) s

/-- Issues XCAN. -/
def execXcan (d a : Reg) (s : State) : Host.Outcome State Fault Refusal := issueHalf (opXcan d a) s

/-- Issues XPROBE. -/
def execXprobe (d a : Reg) (s : State) : Host.Outcome State Fault Refusal := issueHalf (opXprobe d a) s

/-- Issues XSEND. -/
def execXsend (d a b : Reg) (k : Reg3) (s : State) : Host.Outcome State Fault Refusal := issueHalf (opXsend d a b k) s

/-- Issues JREC. -/
def execJrec (d a : Reg) (s : State) : Host.Outcome State Fault Refusal := issueHalf (opJrec d a) s

/-- Issues JSYNC. -/
def execJsync (a : Reg) (k : Reg3) (s : State) : Host.Outcome State Fault Refusal := issueHalf (opJsync a k) s

/-- Issues JTRUNC. -/
def execJtrunc (a b : Reg) (s : State) : Host.Outcome State Fault Refusal := issueHalf (opJtrunc a b) s

/-- Issues JSTAT. -/
def execJstat (d a : Reg) (s : State) : Host.Outcome State Fault Refusal := issueHalf (opJstat d a) s

/-- Issues RNGC. -/
def execRngc (d a b : Reg) (s : State) : Host.Outcome State Fault Refusal := issueHalf (opRngc d a b) s

end Sys2Proof.Machine
end

