-- ==== Sys2Proof/Machine/Messages.lean ====
section
/-!
DEFINITION. The receive engines: posts, cancels, probes and tensor maps, admission and matching, refusal and retry,
landings, pulls and completions (07 R191-R193, 15 R330-R346).
-/

namespace Sys2Proof.Machine

/-! ### Tensor records (02 R68, 15 R333, R334) -/

/-- 32-bit word `i` of a tensor record. -/
def tensorWord (ws : List Word) (i : Nat) : Nat := bitsAt (nth ws (i / 2) 0).toNat (32 * (i % 2)) 32

/-- Format, rank, base, extents and strides. -/
def tensorFmt (ws : List Word) : Nat := bitsAt (tensorWord ws 0) 12 4
def tensorRank (ws : List Word) : Nat := bitsAt (tensorWord ws 0) 16 2 + 1
def tensorBase (ws : List Word) : Nat := (nth ws 1 0).toNat
def tensorExtent (ws : List Word) (d : Nat) : Nat := tensorWord ws (4 + d)
def tensorStride (ws : List Word) (d : Nat) : Nat := tensorWord ws (8 + d)

/-- A 4-bit format: Q2, I4 or N4. -/
def tensorNibble (ws : List Word) : Bool := tensorFmt ws == 7 || tensorFmt ws == 10 || tensorFmt ws == 11

/-- Bytes of an element, or of a pair of elements of a 4-bit format. -/
def tensorUnit (ws : List Word) : Nat := if tensorFmt ws = 0 then 4 else if tensorFmt ws ≤ 2 then 2 else 1

/-- Digits of dimension d. -/
def tensorDigits (ws : List Word) (d : Nat) : Nat :=
  if d = 0 ∧ tensorNibble ws then tensorExtent ws 0 / 2 else tensorExtent ws d

/-- T: the bytes of a tensor. -/
def tensorBytes (ws : List Word) : Nat :=
  ((List.range (tensorRank ws)).map (tensorDigits ws)).foldl (· * ·) (tensorUnit ws)

/-- Offset from the base of an index given by its digits. -/
def tensorOffset (ws : List Word) : List Nat → Nat → Nat → Nat
  | [], _, _ => 0
  | d :: rest, e, _ =>
    let n := tensorDigits ws d
    let i := if n = 0 then 0 else e % n
    (if d = 0 ∧ tensorNibble ws then 2 * i else i) * tensorStride ws d + tensorOffset ws rest (if n = 0 then 0 else e / n) 0

/-- Address of tensor byte position q. -/
def tensorAddr (ws : List Word) (q : Nat) : Nat :=
  (tensorBase ws + tensorOffset ws (List.range (tensorRank ws)) (q / tensorUnit ws) 0 + q % tensorUnit ws) % 2 ^ 64

/-- Runs of `n` positions from `q`: offset, address, length; one run an element. -/
def tensorRuns (ws : List Word) : Nat → Nat → Nat → Nat → List (Nat × Nat × Nat)
  | 0, _, _, _ => []
  | f + 1, q, off, n =>
    if n = 0 then []
    else
      let m := min n (tensorUnit ws - q % tensorUnit ws)
      (off, tensorAddr ws q, m) :: tensorRuns ws f (q + m) (off + m) (n - m)

/-- A record that XTEN refuses (15 R333). -/
def tensorInvalid (k : Cluster) (ws : List Word) : Bool :=
  let r := tensorRank ws
  let last := tensorAddr ws (tensorBytes ws - 1)
  let base := BitVec.ofNat 64 (tensorBase ws)
  decide (12 ≤ tensorFmt ws) || (List.range 4).any (fun d => decide (d < r) == decide (tensorExtent ws d = 0)) ||
    (match placeOf base with | .own _ => true | _ => false) || (tensorNibble ws && tensorExtent ws 0 % 2 == 1) ||
    (match placeOf base, placeOf (BitVec.ofNat 64 last) with
      | .window _, .window v => (k.windowCluster v).isNone
      | .window _, _ => true
      | _, _ => false)

/-- The record that a program maps a tensor number to. -/
def State.tensorOf (s : State) (region n : Nat) : Option (List Word) :=
  match (mget s.progs region).bind (fun p => mget p.tens n) with
  | some i => (mget s.tensors i).map (fun t => t.words)
  | none => none

/-! ### Posts (07 R192, 15 R335, R336) -/

/-- Fields of a post descriptor. -/
def postComm (ws : List Word) : Nat := bitsAt (nth ws 0 0).toNat 48 16
def postQueue (ws : List Word) : Nat := bitsAt (nth ws 2 0).toNat 48 16
def postTensor (ws : List Word) : Nat := bitsAt (nth ws 2 0).toNat 32 10
def postMax (ws : List Word) : Nat := bitsAt (nth ws 2 0).toNat 0 32
def postOffset (ws : List Word) : Nat := (nth ws 3 0).toNat

/-- A header matches a descriptor's words 0 and 1 (15 R335). -/
def State.fits (s : State) (part : Nat) (ws : List Word) (h : MsgHeader) : Bool :=
  let w0 := (nth ws 0 0).toNat
  let w1 := (nth ws 1 0).toNat
  decide (h.comm = bitsAt w0 48 16) && decide ((bitsAt w0 28 20 ^^^ h.src) &&& bitsAt w0 8 20 = 0) &&
    decide ((bitsAt w1 32 32 ^^^ h.tag) &&& bitsAt w1 0 32 = 0) &&
    decide ((mget s.comms h.comm).bind (fun m => m.holder h.dst) = some part)

/-- Slot `n` of an engine. -/
def Engine.slot (g : Engine) (n : Nat) : Post := mgetD g.slots n Post.free

/-- A slot is taken. -/
def Engine.busy (g : Engine) (n : Nat) : Bool := decide ((g.slot n).state ≠ .free)

/-- Slots that a partition holds. -/
def Engine.held_ (g : Engine) (part : Nat) : Nat :=
  (g.slots.filter (fun p => decide (p.2.part = part) && decide (p.2.state ≠ .free))).length

/-- The next slot in rotation that is not busy. -/
def Engine.pick (g : Engine) : Option Nat :=
  ((List.range 16384).map (fun j => (g.nextSlot + j) % 16384)).find? (fun n => !g.busy n)

/-- The checks of a post in order (15 R336); 0 when all pass. -/
def State.postStatus (s : State) (e : Nat) (r : EngReq) (ws : List Word) : Nat :=
  let g := s.engine e
  if (mget s.comms (postComm ws)).isNone || !s.hasShare e r.part then 4
  else match s.tensorOf r.region (postTensor ws) with
    | none => 2
    | some t =>
      if tensorBytes t < postOffset ws + postMax ws then 3
      else match mget s.queues (postQueue ws), s.part? r.part with
        | some q, some p =>
          if q.words ≠ 4 ∨ postQueue ws < p.qLo ∨ p.qLo + p.qN ≤ postQueue ws then 5
          else if (mgetD g.shares r.part (0, 0, 0)).1 ≤ g.held_ r.part ∨ g.pick.isNone then 1
          else 0
        | _, _ => 5

/-- A post handle (07 R192). -/
def postHandle (e slot gen : Nat) : Word := BitVec.ofNat 64 (2 ^ 31 + gen * 2 ^ 20 + e * 2 ^ 16 + slot)

/-- The handle of a refused post: its status and engine; no slot is taken, so slot and generation are open (log 21). -/
def refusedHandle (e status clk : Nat) : Word :=
  BitVec.ofNat 64 (status * 2 ^ 28 + Config.refusedGeneration clk % 256 * 2 ^ 20 + e * 2 ^ 16 + Config.refusedSlot clk % 16384)

/-- Removes command i of the inbox and sends an answer, which arrives after the mesh time. -/
def State.engineAnswers (s : State) (e i : Nat) (r : EngReq) (v : Word) (after : Nat) : State :=
  s.modEngine e (fun g => { g with
    inbox := dropAt g.inbox i
    answers := g.answers ++ [(r.core, r.id, v, s.clk + after + engineTime r.core e)] })

/-- Command i has arrived; no earlier command of its core, and none that has arrived of a core of lower index, waits (15 R336). -/
def Engine.taken (g : Engine) (clk i : Nat) : Option EngReq :=
  match g.inbox[i]? with
  | some r =>
    let before := (g.inbox.take i).any (fun x => decide (x.core = r.core))
    let lower := g.inbox.any (fun x => decide (x.core < r.core) && decide (x.at_ ≤ clk))
    if r.at_ ≤ clk ∧ !before ∧ !lower then some r else none
  | none => none

/-- A post is matched by a header: it is next in match order and lands from clk `ready` (15 R343, R346). -/
def Engine.matchSlot (g : Engine) (n : Nat) (p : Post) (h : MsgHeader) (ready : Nat) : Engine :=
  { g with
    slots := mset g.slots n { p with state := .matched, msg := some h, landed := 0, status := 0, order := g.matches_, ready := ready }
    posted := g.posted.filter (fun x => decide (x ≠ n))
    matches_ := g.matches_ + 1 }

/-- POST_AT_ENGINE (15 R336, R346): the checks, and the slot that the post takes; its decision comes 4 clk later. -/
def execPostAtEngine (e i : Nat) (s : State) : Host.Outcome State Fault Refusal :=
  let g := s.engine e
  match g.taken s.clk i with
  | some r => match r.cmd with
    | .post ws =>
      let st := s.postStatus e r ws
      match (if st = 0 then g.pick else none) with
      | none => .next (s.engineAnswers e i r (refusedHandle e st s.clk) 4)
      | some n =>
        let old := g.slot n
        let gen := if old.uses = 0 then old.gen else (old.gen + 1) % 256
        let p : Post := { Post.free with words := ws, part := r.part, region := r.region, core := r.core, state := .posted,
                                         gen := gen, uses := old.uses + 1 }
        let t := s.engineAnswers e i r (postHandle e n gen) 4
        .next (t.modEngine e (fun g => { g with
          nextSlot := (n + 1) % 16384, slots := mset g.slots n p, deciding := g.deciding ++ [(s.clk + 4, .post n)] }))
    | _ => .next s
  | none => .next s

/-- XCAN's answer (15 R345); a slot that its last cancel freed counts as stale. -/
def Engine.cancelStatus (g : Engine) (part : Nat) (h : Nat) : Nat :=
  let p := g.slot (h % 16384)
  if bitsAt h 31 1 = 0 ∨ p.uses = 0 ∨ p.part ≠ part ∨ p.gen ≠ bitsAt h 20 8 then 2
  else match p.state with
    | .posted => 0
    | .free => if p.msg.isSome then 1 else 2
    | _ => 1

/-- CANCEL_AT_ENGINE (15 R345). -/
def execCancelAtEngine (e i : Nat) (s : State) : Host.Outcome State Fault Refusal :=
  let g := s.engine e
  match g.taken s.clk i with
  | some r => match r.cmd with
    | .cancel h =>
      let st := g.cancelStatus r.part h.toNat
      let n := h.toNat % 16384
      let t := s.engineAnswers e i r (BitVec.ofNat 64 st) 1
      .next (if st = 0 then t.modEngine e (fun g => { g with
          slots := mset g.slots n { g.slot n with state := .free }
          posted := g.posted.filter (fun x => decide (x ≠ n)) }) else t)
    | _ => .next s
  | none => .next s

/-- PROBE_AT_ENGINE (07 R191, 15 R345). -/
def execProbeAtEngine (e i : Nat) (s : State) : Host.Outcome State Fault Refusal :=
  let g := s.engine e
  match g.taken s.clk i with
  | some r => match r.cmd with
    | .probe ws =>
      let v : Word := match g.unexpected.find? (s.fits r.part ws) with
        | some h => BitVec.ofNat 64 (2 ^ 63 + h.src * 2 ^ 32 + h.len)
        | none => 0
      .next (s.engineAnswers e i r v 1)
    | _ => .next s
  | none => .next s

/-- An active post names a tensor number of a program. -/
def State.tensorBusy (s : State) (region n : Nat) : Bool :=
  s.engines.any (fun g => g.2.slots.any (fun p =>
    decide (p.2.state ≠ .free) && decide (p.2.region = region) && decide (postTensor p.2.words = n)))

/-- Maps a tensor number of a program onto a free entry; the old entry is freed (15 R333). -/
def State.mapTensor (s : State) (part region n : Nat) (p : Program) (ws : List Word) : Option State :=
  let old := mget p.tens n
  match (match old with | some i => some i | none => firstFree (fun i => (mget s.tensors i).isSome) 16384 0) with
  | none => none
  | some i => some { s with
      tensors := mset s.tensors i ⟨part, region, ws⟩
      progs := mset s.progs region { p with tens := mset p.tens n i } }

/-- TENSOR_MAP_AT_ENGINE (07 R191, 15 R333). -/
def execTensorMapAtEngine (e i : Nat) (s : State) : Host.Outcome State Fault Refusal :=
  match (s.engine e).taken s.clk i with
  | some r => match r.cmd with
    | .xten n ws =>
      let say (s : State) (v : Nat) : Host.Outcome State Fault Refusal := .next (s.engineAnswers e i r (BitVec.ofNat 64 v) 1)
      match mget s.progs r.region with
      | none => say s 2
      | some p =>
        if tensorInvalid (s.cl r.region) ws then say s 2
        else if s.tensorBusy r.region n then say s 3
        else match s.mapTensor r.part r.region n p ws with
          | none => say s 1
          | some t => say t 0
    | _ => .next s
  | none => .next s

/-- ENGINE_ANSWER (07 R191). -/
def execEngineAnswer (core id : Nat) (s : State) : Host.Outcome State Fault Refusal :=
  let mine (a : Nat × Nat × Word × Nat) : Bool := decide (a.1 = core) && decide (a.2.1 = id)
  match s.engines.find? (fun p => p.2.answers.any mine) with
  | none => .next s
  | some (e, g) => match g.answers.find? mine with
    | none => .next s
    | some a => whenOk (decide (a.2.2.2 ≤ s.clk) && s.canAnswer core id) s
        ((s.modEngine e (fun g => { g with answers := g.answers.filter (fun x => !mine x) })).answer core id [a.2.2.1.setWidth 1024])

/-! ### Payloads (07 R193, 15 R340) -/

/-- What a read of a payload, or a landing, gives: the bytes; a wait; or a failure and its address. -/
inductive Payload where
  | ok (bytes : List Byte)
  | wait
  | bad (status va : Nat)
  deriving DecidableEq, Repr

/-- Reads `n` bytes of a send's payload from offset `off`, after the core's earlier commands and accesses on them and its earlier
acquires (05 R137, 07 R193, 13 R302, 15 R340). -/
def State.payload (s : State) (x : Sending) (off n : Nat) : Payload × State :=
  let va := (x.va.toNat + off) % 2 ^ 64
  if (s.core x.core).footBlocked x.id [(x.va.toNat, x.hdr.len)] [] then (.wait, s)
  else match s.partsOf (.command x.id) x.core [] true false false [(0, va, n)] with
  | (.wait, _, t) => (.wait, t)
  | (.absent _, _, t) => (.wait, t)
  | (.bad st va, _, t) => (.bad st va, t)
  | (.ok parts, _, t) =>
    if t.accessHeld x.core x.id false (t.keysOf parts) then (.wait, t)
    else match parts.find? (fun p => !t.isHere p.2.1) with
    | some p => (.bad 5 ((va + p.1) % 2 ^ 64), t)
    | none =>
      match t.poisonIn parts with
      | some o => (.bad 13 ((va + o) % 2 ^ 64), t)
      | none => (.ok (t.readParts x.core parts), t)

/-! ### Headers (15 R337-R341) -/

/-- A header's triple. -/
def MsgTriple (h : MsgHeader) : Nat × Nat × Nat := (h.comm, h.src, h.dst)

/-- The number that is decided next for a triple. -/
def Engine.expects (g : Engine) (t : Nat × Nat × Nat) : Nat :=
  match g.expected.find? (fun p => decide (p.1 = t)) with | some p => p.2 | none => 0

/-- An admitted header of a triple. -/
def Admission.ofTriple (t : Nat × Nat × Nat) : Admission → Bool
  | .header h => decide (MsgTriple h = t)
  | .post _ => false

/-- The number that is admitted next: those already admitted wait for their decisions. -/
def Engine.admits (g : Engine) (t : Nat × Nat × Nat) : Nat :=
  g.expects t + (g.deciding.filter (fun p => p.2.ofTriple t)).length

/-- Held headers whose turn has come are admitted. -/
def Engine.admitHeld : Nat → Engine → Nat × Nat × Nat → Nat → Engine
  | 0, g, _, _ => g
  | f + 1, g, t, due =>
    match g.held.find? (fun h => decide (MsgTriple h = t) && decide (h.number = g.admits t)) with
    | none => g
    | some h => Engine.admitHeld f { g with held := g.held.erase h, deciding := g.deciding ++ [(due, .header h)] } t due

/-- The back-off of a refused message: 1,024 clk, doubled at each refusal up to 65,536 (15 R341). -/
def backoff (refusals : Nat) : Nat := min (1024 * 2 ^ min refusals 6) 65536

/-- The sending engine takes back a refused header. -/
def Engine.takeBack (g : Engine) (h : MsgHeader) (clk : Nat) : Engine :=
  let w := backoff h.refusals
  { g with refused := g.refused ++ [({ h with refusals := h.refusals + 1 }, w, clk + w)] }

/-- The partition that a message is for. -/
def State.partFor (s : State) (h : MsgHeader) : Nat := ((mget s.comms h.comm).bind (fun m => m.holder h.dst)).getD 0

/-- HEADER_REFUSED (15 R341): the header returns to its sending engine, which has kept its payload. -/
def State.refuse (s : State) (e : Nat) (h : MsgHeader) : State :=
  if h.sender = s.chip.toNat then s.modEngine e (fun g => g.takeBack h s.clk)
  else s.sendFlit (s.flitTo h.sender (s.partFor h) 0 0 (.refusal e { h with payload := [] }))

/-- A header is held for its turn, or refused when the reorder store of 64 is full. -/
def State.holdOrRefuse (s : State) (e : Nat) (h : MsgHeader) : State :=
  if (s.engine e).held.length < 64 then s.modEngine e (fun g => { g with held := g.held ++ [h] }) else s.refuse e h

/-- A header is admitted if it carries the expected number (15 R338). -/
def State.letIn (s : State) (e : Nat) (h : MsgHeader) : State :=
  let g := s.engine e
  let t := MsgTriple h
  if h.number = g.admits t then
    s.modEngine e (fun g => Engine.admitHeld 64 { g with deciding := g.deciding ++ [(s.clk + 4, .header h)] } t (s.clk + 4))
  else s.holdOrRefuse e h

/-- The header that an engine takes next: the first to have arrived (15 R336). -/
def Engine.firstHeader (g : Engine) (clk : Nat) : Option Nat :=
  (g.wire.zipIdx.filter (fun w => decide (w.1.1 ≤ clk))).foldl (fun b w => match b with
    | none => some w.2
    | some i => if w.1.1 < ((g.wire[i]?).map (fun x => x.1)).getD 0 then some w.2 else b) none

/-- MESSAGE_HEADER_ARRIVAL (15 R338, R340; 07 R193): the payload of an eager message of this chip is read as its flits
form, and one whose read fails is not sent. -/
def execMessageHeaderArrival (e i : Nat) (s : State) : Host.Outcome State Fault Refusal :=
  match (s.engine e).wire[i]? with
  | none => .next s
  | some (_, h) =>
    if (s.engine e).firstHeader s.clk ≠ some i then .next s
    else
      let t := s.modEngine e (fun g => { g with wire := dropAt g.wire i })
      match (if h.sender = s.chip.toNat ∧ h.len ≤ 4096 then s.sendOf h.cmd else none) with
      | none => .next (t.letIn e h)
      | some x =>
        match t.payload x 0 h.len with
        | (.wait, u) => .next (u.modEngine e (fun g => { g with wire := g.wire ++ [(s.clk + 1, h)] }))
        | (.bad st va, u) => .next (u.failSend x st va)
        | (.ok bs, u) => .next ((u.finishSend x).letIn e { h with payload := bs })

/-- Headers and payload bytes that a partition's unexpected messages hold. -/
def State.unexpectedOf (s : State) (e part : Nat) : List MsgHeader :=
  (s.engine e).unexpected.filter (fun h => decide ((mget s.comms h.comm).bind (fun m => m.holder h.dst) = some part))

/-- The unexpected queue has room for a header in its partition's share (15 R331). -/
def State.unexpectedRoom (s : State) (e : Nat) (h : MsgHeader) : Bool :=
  match (mget s.comms h.comm).bind (fun m => m.holder h.dst) with
  | none => false
  | some part =>
    let l := s.unexpectedOf e part
    let sh := mgetD (s.engine e).shares part (0, 0, 0)
    decide (l.length < sh.2.1) && decide ((l.map (fun x => x.payload.length)).sum + h.payload.length ≤ sh.2.2)

/-- A decided header: the next of its triple is expected. -/
def Engine.decided (g : Engine) (h : MsgHeader) (clk : Nat) : Engine :=
  let t := MsgTriple h
  Engine.admitHeld 64 { g with expected := setTriple g.expected t (h.number + 1) } t (clk + 4)

/-- An admitted header's decision: the first post in post order that matches wins; else the header joins the unexpected
queue, or is refused when its partition's share is full (15 R337, R339). -/
def State.decideHeader (s : State) (e : Nat) (h : MsgHeader) : State :=
  let g := s.engine e
  match g.posted.find? (fun n => s.fits (g.slot n).part (g.slot n).words h) with
  | some n => s.modEngine e (fun g => (g.matchSlot n (g.slot n) h (s.clk + 1)).decided h s.clk)
  | none =>
    if s.unexpectedRoom e h then
      s.modEngine e (fun g => ({ g with unexpected := g.unexpected ++ [h] } : Engine).decided h s.clk)
    else s.refuse e h

/-- A post's decision: the first unexpected message in arrival order that matches, or the end of the posted list (15 R336). -/
def State.decidePost (s : State) (e n : Nat) : State :=
  let p := (s.engine e).slot n
  s.modEngine e (fun g => match g.unexpected.find? (s.fits p.part p.words) with
    | some h => { (g.matchSlot n p h (s.clk + 1)) with unexpected := g.unexpected.erase h }
    | none => { g with posted := g.posted ++ [n] })

/-- MATCH_DECISION (15 R336-R339, R346): in the order of the events; headers of one triple are decided in number order. -/
def execMatchDecision (e i : Nat) (s : State) : Host.Outcome State Fault Refusal :=
  match (s.engine e).deciding[i]? with
  | none => .next s
  | some (due, a) =>
    let t := s.modEngine e (fun g => { g with deciding := dropAt g.deciding i })
    whenOk (decide (due ≤ s.clk) && decide (i = 0)) s (match a with
      | .post n => t.decidePost e n
      | .header h => if h.number = (s.engine e).expects (MsgTriple h) then t.decideHeader e h else t.holdOrRefuse e h)

/-- RETRY_BACKOFF_EXPIRY (15 R341): retries of one triple go in number order; one that no route leads on waits for a route. -/
def execRetryBackoffExpiry (e i : Nat) (s : State) : Host.Outcome State Fault Refusal :=
  match (s.engine e).refused[i]? with
  | none => .next s
  | some (h, _, at_) =>
    let first := !(s.engine e).refused.any (fun r => decide (MsgTriple r.1 = MsgTriple h) && decide (r.1.number < h.number))
    let t := s.modEngine e (fun g => { g with refused := dropAt g.refused i })
    whenOk (decide (at_ ≤ s.clk) && first) s
      (match s.rankChip h.comm h.dst with
        | none => s
        | some chip =>
          if chip = s.chip.toNat then t.modEngine e (fun g => { g with wire := g.wire ++ [(s.clk + 2, h)] })
          else t.sendFlit (s.flitTo chip h.part 0 0 (.header e h)))

/-! ### Landings (15 R340, R342-R344) -/

/-- Changes a post. -/
def State.modPost (s : State) (e n : Nat) (f : Post → Post) : State :=
  s.modEngine e (fun g => { g with slots := mset g.slots n (f (g.slot n)) })

/-- Bytes of a message that a post lands. -/
def Post.landLen (p : Post) (h : MsgHeader) : Nat := min h.len (postMax p.words)

/-- The landing ends with a status; its bytes are in place by clk `ready`. -/
def Post.ends (p : Post) (h : MsgHeader) (failed : Option Nat) (ready : Nat) : Post :=
  { p with
    state := .completing, buf := [], parts := [], got := [], asked := false, pulling := false, ready := ready
    status := match failed with | some n => n | none => if postMax p.words < h.len then 1 else 0 }

/-- Writes bytes at tensor positions from the post's offset and what has landed on: one round (15 R344). -/
def State.land (s : State) (e slot : Nat) (p : Post) (bs : List Byte) : Payload × State :=
  match s.tensorOf p.region (postTensor p.words) with
  | none => (.bad 5 0, s)
  | some ws =>
    let runs := tensorRuns ws bs.length (postOffset p.words + p.landed) 0 bs.length
    match runs.find? (fun r => match placeOf (BitVec.ofNat 64 r.2.1) with | .own _ => true | _ => false) with
    | some r => (.bad 5 r.2.1, s)
    | none =>
      let keep (t : State) (got : FMap Nat) : State := t.modPost e slot (fun p => { p with got := got })
      match s.partsOf (.post e slot) (8 * p.region) p.got false true false runs with
      | (.wait, got, t) => (.wait, keep t got)
      | (.absent _, got, t) => (.wait, keep t got)
      | (.bad st va, _, t) => (.bad st va, t)
      | (.ok parts, got, t) =>
        if parts.any (fun q => !t.isHere q.2.1) then (.bad 5 0, t)
        else if (t.keysOf parts).any (fun q => t.shownHolds none true q.1 q.2) then (.wait, keep t got)
        else (.ok bs, t.writeParts (parts.map (fun q => (paKey q.2.1, (bs.drop q.1).take q.2.2))))

/-- EAGER_LANDING (15 R340, R342): at 64 bytes per clk. -/
def execEagerLanding (e slot : Nat) (s : State) : Host.Outcome State Fault Refusal :=
  let p := (s.engine e).slot slot
  match p.msg with
  | none => .next s
  | some h =>
    if p.state ≠ .matched ∨ 4096 < h.len ∨ s.clk < p.ready ∨ (s.cl (clusterOf p.core)).frozen then .next s
    else
      let bs := h.payload.take (p.landLen h)
      match s.land e slot p bs with
      | (.wait, t) => .next t
      | (.bad _ _, t) => .next (t.modPost e slot (fun p => p.ends h (some 3) (s.clk + 1)))
      | (.ok _, t) => .next (t.modPost e slot (fun p => { p.ends h none (s.clk + (bs.length + 63) / 64) with landed := bs.length }))

/-- The sender learns that its payload has been pulled. -/
def State.endPull (s : State) (e slot : Nat) (h : MsgHeader) : State :=
  if h.sender = s.chip.toNat then
    (match s.sendOf h.cmd with | some x => s.finishSend x | none => s)
  else s.sendFlit (s.flitTo h.sender (s.partFor h) 0 0 (.pullAsk h 0 0 true e slot))

/-- RENDEZVOUS_PULL (15 R340): the copy engine of the post's core pulls the next round from the sending engine; a sending chip
that has been reset since ends it (15 R343). -/
def execRendezvousPull (e slot : Nat) (s : State) : Host.Outcome State Fault Refusal :=
  let p := (s.engine e).slot slot
  match p.msg with
  | none => .next s
  | some h =>
    let n := p.landLen h
    let m := min 4096 (n - p.landed)
    if p.state ≠ .matched ∨ h.len ≤ 4096 ∨ s.clk < p.ready ∨ p.asked ∨ !p.buf.isEmpty ∨ (s.cl (clusterOf p.core)).frozen ∨
        (!p.pulling ∧ 64 ≤ (s.core p.core).flying + s.pullsOf p.core) then .next s
    else if h.sender ≠ s.chip.toNat ∧ (s.incarnationOf h.sender).any (fun n => decide (n ≠ h.inc)) then
      .next (s.modPost e slot (fun p => p.ends h (some 2) (s.clk + 1)))
    else if m = 0 then .next ((s.endPull e slot h).modPost e slot (fun p => p.ends h none (s.clk + 1)))
    else if h.sender ≠ s.chip.toNat then
      .next ((s.sendFlit (s.flitTo h.sender (s.partFor h) 0 0 (.pullAsk h p.landed m (decide (p.landed + m = n)) e slot))).modPost e slot
        (fun p => { p with asked := true, pulling := true }))
    else match s.sendOf h.cmd with
      | none => .next (s.modPost e slot (fun p => p.ends h (some 3) (s.clk + 1)))
      | some x =>
        match s.payload x p.landed m with
        | (.wait, t) => .next t
        | (.bad st va, t) => .next ((t.failSend x st va).modPost e slot (fun p => p.ends h (some 3) (s.clk + 1)))
        | (.ok bs, t) =>
          let t := t.modPost e slot (fun p => { p with buf := bs, pulling := true, ready := s.clk + (m + 63) / 64 })
          .next (if p.landed + m = n then t.finishSend x else t)

/-- LANDING_ROUND (15 R344): a pulled round is translated and written. -/
def execLandingRound (e slot : Nat) (s : State) : Host.Outcome State Fault Refusal :=
  let p := (s.engine e).slot slot
  match p.msg with
  | none => .next s
  | some h =>
    if p.state ≠ .matched ∨ p.buf.isEmpty ∨ s.clk < p.ready then .next s
    else
      match s.land e slot p p.buf with
      | (.wait, t) => .next t
      | (.bad _ _, t) =>
        let t := if p.landed + p.buf.length = p.landLen h then t else t.endPull e slot h
        .next (t.modPost e slot (fun p => p.ends h (some 3) (s.clk + 1)))
      | (.ok _, t) =>
        let landed := p.landed + p.buf.length
        .next (t.modPost e slot (fun p =>
          if landed = p.landLen h then { p.ends h none (s.clk + 1) with landed := landed }
          else { p with landed := landed, buf := [], got := [], ready := s.clk + 1 }))

/-! ### Completions (15 R336, R343) -/

/-- The completion item (15 R343). -/
def completionItem (e slot : Nat) (p : Post) (h : MsgHeader) : List Word :=
  [ nth p.words 4 0, BitVec.ofNat 64 (h.tag * 2 ^ 32 + p.landed),
    BitVec.ofNat 64 (h.comm * 2 ^ 48 + h.src * 2 ^ 28 + h.dst * 2 ^ 8 + p.status),
    BitVec.ofNat 64 (h.len * 2 ^ 32) ||| postHandle e slot p.gen ]

/-- The post that completes next in match order. -/
def Engine.oldest (g : Engine) : Option (Nat × Post) :=
  (g.slots.filter (fun p => decide (p.2.state = .matched) || decide (p.2.state = .completing))).foldl
    (fun b p => match b with | some q => if p.2.order < q.2.order then some p else b | none => some p) none

/-- An engine's item is on its way to a queue. -/
def Queue.onWay (q : Queue) (e : Nat) (last : Word) : Bool :=
  q.flight.any (fun f => decide (f.elem.src = .engine e) && decide (f.elem.words.getLast? = some last)) ||
    q.relays.any (fun r => r.2.any (fun x => decide (x.src = .engine e) && decide (x.words.getLast? = some last)))

/-- The queue is full as the engine sees it: storage and the engines' items on their way. -/
def Queue.fullFor (q : Queue) : Bool :=
  let coming := (q.flight.filter (fun f => match f.elem.src with | .engine _ => true | _ => false)).length
  q.branches.any (fun b => decide (q.capacity ≤ b.store.length + coming))

/-- COMPLETION_PUSH (15 R343): in match order, without a producer's credit; it waits while the queue is full. -/
def execCompletionPush (e : Nat) (s : State) : Host.Outcome State Fault Refusal :=
  match (s.engine e).oldest with
  | none => .next s
  | some (n, p) =>
    if p.state ≠ .completing ∨ s.clk < p.ready then .next s
    else match p.msg, mget s.queues (postQueue p.words) with
      | some h, some q =>
        let f : Flit := { elem := ⟨completionItem e n p h, false, s.journal.last, false, .engine e, none⟩, place := engineRouter e, port := 5,
                          stage := 0, branches := List.range q.branches.length, since := s.clk, credit := false,
                          seq := s.nextId, gate := [] }
        whenOk (!q.fullFor) s
          ({ s.setQ (postQueue p.words) { q with flight := q.flight ++ [f] } with nextId := s.nextId + 1 }.modPost e n
            (fun p => { p with state := .pushed }))
      | _, _ => .next (s.modPost e n (fun p => { p with state := .pushed }))

/-- POST_SLOT_FREE (15 R336): the completion item is in the queue's storage. -/
def execPostSlotFree (e slot : Nat) (s : State) : Host.Outcome State Fault Refusal :=
  let p := (s.engine e).slot slot
  match p.msg with
  | none => .next s
  | some h =>
    let last := (completionItem e slot p h).getLast?.getD 0
    let gone := match mget s.queues (postQueue p.words) with | some q => !q.onWay e last | none => true
    whenOk (decide (p.state = .pushed) && gone) s (s.modPost e slot (fun p => { p with state := .free }))

end Sys2Proof.Machine
end

