-- ==== Sys2Proof/Machine/Container.lean ====
section
/-!
DEFINITION. The `.gim` container and the checks of the image service: header, directory, signature, roles, placement,
queues and boot tree (01 R13-R32, 02 R66-R71, 08 R203, 09 R216-R225).
-/

namespace Sys2Proof.Machine

/-! ### Words and sections (01 R13-R16) -/

/-- 32-bit word `i` of a container; past its end, 0. -/
def wordAt (ws : List InstrWord) (i : Nat) : Nat := (ws.getD i 0).toNat

/-- A directory entry (01 R15): type, index, byte offset, length, load offset, reserved bits. -/
structure Section where
  typ   : Nat
  index : Nat
  off   : Nat
  len   : Nat
  load  : Nat
  rest  : Nat
  deriving DecidableEq, Repr

/-- The directory. -/
def sections (ws : List InstrWord) : List Section :=
  (List.range (wordAt ws 2)).map (fun i =>
    let w (j : Nat) : Nat := wordAt ws (8 + 4 * i + j)
    ⟨w 0 % 256, bitsAt (w 0) 8 8, w 1, w 2, w 3, bitsAt (w 0) 16 16⟩)

/-- The words of a section. -/
def Section.words (c : Section) (ws : List InstrWord) : List InstrWord := (ws.drop (c.off / 4)).take (c.len / 4)

/-- The sections of a type. -/
def ofType (l : List Section) (t : Nat) : List Section := l.filter (fun c => decide (c.typ = t))

/-- The words of the one section of a type, or none. -/
def sectionOf (ws : List InstrWord) (t : Nat) : Option (List InstrWord) :=
  (ofType (sections ws) t).head?.map (fun c => c.words ws)

/-- Bytes of words. -/
def bytesOf32 (ws : List InstrWord) : List Byte := ws.flatMap (fun w => leBytes 4 w.toNat)

/-- Elements without repeats. -/
def distinct (l : List Nat) : Bool := match l with | [] => true | a :: r => !r.contains a && distinct r

/-! ### Orders 1 to 3 (01 R13-R16, R28-R30) -/

/-- Order 1: the header. -/
def headerOk (ws : List InstrWord) : Bool :=
  let shape := wordAt ws 4
  decide (8 ≤ ws.length) && decide (wordAt ws 0 = 0x014d4947) && decide (wordAt ws 1 = 1) && decide (1 ≤ wordAt ws 2) &&
    decide (wordAt ws 2 ≤ 255) && decide (shape < 65536) && decide (1 ≤ shape / 256) && decide (shape / 256 ≤ 32) &&
    decide (1 ≤ shape % 256) && decide (shape % 256 ≤ 32) && decide (wordAt ws 5 < 2) && decide (wordAt ws 7 = 0)

/-- The active image key of an identifier: slots 1-31 (18 R412). -/
def State.imageKey (s : State) (id : Nat) : Option (List Byte) :=
  (s.keys.find? (fun k => decide (1 ≤ k.1) && decide (k.1 ≤ 31) && decide (k.2.state = 1) && decide (k.2.id = id))).map (fun k => k.2.key)

/-- Order 2: the signature section and its signature over the digest (01 R28, R29). Two signature sections fail here and not at
order 3, since neither is the last (DESIGN CHOICE, log 62). -/
def State.signatureOk (s : State) (ws : List InstrWord) : Bool :=
  match ofType (sections ws) 7 with
  | [c] =>
    let g := c.words ws
    decide (c.off = wordAt ws 3) && decide (c.off % 4 = 0) && decide (c.off + c.len = 4 * ws.length) && decide (c.len = 3328) &&
      decide (wordAt g 0 = 1) && decide (wordAt g 3 = 3309) && ((bytesOf32 (g.drop 4)).drop 3309).all (fun b => decide (b = 0)) &&
      (match s.imageKey (wordAt g 1 + wordAt g 2 * 2 ^ 32) with
        | none => false
        | some k => Config.mldsaVerify k (Config.sha3 (bytesOf32 (ws.take (c.off / 4)))) ((bytesOf32 (g.drop 4)).take 3309))
  | _ => false

/-- Two sections share a byte. -/
def Section.meets (a b : Section) : Bool := overlaps a.off a.len b.off b.len

/-- No two of a list meet. -/
def noneMeet : List Section → Bool
  | [] => true
  | c :: r => !r.any c.meets && noneMeet r

/-- A directory entry is well formed. -/
def Section.ok (c : Section) (n total : Nat) : Bool :=
  decide (c.rest = 0) && decide (c.typ ≠ 0) && !(decide (0x0a ≤ c.typ) && decide (c.typ < 0x80)) &&
    (decide (c.typ = 1) || decide (c.typ = 8) || decide (c.typ = 9) || decide (c.index = 0)) &&
    decide (c.off % 4 = 0) && decide (c.len % 4 = 0) && decide (32 + 16 * n ≤ c.off) && decide (c.off + c.len ≤ total) &&
    (if c.typ = 1 then decide (c.load % 8 = 0) else decide (c.load = 0))

/-- Gaps between sections hold zero bytes (01 R13). -/
def gapsZero (ws : List InstrWord) (n : Nat) (l : List Section) : Bool :=
  ws.zipIdx.all (fun p => decide (p.1 = 0) || decide (4 * p.2 < 32 + 16 * n) ||
    l.any (fun c => decide (c.off ≤ 4 * p.2) && decide (4 * p.2 < c.off + c.len)))

/-- Order 3: the directory. -/
def directoryOk (ws : List InstrWord) : Bool :=
  let l := sections ws
  let one (t : Nat) : Bool := decide ((ofType l t).length = 1)
  let most (t : Nat) : Bool := decide ((ofType l t).length ≤ 1)
  let apart (t : Nat) : Bool := distinct ((ofType l t).map (fun c => c.index))
  decide (32 + 16 * wordAt ws 2 ≤ 4 * ws.length) && l.all (fun c => c.ok (wordAt ws 2) (4 * ws.length)) && noneMeet l && gapsZero ws (wordAt ws 2) l &&
    one 2 && one 5 && one 7 && most 3 && most 4 && most 6 && apart 1 && apart 8 && apart 9

/-! ### Order 5: roles and the sections of directives (01 R17-R19, 02 R67-R71) -/

/-- A role image section (01 R17). -/
def roleOf (ws : List InstrWord) (l : List Section) (c : Section) : Role :=
  let g := c.words ws
  let h := bitsAt (wordAt g 0) 8 8
  let seg := ((ofType l 8).find? (fun d => decide (d.index = c.index))).map (fun d => d.words ws)
  let atoll := ((ofType l 9).find? (fun d => decide (d.index = c.index))).map (fun d => d.words ws)
  { num := wordAt g 0 % 256
    off := c.load
    ports := (List.range 8).map (fun p => (bitsAt (wordAt g (1 + p)) 16 2, wordAt g (1 + p) % 65536))
    handlers := (List.range h).map (fun i => (wordAt g (9 + i) / 65536, wordAt g (9 + i) % 65536))
    code := (g.drop (9 + h)).take (wordAt g 0 / 65536)
    dataOff := (seg.map (fun d => wordAt d 0)).getD 0
    data := (seg.map (fun d => (bytesOf32 (d.drop 2)).take (wordAt d 1))).getD []
    atoll := atoll }

/-- A role image is valid (01 R17, R19). -/
def roleOk (ws : List InstrWord) (c : Section) (r : Role) : Bool :=
  let g := c.words ws
  let n := wordAt g 0 / 65536
  let h := bitsAt (wordAt g 0) 8 8
  let inputs := (r.ports.filter (fun p => decide (p.1 = 1))).map (fun p => p.2)
  decide (1 ≤ n) && decide (n ≤ 16384) && decide (1 ≤ h) && decide (wordAt g 0 % 256 = c.index) && decide (c.len = 4 * (9 + h + n)) &&
    (List.range 8).all (fun p => decide (wordAt g (1 + p) / 2 ^ 18 = 0) && decide (bitsAt (wordAt g (1 + p)) 16 2 ≠ 3)) &&
    decide (c.load + 4 * n ≤ 65536) && r.handlers.all (fun x => decide (x.1 < n) && !inputs.contains x.2) &&
    distinct (r.handlers.map (fun x => x.2))

/-- A data segment is valid (02 R69). -/
def dataOk (ws : List InstrWord) (roles : List Role) (c : Section) : Bool :=
  let d := c.words ws
  let off := wordAt d 0
  let n := wordAt d 1
  decide (off % 8 = 0) && decide (1 ≤ n) && decide (n ≤ 65536) && decide (off + n ≤ 65536) && decide (c.len = 8 + (n + 3) / 4 * 4) &&
    ((bytesOf32 (d.drop 2)).drop n).all (fun b => decide (b = 0)) &&
    (match roles.find? (fun r => decide (r.num = c.index)) with
      | some r => !overlaps off n r.off (4 * r.code.length)
      | none => false)

/-- Contexts and banks that a mask names. -/
def maskNames (m n : Nat) : List Nat := (List.range n).filter (fun i => decide (bitsAt m i 1 = 1))

/-- An Atoll section is valid (02 R70, 14 R319). -/
def atollOk (ws : List InstrWord) (roles : List Role) (c : Section) : Bool :=
  let w := wordAt (c.words ws) 0
  let n := (maskNames w 8).length
  decide (w < 4096) && decide (4 ≤ c.len) && ((bytesOf32 ((c.words ws).drop 1)).take (3072 * n)).all (fun b => !badSelector b) &&
    decide (c.len = 4 + 3072 * n + 4096 * (maskNames (w / 256) 4).length) &&
    roles.any (fun r => decide (r.num = c.index))

/-- A signed exponent of a channel record. -/
def scaleOf (w : Nat) : Int := if w % 256 < 128 then ((w % 256 : Nat) : Int) else ((w % 256 : Nat) : Int) - 256

/-- Channel records of a channel section (02 R67): its two words each. -/
def chanRecords (g : List InstrWord) : List (Nat × Nat) :=
  (List.range (wordAt g 0 % 65536)).map (fun i => (wordAt g (1 + 2 * i), wordAt g (2 + 2 * i)))

/-- Code-set records: set number and where its tables start. -/
def codeRecords (g : List InstrWord) : List (Nat × Nat) :=
  let base := 1 + 2 * (wordAt g 0 % 65536)
  (List.range (wordAt g 0 / 65536)).map (fun i => (wordAt g (base + 129 * i), base + 129 * i + 1))

/-- The scale registers that channel records set. -/
def scalesOf (g : List InstrWord) : List (Nat × Int) :=
  ((chanRecords g).filter (fun r => decide (bitsAt r.2 8 1 = 1))).map (fun r => (bitsAt r.1 12 5, scaleOf r.2))

/-- A channel section is valid (02 R67, 10 R255). -/
def chansOk (c : Section) (g : List InstrWord) : Bool :=
  let n := wordAt g 0 % 65536
  let m := wordAt g 0 / 65536
  let sc := scalesOf g
  decide (4 ≤ c.len) && decide (n ≤ 32) && decide (m ≤ 4) && decide (c.len = 4 * (1 + 2 * n + 129 * m)) &&
    (chanRecords g).all (fun r => decide (r.1 < 2 ^ 20) && decide (bitsAt r.1 17 3 ≤ 5) && decide (bitsAt r.1 5 4 ≤ 12) &&
      (decide (bitsAt r.1 9 1 = 0) || decide (bitsAt r.1 5 4 = 3) || decide (bitsAt r.1 5 4 = 4)) && decide (r.2 < 512) &&
      decide (r.2 % 256 ≠ 128)) &&
    distinct ((chanRecords g).map (fun r => r.1 % 32)) && (codeRecords g).all (fun r => decide (r.1 < 4) && (List.range 128).all (fun j => decide (wordAt g (r.2 + j) < 2 ^ 24))) &&
    distinct ((codeRecords g).map (fun r => r.1)) && sc.all (fun a => sc.all (fun b => decide (a.1 ≠ b.1) || decide (a.2 = b.2)))

/-- Window and tensor records: where each starts in the section. -/
def windowRecords (g : List InstrWord) : List Nat := (List.range (wordAt g 0 % 65536)).map (fun i => 1 + 4 * i)
def tensorRecords (g : List InstrWord) : List Nat :=
  (List.range (wordAt g 0 / 65536)).map (fun i => 1 + 4 * (wordAt g 0 % 65536) + 12 * i)

/-- A tensor record as the six words that XTEN reads. -/
def tensorRecord (g : List InstrWord) (i : Nat) : List Word :=
  (List.range 6).map (fun j => BitVec.ofNat 64 (wordAt g (i + 2 * j) + wordAt g (i + 2 * j + 1) * 2 ^ 32))

/-- A windows-and-tensors section is valid (02 R68). -/
def winsOk (c : Section) (g : List InstrWord) : Bool :=
  let n := wordAt g 0 % 65536
  let m := wordAt g 0 / 65536
  let first := 4 * (1 + 4 * n + 12 * m)
  decide (4 ≤ c.len) && decide (n ≤ 16) && decide (m ≤ 1024) && decide (first ≤ c.len) &&
    (windowRecords g).all (fun i =>
      let w := wordAt g i
      let size := wordAt g (i + 1)
      let at' := wordAt g (i + 2)
      decide (w / 512 = 0) && decide (bitsAt w 4 4 = 0) && decide (size % 8 = 0) && decide (8 ≤ size) && decide (size ≤ 2 ^ 30) &&
        decide (wordAt g (i + 3) = 0) &&
        (if bitsAt w 8 1 = 1 then decide (at' = 0) else decide (at' % 8 = 0) && decide (first ≤ at') && decide (at' + size ≤ c.len))) &&
    distinct ((windowRecords g).map (fun i => wordAt g i % 16)) &&
    (tensorRecords g).all (fun i =>
      let w := wordAt g i
      let r := bitsAt w 16 2 + 1
      decide (w < 2 ^ 18) && decide (bitsAt w 12 4 ≤ 11) && decide (bitsAt w 10 2 = 0) && decide (wordAt g (i + 1) = 0) &&
        (List.range 4).all (fun d =>
          let e := wordAt g (i + 4 + d)
          if d < r then decide (1 ≤ e) && decide (e ≤ 2 ^ 31) else decide (e = 0) && decide (wordAt g (i + 8 + d) = 0))) &&
    distinct ((tensorRecords g).map (fun i => wordAt g i % 1024))

/-! ### The image (01 R13-R25) -/

/-- Placement entries (01 R20): row, column, rows, columns, role, core mask. -/
def placeEntries (g : List InstrWord) : List (Nat × Nat × Nat × Nat × Nat × Nat) :=
  (List.range (wordAt g 0)).map (fun i =>
    let a := wordAt g (1 + 2 * i)
    let b := wordAt g (2 + 2 * i)
    (bitsAt a 5 5, bitsAt a 0 5, bitsAt a 15 5 + 1, bitsAt a 10 5 + 1, bitsAt b 8 8, bitsAt b 0 8))

/-- The image that a container holds. -/
def imageOf (ws : List InstrWord) : Image :=
  let l := sections ws
  let sec (t : Nat) : List InstrWord := (sectionOf ws t).getD []
  let q := sec 3
  let ch := sec 4
  let tree := sec 5
  let win := sec 6
  { id := wordAt ws 6
    rows := wordAt ws 4 / 256
    cols := wordAt ws 4 % 256
    det := decide (wordAt ws 5 % 2 = 1)
    roles := (ofType l 1).map (roleOf ws l)
    place := placeEntries (sec 2)
    queues := (List.range (wordAt q 0)).map (fun i => (q.drop (1 + 8 * i)).take 8)
    placeWords := sec 2
    queueWords := q
    root := wordAt tree 0 % 1024
    edges := (tree.drop 1).map (fun w => (w.toNat % 1024, bitsAt w.toNat 10 10, bitsAt w.toNat 20 3))
    chans := (chanRecords ch).map (fun r => (r.1 % 32, Chan.ofWord r.1))
    scales := scalesOf ch
    codes := (codeRecords ch).flatMap (fun r => (List.range 128).map (fun j => (128 * r.1 + j, ch.getD (r.2 + j) 0)))
    wins := (windowRecords win).map (fun i =>
      let ext := decide (bitsAt (wordAt win i) 8 1 = 1)
      (wordAt win i % 16, ext, wordAt win (i + 1),
        if ext then [] else ((bytesOf32 win).drop (wordAt win (i + 2))).take (wordAt win (i + 1))))
    tensors := (tensorRecords win).map (fun i => (wordAt win i % 1024, tensorRecord win i))
    digest := Config.sha3 (bytesOf32 ws) }

/-- A placement entry holds a cluster offset and a core. -/
def placeHolds (p : Nat × Nat × Nat × Nat × Nat × Nat) (off core : Nat) : Bool :=
  let (r, c, h, w, _, mask) := p
  decide (r ≤ off / 32) && decide (off / 32 < r + h) && decide (c ≤ off % 32) && decide (off % 32 < c + w) && decide (bitsAt mask core 1 = 1)

/-- The role that an image places on a core of a cluster offset. -/
def Image.roleAt (m : Image) (off core : Nat) : Option Role :=
  match m.place.find? (fun p => placeHolds p off core) with
  | none => none
  | some p => m.roles.find? (fun r => decide (r.num = p.2.2.2.2.1))

/-- A role is placed on a cluster. -/
def Image.placedOn (m : Image) (off role : Nat) : Bool :=
  m.place.any (fun p => decide (p.2.2.2.2.1 = role) && (List.range 8).any (placeHolds p off))

/-- The cluster offsets of the region shape, in order. -/
def Image.offsets (m : Image) : List Nat := (List.range m.rows).flatMap (fun r => (List.range m.cols).map (fun c => 32 * r + c))

/-- The cores of the region that hold a role: cluster offset, core, role. -/
def Image.held (m : Image) : List (Nat × Nat × Role) :=
  m.offsets.flatMap (fun o => (List.range 8).filterMap (fun c => (m.roleAt o c).map (fun r => (o, c, r))))

/-- Order 5: status 9 (01 R30, 02 R71). Two roles of one cluster do not both carry an Atoll section. -/
def contentOk (ws : List InstrWord) (m : Image) : Bool :=
  let l := sections ws
  let opt (t : Nat) (ok : Section → List InstrWord → Bool) : Bool := (ofType l t).all (fun c => ok c (c.words ws))
  ((ofType l 1).zip m.roles).all (fun p => roleOk ws p.1 p.2) && (ofType l 8).all (dataOk ws m.roles) &&
    (ofType l 9).all (atollOk ws m.roles) && opt 4 chansOk && opt 6 winsOk &&
    m.offsets.all (fun o => decide ((m.roles.filter (fun r => r.atoll.isSome && m.placedOn o r.num)).length ≤ 1))

/-- The external windows that a load request supplies have the declared sizes (12 R294). A request that supplies a window that the
image does not declare external, or omits one that it does, fails likewise (DESIGN CHOICE, log 62). -/
def windowsSupplied (r : LoadReq) (m : Image) : Bool :=
  let ext := m.wins.filter (fun w => w.2.1)
  ext.all (fun w => (r.windows.filter (fun x => decide (x.1 = w.1))).any (fun x => decide (x.2.length = w.2.2.1))) &&
    r.windows.all (fun x => ext.any (fun w => decide (w.1 = x.1)))

/-! ### Order 6: placement (01 R20, R21) -/

/-- Two entries name a core twice. -/
def placeMeets (a b : Nat × Nat × Nat × Nat × Nat × Nat) : Bool :=
  let (r, c, h, w, _, m) := a
  let (r', c', h', w', _, m') := b
  overlaps r h r' h' && overlaps c w c' w' && decide (m &&& m' ≠ 0)

/-- No two entries name a core twice. -/
def placeApart : List (Nat × Nat × Nat × Nat × Nat × Nat) → Bool
  | [] => true
  | a :: r => !r.any (placeMeets a) && placeApart r

/-- Order 6: status 4. -/
def placementOk (m : Image) : Bool :=
  let g := m.placeWords
  decide (g.length = 1 + 2 * wordAt g 0) &&
    (List.range (wordAt g 0)).all (fun i => decide (wordAt g (1 + 2 * i) < 2 ^ 20) && decide (wordAt g (2 + 2 * i) < 65536)) &&
    m.place.all (fun p => decide (p.1 + p.2.2.1 ≤ m.rows) && decide (p.2.1 + p.2.2.2.1 ≤ m.cols) && decide (p.2.2.2.2.2 ≠ 0) &&
      m.roles.any (fun r => decide (r.num = p.2.2.2.2.1))) &&
    placeApart m.place && m.roles.all (fun r => m.place.any (fun p => decide (p.2.2.2.2.1 = r.num)))

/-! ### Order 7: queues (01 R22-R24, 09 R221, R222, R224, R225, 16 R361) -/

/-- Fields of a queue record (01 R22). -/
structure QRec where
  num    : Nat
  window : Nat
  merge  : Bool
  log2   : Nat
  words  : Nat
  relays : List Nat
  consumers : List Nat
  cls    : Nat
  prio   : Nat
  chan   : Nat
  deriving DecidableEq, Repr

/-- Reads a queue record; the consumers are endpoint words. -/
def QRec.of (g : List InstrWord) : QRec :=
  let a := wordAt g 0
  let b := wordAt g 1
  let r := wordAt g 6
  { num := a % 65536, window := bitsAt a 24 8 + 1, merge := decide (bitsAt a 23 1 = 1), log2 := bitsAt a 18 5
    words := 2 ^ bitsAt a 16 2
    relays := [r % 1024, bitsAt r 10 10].take (bitsAt b 15 2)
    consumers := ((List.range 4).map (fun i => wordAt g (2 + i))).take (bitsAt b 12 3)
    cls := bitsAt b 10 2, prio := bitsAt b 5 5, chan := b % 32 }

/-- An endpoint word names a consumer outside the region (01 R23). -/
def isExternal (w : Nat) : Bool := decide (bitsAt w 14 1 = 1)

/-- A cluster offset lies inside the region shape. -/
def Image.inside (m : Image) (off : Nat) : Bool := decide (off / 32 < m.rows) && decide (off % 32 < m.cols)

/-- The role binds a queue as an input port or a trigger, or as an output. -/
def Role.reads (r : Role) (q : Nat) : Bool :=
  r.ports.any (fun p => decide (p.1 = 1) && decide (p.2 = q)) || r.handlers.any (fun h => decide (h.2 = q))
def Role.drives (r : Role) (q : Nat) : Bool := r.ports.any (fun p => decide (p.1 = 2) && decide (p.2 = q))

/-- Bindings of the region's cores to a queue as an output: offset, core, port. -/
def Image.outputs (m : Image) (q : Nat) : List (Nat × Nat × Nat) :=
  m.held.flatMap (fun h => (h.2.2.ports.zipIdx.filter (fun p => decide (p.1.1 = 2) && decide (p.1.2 = q))).map (fun p => (h.1, h.2.1, p.2)))

/-- Cores of the region that push onto a queue, in ascending index: offset, core. Each is one producer, whatever its ports (01 R24,
09 R225). -/
def Image.producers (m : Image) (q : Nat) : List (Nat × Nat) :=
  let l := (m.held.filter (fun h => h.2.2.drives q)).map (fun h => (h.1, h.2.1))
  sortOn (fun a => 8 * a.1 + a.2) l

/-- No role binds the queue as an output (01 R24). -/
def Image.isEntry (m : Image) (q : Nat) : Bool := !m.roles.any (fun r => r.drives q)

/-- A queue record is valid in itself (01 R22, R23). One that names a core twice as a consumer is not (DESIGN CHOICE, log 62). -/
def QRec.ok (m : Image) (g : List InstrWord) : Bool :=
  let q := QRec.of g
  let b := wordAt g 1
  let n := bitsAt b 12 3
  let ext := (q.consumers.filter isExternal).map (fun w => bitsAt w 10 3)
  decide (1 ≤ q.log2) && decide (q.log2 ≤ 16) && decide (q.window ≤ 2 ^ q.log2) && decide (b < 2 ^ 17) && decide (bitsAt b 15 2 ≤ 2) &&
    decide (1 ≤ n) && decide (n ≤ 4) && (!q.merge || decide (n = 1)) && decide (q.cls ≠ 3) && decide (wordAt g 6 < 2 ^ 20) &&
    decide (wordAt g 7 = 0) && (List.range 4).all (fun i => decide (i < n) || decide (wordAt g (2 + i) = 0)) &&
    q.consumers.all (fun w => decide (w < 2 ^ 15) &&
      (if isExternal w then decide (w &&& 0x63ff = 0x4000) else decide (bitsAt w 13 1 = 1) && m.inside (w % 1024))) &&
    decide (ext = List.range ext.length) && q.relays.all m.inside && distinct (q.consumers.filter (fun w => !isExternal w))

/-- Consumers named and consumers bound are the same cores (01 R24). -/
def QRec.consumersOk (m : Image) (q : QRec) : Bool :=
  let named := (q.consumers.filter (fun w => !isExternal w)).map (fun w => (w % 1024, bitsAt w 10 3))
  named.all (fun c => match m.roleAt c.1 c.2 with | some r => r.reads q.num | none => false) &&
    m.held.all (fun h => !h.2.2.reads q.num || named.contains (h.1, h.2.1))

/-- The entry of a channel in an image, after loading. -/
def Image.chanOf (m : Image) (n : Nat) : Chan := ((m.chans.find? (fun c => decide (c.1 = n))).map (fun c => c.2)).getD Chan.reset

/-- A client may be a queue's consumer (18 R402). -/
def State.clientConsumes (s : State) (id : Nat) : Bool :=
  s.hosts.any (fun h => h.2.clients.any (fun c =>
    decide (bitsAt c.2.w0.toNat 48 16 = id) && decide (bitsAt c.2.w0.toNat 39 1 = 1) && decide (bitsAt c.2.w0.toNat 37 1 = 1)))

/-- The router of the host port whose table lets a client consume (09 R419, 18 R402). -/
def State.clientRouter (s : State) (id : Nat) : Nat :=
  match s.hosts.find? (fun h => h.2.clients.any (fun c => decide (bitsAt c.2.w0.toNat 48 16 = id) &&
      decide (bitsAt c.2.w0.toNat 39 1 = 1) && decide (bitsAt c.2.w0.toNat 37 1 = 1))) with
  | some (n, _) => hostRouter n
  | none => 0

/-- Producers of a queue: those that the load request names for an entry queue, else the cores that bind it (01 R24, 09 R225). -/
def Image.producerCount (m : Image) (named : List (Nat × Nat)) (q : Nat) : Nat :=
  if m.isEntry q then (named.filter (fun p => decide (p.1 = q))).length else (m.producers q).length

/-- A keyed merge has 2 to 4 producers (09 R225). -/
def Image.mergesOk (m : Image) (named : List (Nat × Nat)) : Bool :=
  (m.queues.map QRec.of).all (fun q => !q.merge || (decide (2 ≤ m.producerCount named q.num) && decide (m.producerCount named q.num ≤ 4)))

/-- An external consumer that a request names exists: a client that may consume, or a queue of another chip (01 R23, 09 R217). -/
def State.consumes (s : State) (c : ExtConsumer) : Bool :=
  match c.far with
  | none => s.clientConsumes c.client
  | some (chip, q) => decide (chip < 4096) && decide (chip ≠ s.chip.toNat) && decide (q < 65536)

/-- What a load request names fits the image: external consumers one for one, producers only of entry queues, 2 to 4
producers of a keyed merge (01 R23, R24, 09 R225). -/
def State.namesOk (s : State) (m : Image) (r : LoadReq) : Bool :=
  let qs := m.queues.map QRec.of
  qs.all (fun q =>
    let ext := (q.consumers.filter isExternal).map (fun w => bitsAt w 10 3)
    let mine := r.consumers.filter (fun c => decide (c.queue = q.num))
    decide (mine.length = ext.length) && ext.all (fun i => decide ((mine.filter (fun c => decide (c.index = i))).length = 1))) &&
    m.mergesOk r.producers &&
    r.consumers.all (fun c => qs.any (fun q => decide (q.num = c.queue)) && s.consumes c) &&
    r.producers.all (fun p => qs.any (fun q => decide (q.num = p.1)) && m.isEntry p.1)

/-- Order 7: status 5. A guarded queue needs journalling, an express one the partition's express rights, and a channel must
decode plainly (09 R222, R224, 16 R361). -/
def State.queuesOk (s : State) (ws : List InstrWord) (m : Image) (part : Nat) : Bool :=
  let present := match sectionOf ws 3 with | none => true | some g => decide (g.length = 1 + 8 * wordAt g 0)
  let qs := m.queues.map QRec.of
  let declared := qs.map (fun q => q.num)
  present && distinct declared && m.queues.all (QRec.ok m) &&
    qs.all (QRec.consumersOk m) &&
    m.roles.all (fun r => r.handlers.all (fun h => declared.contains h.2) &&
      r.ports.all (fun p => decide (p.1 = 0) || declared.contains p.2)) &&
    qs.all (fun q => !(m.chanOf q.chan).zs && (decide (q.cls ≠ 2) || s.journal.enable.getLsbD part) &&
      (decide (q.cls ≠ 1) || (match s.part? part with | some p => p.express | none => false)))

/-! ### Order 8: the boot tree (01 R25) -/

/-- Clusters reached from one along edges. -/
def reached (edges : List (Nat × Nat × Nat)) : Nat → List Nat → List Nat
  | 0, l => l
  | f + 1, l =>
    let new := (edges.filter (fun e => l.contains e.1 && !l.contains e.2.1)).map (fun e => e.2.1)
    if new.isEmpty then l else reached edges f (l ++ new)

/-- A cluster's ancestors along edges come to an end. -/
def climbs (edges : List (Nat × Nat × Nat)) : Nat → Nat → Bool
  | 0, _ => false
  | f + 1, k => match edges.find? (fun e => decide (e.2.1 = k)) with | none => true | some e => climbs edges f e.1

/-- Order 8: status 6. An edge that the root does not reach is no fault, as long as the edges form no cycle. -/
def treeOk (ws : List InstrWord) (m : Image) : Bool :=
  let g := (sectionOf ws 5).getD []
  let r := reached m.edges (m.edges.length + 1) [m.root]
  decide (1 ≤ g.length) && decide (wordAt g 0 / 65536 ≤ 1023) && decide (bitsAt (wordAt g 0) 10 6 = 0) &&
    decide (g.length = 1 + wordAt g 0 / 65536) && (g.drop 1).all (fun w => decide (w.toNat < 2 ^ 23)) && m.inside m.root &&
    m.edges.all (fun e => m.inside e.1 && m.inside e.2.1 && decide (e.2.1 ≠ m.root) && climbs m.edges (m.edges.length + 1) e.1) &&
    distinct (m.edges.map (fun e => e.2.1)) && m.offsets.all (fun o => r.contains o || !m.roles.any (fun x => m.placedOn o x.num))

/-! ### Order 9: resources (01 R30, 09 R217) -/

/-- Bytes of queue storage that an image takes on a cluster offset; a keyed merge takes a sub-queue for each producer. -/
def Image.storage (m : Image) (r : LoadReq) (off : Nat) : Nat :=
  ((m.queues.map QRec.of).map (fun q =>
    let one := 2 ^ q.log2 * (8 * q.words)
    let prods := m.producerCount r.producers q.num
    let here' := (q.consumers.filter (fun w => !isExternal w && decide (w % 1024 = off))).length
    (if q.merge then here' * prods else here') * one + (q.relays.filter (fun x => decide (x = off))).length * one)).sum

/-! ### The queue graph (08 R203) -/

/-- Queues that a queue leads to: the outputs of the roles that it triggers or feeds. -/
def Image.leads (m : Image) (q : Nat) : List Nat :=
  (m.roles.filter (fun r => r.reads q)).flatMap (fun r => (r.ports.filter (fun p => decide (p.1 = 2))).map (fun p => p.2))

/-- Queues reachable from a list. -/
def Image.reach (m : Image) : Nat → List Nat → List Nat
  | 0, l => l
  | f + 1, l =>
    let new := ((l.flatMap m.leads).filter (fun q => !l.contains q)).eraseDups
    if new.isEmpty then l else m.reach f (l ++ new)

/-- No queue is reachable from itself. -/
def Image.acyclic (m : Image) : Bool :=
  (m.queues.map QRec.of).all (fun q => !(m.reach (m.queues.length + 1) (m.leads q.num)).contains q.num)

end Sys2Proof.Machine
end

