-- ==== Sys2Proof/Machine/Mesh.lean ====
section
/-!
DEFINITION. The mesh and the queues: hops, replication, relays, acceptance into storage, credits and full signals
(03 R86, 08 R205-R207, 09 R216-R226, R419, 16 R364, R365, 17 R398, R399, 18 R408).
-/

namespace Sys2Proof.Machine

/-! ### Routes (09 R219) -/

/-- The next router on the way, and the output link: along the column of routers to the row, then along the row. 0 and 1
lower and raise the row, 2 and 3 the column (log 20). -/
def nextHop (a b : Nat) : Option (Nat × Nat) :=
  if a = b then none
  else if b / 32 < a / 32 then some (0, a - 32)
  else if a / 32 < b / 32 then some (1, a + 32)
  else if b % 32 < a % 32 then some (2, a - 1)
  else some (3, a + 1)

/-- Where a flit goes next for each of its branches: a relay, or the branch's consumer. -/
def Queue.targets (q : Queue) (f : Flit) : List (Nat × Nat) :=
  match q.relays[f.stage]? with
  | some r => f.branches.map (fun b => (b, r.1))
  | none => f.branches.map (fun b => (b, match q.branches[b]? with | some br => br.router | none => f.place))

/-- The clusters in which a flit's next stage ends; a consumer outside every cluster has none. -/
def Queue.ends (q : Queue) (f : Flit) : List Nat :=
  match q.relays[f.stage]? with
  | some r => [r.1]
  | none => f.branches.filterMap (fun b => (q.branches[b]?).bind (fun br => br.consumer.cluster))

/-- The branches of a flit that leave by a link, and the router they go to; `none` are those that have arrived. -/
def Queue.groups (q : Queue) (f : Flit) : List (Option (Nat × Nat) × List Nat) :=
  let hops := (q.targets f).map (fun t => (nextHop f.place t.2, t.1))
  let keys := hops.foldl (fun ks h => if ks.contains h.1 then ks else ks ++ [h.1]) []
  keys.map (fun k => (k, (hops.filter (fun h => decide (h.1 = k))).map (fun h => h.2)))

/-- A flit has waited its hop's time, and no earlier flit of its producer to a common branch stands before it (04 R104, 08 R205). -/
def Queue.mayMove (q : Queue) (clk i : Nat) (f : Flit) : Bool :=
  decide (f.since + 2 ≤ clk) && !(q.flight.take i).any (fun g =>
    decide (g.elem.src.producer = f.elem.src.producer) && decide (g.stage = f.stage) && decide (g.place = f.place) &&
      g.branches.any (fun b => f.branches.contains b))

/-- A cluster takes flits: it runs and is not frozen. -/
def State.takesFlits (s : State) (cluster : Nat) : Bool :=
  let k := s.cl cluster
  decide (k.power = .running) && !k.frozen

/-! ### The sequence of a multicast queue (08 R206, 09 R220) -/

/-- Every item that its branches have still to take before this flit has been taken by them: all branches take the same sequence,
which the first of them to take an item fixes. -/
def Queue.inOrder (q : Queue) (f : Flit) : Bool :=
  (q.order.takeWhile (fun o => decide (o.1 ≠ f.seq))).all (fun o => !o.2.any (fun b => f.branches.contains b))

/-- Branches take a flit, of all those that it goes to. -/
def Queue.taken (q : Queue) (f : Flit) (all : List Nat) : Queue :=
  let left (l : List Nat) : List Nat := l.filter (fun b => !f.branches.contains b)
  let order := if q.order.any (fun o => decide (o.1 = f.seq)) then q.order.map (fun o => if o.1 = f.seq then (o.1, left o.2) else o)
    else q.order ++ [(f.seq, left all)]
  { q with order := order.filter (fun o => !o.2.isEmpty) }

/-! ### Hops (09 R218, R220, R223) -/

/-- A flit has reached every place that its stage ends at. -/
def Queue.there (q : Queue) (f : Flit) : Bool := (q.targets f).all (fun t => decide (t.2 = f.place)) && !f.branches.isEmpty

/-- The side of the next router that a link ends at. -/
def sideOf (dir : Nat) : Nat := if dir % 2 = 0 then dir + 1 else dir - 1

/-- An input buffer of a router has room for a flit of a queue; one that has arrived and waits for its turn in the sequence
holds no place. -/
def State.hasRoom (s : State) (q : Queue) (router port : Nat) : Bool :=
  decide ((q.flight.filter (fun f => decide (f.place = router) && decide (f.port = port) && !(q.there f && !q.inOrder f))).length < s.routerRoom)

/-- Every router that a flit's next hops lead to can take it: it leaves on every branch or on none (09 R220). -/
def State.nextTakes (s : State) (q : Queue) (f : Flit) : Bool :=
  (q.groups f).all (fun g => match g.1 with | none => true | some (d, r) => s.hasRoom q r (sideOf d))

/-- At the routers of a frozen region, flits from it or for it stop where they stand (17 R390). -/
def State.stopsAt (s : State) (router : Nat) (q : Queue) (f : Flit) : Bool :=
  (s.cl router).frozen && (f.elem.src.cluster.any (fun c => (s.cl c).frozen) || (q.ends f).any (fun c => (s.cl c).frozen))

/-- Directions of the links that a flit's next hop takes. -/
def Queue.dirs (q : Queue) (f : Flit) : List Nat := (q.groups f).filterMap (fun g => g.1.map (fun h => h.1))

/-- A link has carried no flit in this clk (09 R223). -/
def State.linkFree (s : State) (router dir : Nat) : Bool :=
  match mget s.linkUse (router * 4 + dir) with | some u => decide (u.clk ≠ s.clk) | none => true

/-- Flits that may leave a router by a link, as queue, place in its flight, and clk of waiting: every link that the flit
leaves by is free, and so is a place beyond each. -/
def State.hopCandidates (s : State) (router dir : Nat) : List (Nat × Nat × Queue × Flit) :=
  s.queues.flatMap (fun p => (p.2.flight.zipIdx.filter (fun f =>
    decide (f.1.place = router) && p.2.mayMove s.clk f.2 f.1 && !s.stopsAt router p.2 f.1 &&
      (p.2.dirs f.1).contains dir && (p.2.dirs f.1).all (s.linkFree router) && s.nextTakes p.2 f.1)).map (fun f => (p.1, f.2, p.2, f.1)))

/-- The input ports' turns: how far a port stands behind the one served last (09 R223). -/
def portTurn (last port : Nat) : Nat := (port + 5 - last) % 6

/-- Flit a is served before flit b (09 R223): express first, its input ports in turn; then flits that have waited 256 clk, oldest
first; then the higher queue priority, and among equal ones the input ports in turn. Of one port the earlier flit goes first. -/
def hopBefore (clk : Nat) (u : LinkUse) (a b : Nat × Nat × Queue × Flit) : Bool :=
  let old (x : Nat × Nat × Queue × Flit) : Bool := decide (x.2.2.2.since + 256 ≤ clk)
  let express (x : Nat × Nat × Queue × Flit) : Bool := decide (x.2.2.1.cls = 1)
  let turn (last : Nat) : Bool :=
    let m := portTurn last a.2.2.2.port
    let n := portTurn last b.2.2.2.port
    decide (m < n) || (decide (m = n) && decide (a.2.2.2.since < b.2.2.2.since))
  if express a != express b then express a
  else if express a then turn u.express
  else if old a != old b then old a
  else if old a then decide (a.2.2.2.since < b.2.2.2.since)
  else if a.2.2.1.prio ≠ b.2.2.1.prio then decide (b.2.2.1.prio < a.2.2.1.prio)
  else turn u.other

/-- What a link did last. -/
def State.link (s : State) (router dir : Nat) : LinkUse := mgetD s.linkUse (router * 4 + dir) LinkUse.unused

/-- Express flits that a link has served in a row, up to the last clk, while a flit of another class waited (09 R223). -/
def State.expressRun (s : State) (router dir : Nat) : Nat :=
  if (s.link router dir).clk + 1 = s.clk then (s.link router dir).run else 0

/-- A flit of another class than express. -/
def notExpress (x : Nat × Nat × Queue × Flit) : Bool := decide (x.2.2.1.cls ≠ 1)

/-- The flit of some that goes first. -/
def hopFirst (clk : Nat) (u : LinkUse) (l : List (Nat × Nat × Queue × Flit)) : Option (Nat × Nat × Queue × Flit) :=
  l.foldl (fun best x => match best with
    | none => some x
    | some b => if hopBefore clk u x b then some x else some b) none

/-- The flit that a link serves: after three express flits in a row, one of another class that waits. -/
def State.hopPick (s : State) (router dir : Nat) : Option (Nat × Nat × Queue × Flit) :=
  let l := s.hopCandidates router dir
  hopFirst s.clk (s.link router dir) (if decide (3 ≤ s.expressRun router dir) && l.any notExpress then l.filter notExpress else l)

/-- The express flits in a row with one more flit of a class. -/
def State.runAfter (s : State) (router cls dir : Nat) : Nat :=
  if decide (cls = 1) && (s.hopCandidates router dir).any notExpress then s.expressRun router dir + 1 else 0

/-- Links carry a flit of a class, from an input port, in this clk. -/
def State.useLinks (s : State) (router cls port : Nat) (dirs : List Nat) : State :=
  { s with linkUse := dirs.foldl (fun m d => mset m (router * 4 + d)
      (let u := s.link router d
       ⟨s.clk, s.runAfter router cls d, if cls = 1 then port else u.express, if cls = 1 then u.other else port⟩)) s.linkUse }

/-- The copies of a flit that leave by each outgoing branch in one clk; a hop across the die edge takes 14 clk more. -/
def Queue.split (q : Queue) (f : Flit) (clk : Nat) : List Flit :=
  (q.groups f).map (fun g => match g.1 with
    | none => { f with branches := g.2 }
    | some (d, r) => { f with branches := g.2, place := r, port := sideOf d, since := clk + (if r / 512 = f.place / 512 then 0 else 14) })

/-- Clusters that a flit's next hops end at and that do not take flits now. -/
def State.asleep (s : State) (q : Queue) (f : Flit) : List Nat :=
  (q.ends f).filter (fun c => (match nextHop f.place c with | some (_, r) => decide (r = c) | none => false) && !s.takesFlits c)

/-- Clusters that a flit has reached and that do not take flits now. -/
def State.closedEnds (s : State) (q : Queue) (f : Flit) : List Nat := (q.ends f).filter (fun c => !s.takesFlits c)

/-- FLIT_HOP: the router sends one chosen flit on a link, on every outgoing branch at once; one for a gated cluster waits
one hop before it and wakes it (17 R399). -/
def execFlitHop (router dir : Nat) (s : State) : Host.Outcome State Fault Refusal :=
  match s.hopPick router dir with
  | none => .next s
  | some (key, i, q, f) =>
    match s.asleep q f with
    | [] => .next ((s.useLinks router q.cls f.port (q.dirs f)).setQ key
        { q with flight := q.flight.take i ++ q.split f s.clk ++ q.flight.drop (i + 1) })
    | cs => .next (cs.foldl State.wake s)

/-! ### Storage (09 R217, R218, R221) -/

/-- A stored element, released if its stamp is acknowledged (16 R364). -/
def State.stored (s : State) (e : Elem) : Elem := { e with released := decide (e.stamp ≤ s.journal.acked) }

/-- The sub-queue of a producer in a keyed merge (09 R225). -/
def Queue.subOf (q : Queue) (p : Party) : Option Nat := q.mprod.findIdx? (fun m => decide (m = p.producer))

/-- Elements that a branch holds; a client's slots are those it has not returned yet (18 R408), another chip's those it has not
acknowledged. -/
def Queue.heldBy (q : Queue) (b : Nat) : Nat :=
  match q.branches[b]? with
  | none => 0
  | some br => match br.consumer with
    | .client _ => br.store.length + (br.tail - br.credited)
    | .queueOn _ _ => (q.beyond.filter (fun f => f.branches.contains b)).length
    | _ => br.store.length

/-- A branch has a free slot. -/
def Queue.branchRoom (q : Queue) (b : Nat) : Bool := decide (b < q.branches.length) && decide (q.heldBy b < q.capacity)

/-- Puts an element into the storage of branches. -/
def Queue.storeAt (q : Queue) (bs : List Nat) (e : Elem) : Queue :=
  { q with branches := q.branches.zipIdx.map (fun p =>
      if bs.contains p.2 then { p.1 with store := p.1.store ++ [e] } else p.1) }

/-- No copy of a flit is on its way any more: its credit is due (09 R218, R220). -/
def Queue.creditFor (q : Queue) (f : Flit) : Queue :=
  { q with returns := if f.credit && !(q.flight ++ q.beyond).any (fun g => decide (g.seq = f.seq)) then q.returns ++ [f.elem.src] else q.returns }

/-- A flit leaves the mesh. -/
def Queue.accepted (q : Queue) (i : Nat) (f : Flit) : Queue := ({ q with flight := dropAt q.flight i } : Queue).creditFor f

/-- The scope of a queue: the smallest that contains its producers and consumers (04 R102, 13 R297). -/
def Queue.scope (q : Queue) : Scope :=
  let all := q.credits.map (fun p => p.1) ++ q.mprod ++ q.branches.map (fun b => b.consumer)
  let cores := all.map (fun p => match p with | .core c _ => some c | _ => none)
  if all.any (fun p => match p with | .core _ _ => false | .service => false | .engine _ => false | _ => true) then .sys
  else match cores with
    | some c :: rest =>
      if rest.all (fun d => decide (d = some c)) then .core
      else if rest.all (fun d => decide (d.map clusterOf = some (clusterOf c))) then .cl
      else .chip
    | _ => .chip

/-- The producer's accesses that a push releases have been performed at the queue's scope (04 R102). -/
def State.pushGate (s : State) (q : Queue) (f : Flit) : Bool :=
  match f.elem.src with
  | .core c _ => s.gateOpen q.scope (c, f.gate)
  | _ => true

/-- The consumer of a flit's branches, which share a place, if it lies on another chip. -/
def Queue.farOf (q : Queue) (f : Flit) : Option Party :=
  (f.branches.filterMap (fun b => (q.branches[b]?).map (fun br => br.consumer))).find? (fun p => match p with | .chip _ => true | .queueOn _ _ => true | _ => false)

/-- A flit of this chip's queue goes on to another chip. -/
def State.itemTo (s : State) (chip qid : Nat) (q : Queue) (e : Elem) : State :=
  s.sendFlit { s.flitTo chip q.part q.cls 0 (.item qid e.words e.marker) with chan := q.chan }

/-- ITEM_ACCEPT (09 R218, R220, R221; 16 R364, R365; 15 R348): a flit that has reached a relay or its consumers is written into
storage there, in every branch that it has reached or in none, each branch keeping the queue's one sequence; a consumer on
another chip is reached over the Strait, a guarded item only once it is released. -/
def execItemAccept (q i : Nat) (s : State) : Host.Outcome State Fault Refusal :=
  match mget s.queues q with
  | none => .next s
  | some qu =>
    match qu.flight[i]? with
    | none => .next s
    | some f =>
      if !(qu.there f && qu.mayMove s.clk i f && s.pushGate qu f) then .next s
      else if !(s.closedEnds qu f).isEmpty then .next ((s.closedEnds qu f).foldl State.wake s)
      else
        let e := s.stored f.elem
        match qu.relays[f.stage]? with
        | some r =>
          whenOk (decide (r.2.length < qu.capacity)) s
            (s.setQ q { (qu.accepted i f) with relays := setAt qu.relays f.stage (r.1, r.2 ++ [e]) })
        | none =>
          let all := s.branchesFor qu e
          match qu.farOf f with
          | some (.chip c) =>
            whenOk ((s.egressPort c).isSome && (decide (qu.cls ≠ 2) || e.released)) s
              ((s.setQ q (qu.accepted i f)).itemTo c (q % 65536) qu e)
          | some (.queueOn c n) =>
            whenOk ((s.egressPort c).isSome && (decide (qu.cls ≠ 2) || e.released) && qu.inOrder f && f.branches.all qu.branchRoom) s
              ((s.setQ q { (qu.taken f all) with flight := dropAt qu.flight i, beyond := qu.beyond ++ [f] }).itemTo c n qu e)
          | _ =>
            if qu.merge then
              match qu.subOf f.elem.src with
              | none => .next (s.setQ q (qu.accepted i f))
              | some n => whenOk (decide ((nth qu.subs n []).length < qu.capacity)) s
                  (s.setQ q { (qu.accepted i f) with subs := setAt qu.subs n (nth qu.subs n [] ++ [e]) })
            else whenOk (qu.inOrder f && f.branches.all qu.branchRoom) s
              (s.setQ q (((qu.accepted i f).taken f all).storeAt f.branches e))

/-- The stage behind relay r can accept an element: its storage and what is on its way there leave a slot (09 R221). -/
def State.stageRoom (s : State) (q : Queue) (r : Nat) (e : Elem) : Bool :=
  let coming := q.flight.filter (fun f => decide (f.stage = r + 1))
  match q.relays[r + 1]? with
  | some n => decide (n.2.length + coming.length < q.capacity)
  | none =>
    if q.merge then
      let mine := coming.filter (fun f => decide (f.elem.src.producer = e.src.producer))
      decide ((nth q.subs ((q.subOf e.src).getD 0) []).length + mine.length < q.capacity)
    else (s.branchesFor q e).all (fun b => decide (q.heldBy b + (coming.filter (fun f => f.branches.contains b)).length < q.capacity))

/-- RELAY_FORWARD (09 R221): the head of relay r goes on when the next stage can accept it. -/
def execRelayForward (q r : Nat) (s : State) : Host.Outcome State Fault Refusal :=
  match mget s.queues q with
  | none => .next s
  | some qu =>
    match qu.relays[r]? with
    | some (cl, e :: rest) =>
      let f : Flit := { elem := e, place := cl, port := 4, stage := r + 1, branches := s.branchesFor qu e, since := s.clk,
                        credit := false, seq := s.nextId, gate := [] }
      whenOk (s.stageRoom qu r e && s.takesFlits cl) s
        { s.setQ q { qu with relays := setAt qu.relays r (cl, rest), flight := qu.flight ++ (if f.branches.isEmpty then [] else [f]) } with nextId := s.nextId + 1 }
    | _ => .next s

/-- CREDIT_RETURN (09 R218): a credit that is due returns to its producer, as long as the producer's binding stands. A
credit for an item from another chip goes back over the Strait link that carried it (09 R228). -/
def execCreditReturn (q i : Nat) (s : State) : Host.Outcome State Fault Refusal :=
  match mget s.queues q with
  | none => .next s
  | some qu =>
    match qu.returns[i]? with
    | none => .next s
    | some p =>
      let t : Queue := { qu with returns := dropAt qu.returns i }
      if 65536 ≤ q then .next s
      else match p with
        | .far c port =>
          let f := s.flitTo c qu.part qu.cls 0 (.credit q)
          let u := s.setQ q t
          .next (if decide ((mgetD s.straits port Strait.reset).state = 3) && decide ((mgetD s.straits port Strait.reset).peer = c)
            then u.sendBy port f else u.sendFlit f)
        | _ => .next (s.setQ q (if t.credits.any (fun c => decide (c.1 = p)) then t.setCredits p (min (t.creditsOf p + 1) t.window) else t))

/-- FULL_SIGNAL (03 R86): the system-call queue's consumer tells a cluster that the queue has become full, or not. -/
def execFullSignal (q cluster : Nat) (s : State) : Host.Outcome State Fault Refusal :=
  match mget s.queues q with
  | none => .next s
  | some qu =>
    let full := qu.branches.any (fun b => decide (qu.capacity ≤ b.store.length))
    whenOk (decide ((s.cl cluster).sysq = some q)) s (s.modCl cluster (fun k => { k with sysFull := full }))

end Sys2Proof.Machine
end

