-- ==== Sys2Proof/Machine/Remote.lean ====
section
/-!
DEFINITION. Remote operations, and copies from other chips, at their target, and their replies (05 R143, 10 R262, 15
R353-R355).
-/

namespace Sys2Proof.Machine

/-! ### Permission (15 R354) -/

/-- A range entry's fields. -/
def RangeEntry.fits (e : RangeEntry) (r : RemReq) : Bool :=
  let a := e.w0.toNat
  let b := e.w1.toNat
  let lo := bitsAt b 32 32 * 65536
  let off := paOff r.addr
  let right := match r.op with
    | .load => bitsAt a 36 1
    | .copyRead => bitsAt a 36 1
    | .store => bitsAt a 37 1
    | .copyLeave => bitsAt a 37 1
    | .copyWrite => bitsAt a 37 1
    | .decode => bitsAt a 37 1
    | _ => bitsAt a 38 1
  decide (bitsAt a 39 1 = 1) && decide (bitsAt a 52 12 = r.srcChip) && decide (bitsAt a 48 4 = r.srcPart) &&
    decide (bitsAt a 44 4 = paSpace r.addr) && decide (paSpace r.addr ≤ 1) && decide (right = 1) &&
    decide (lo ≤ off) && decide (off + r.size ≤ lo + (bitsAt b 8 24 + 1) * 65536)

/-- A slice-map right of the target's slice (15 R354, 12 R282). -/
def State.sliceAllows (s : State) (r : RemReq) : Bool :=
  if paSpace r.addr = 1 then
    let off := paOff r.addr
    let e := mgetD (s.cl (off / 2 ^ 20)).slice (off % 2 ^ 20 / 65536) SliceMap.none
    rightsOk false e.s e.r e.w (remNeeds r.op).1 (remNeeds r.op).2
  else true

/-- A request from another chip is permitted; one of this chip was checked at its source. A copy's write was given leave when
it asked for it, and a decoding copy is checked where its output lands. -/
def State.permits (s : State) (r : RemReq) : Bool :=
  decide (r.srcChip = s.chip.toNat) || decide (r.op = .copyWrite) || decide (r.op = .decode) ||
    (s.ranges.any (fun e => e.2.fits r) && s.sliceAllows r)

/-! ### Performing a request -/

/-- The 64 KiB frame of an address is held (15 R355). -/
def State.frameHeld (s : State) (pa : Nat) : Bool := s.heldFrames.contains (paKey pa / 65536)

/-- A request only writes. -/
def remWrites (r : RemReq) : Bool := match r.op with | .store => true | .copyWrite => true | _ => false

/-- A request only reads. -/
def remReads (r : RemReq) : Bool := match r.op with | .load => true | .copyRead => true | _ => false

/-- A reply leaves for its source. -/
def State.reply (s : State) (r : RemReq) (value : Word) (bytes : List Byte) (status : Nat) : State :=
  let a : RemReply := { core := r.core, tag := r.tag, gen := r.gen, value := value, bytes := bytes, status := status }
  if r.srcChip = s.chip.toNat then { s with remOut := s.remOut ++ [a] }
  else s.sendFlit (s.flitTo r.srcChip r.srcPart 0 r.gen (.reply a))

/-- Performs a request at the target's memory port and replies (05 R143). -/
def State.perform (s : State) (r : RemReq) : State :=
  let key := paKey r.addr
  let old := ofBytes (memRead s.mem key 8)
  let w := BitVec.ofNat 64 old
  match r.op with
  | .load => s.reply r w [] 0
  | .store => (s.writeOnce key (leBytes 8 r.data.toNat)).reply r 0 [] 0
  | .cas => (if w = r.cmp then s.writeOnce key (leBytes 8 r.data.toNat) else s).reply r w [] 0
  | .amo op => (s.writeOnce key (leBytes 8 (amoNew op 8 old r.data.toNat))).reply r w [] 0
  | .copyRead => s.reply r 0 (memRead s.mem key r.size) 0
  | .copyLeave => s.reply r 0 [] 0
  | .decode => s
  | .copyWrite => (s.writeOnce key r.bytes).reply r 0 [] 0

/-- The 8-byte stores that a logged request stands for: address and data. -/
def remPieces (r : RemReq) : List (Nat × Nat) :=
  match r.op with
  | .store => [(r.addr, r.data.toNat)]
  | _ => (List.range ((r.bytes.length + 7) / 8)).map (fun i => (r.addr + 8 * i, ofBytes ((r.bytes.drop (8 * i)).take 8)))

/-- The 32 bytes of a remote-fault log entry (15 R355). -/
def remLogBytes (r : RemReq) (cause : Nat) (p : Nat × Nat) : List Byte :=
  leBytes 8 (r.srcChip * 2 ^ 52 + r.srcInc * 2 ^ 44 + r.srcPart * 2 ^ 40 + r.tag % 65536 * 2 ^ 24 + cause * 65536 + r.core % 65536) ++
    leBytes 8 p.1 ++ leBytes 8 p.2 ++ leBytes 8 r.gen

/-- Entries of the log in use. -/
def State.logUsed (s : State) : Nat := s.logTail - s.logHead

/-- Writes a store to the remote-fault log in HBM. -/
def State.logStore (s : State) (r : RemReq) (cause : Nat) : State :=
  let put (s : State) (p : Nat × Nat) : State :=
    { (s.writeOnce (memKey 0 (s.logBase.toNat % 2 ^ 48 + 32 * (s.logTail % 4096))) (remLogBytes r cause p)) with logTail := s.logTail + 1 }
  let t := (remPieces r).foldl put s
  { (t : State) with log := t.log ++ [⟨r, cause⟩] }

/-! ### Decoding copies from other chips (10 R262) -/

/-- The place in its round, the round's length and the stream's end, that a chunk of a decoding copy carries. -/
def chunkOff (r : RemReq) : Nat := bitsAt r.cmp.toNat 0 16
def streamLen (r : RemReq) : Nat := bitsAt r.cmp.toNat 16 16
def isFinal (r : RemReq) : Bool := bitsAt r.cmp.toNat 32 1 == 1

/-- The job of a chunk's copy. -/
def DecodeJob.takes (j : DecodeJob) (r : RemReq) : Bool :=
  decide (j.chip = r.srcChip) && decide (j.inc = r.srcInc) && decide (j.core = r.core) && decide (j.id = r.data.toNat)

/-- A chunk joins its round. Once all of it has come the round's bytes are the decoder's, and its last chunk waits for the
outcome; the other chunks are acknowledged as they come. -/
def State.takeChunk (s : State) (r : RemReq) : State :=
  let blank : DecodeJob := { chip := r.srcChip, inc := r.srcInc, core := r.core, id := r.data.toNat
                             z := { ZState.start with out := some r.addr }, chunks := [], last := none }
  let ends := decide (streamLen r ≤ chunkOff r + r.size)
  let s := if s.decodes.any (fun j => j.takes r) then s else { s with decodes := s.decodes ++ [blank] }
  let s := if ends then s else s.reply r 0 [] 0
  { s with decodes := s.decodes.map (fun j =>
      if j.takes r then
        let j := { j with chunks := j.chunks ++ [(chunkOff r, r.bytes)], last := if ends then some r else j.last }
        if j.last.isSome ∧ (j.chunks.map (fun c => c.2.length)).sum = streamLen r then
          { j with
            chunks := []
            z := { j.z with
              bytes := j.z.bytes ++ (List.range (streamLen r / 64 + 1)).flatMap (fun i => ((j.chunks.find? (fun c => decide (c.1 = 64 * i))).map (fun c => c.2)).getD [])
              staged := [], since := s.clk } }
        else j
      else j) }

/-- The write of decoded bytes lies in a range that the source was given (15 R354). -/
def State.mayLandFrom (s : State) (r : RemReq) (cl : Nat) (z : ZState) : Bool :=
  z.staged.all (fun b => s.mayLand cl b.1 &&
    s.permits { r with op := .copyLeave, addr := s.paOfKey (sliceKey cl b.1), size := 1 })

/-- A decoder takes a block of another chip's copy; the round's outcome answers its last chunk. -/
def execRemoteDecode (i : Nat) (s : State) : Host.Outcome State Fault Refusal :=
  match s.decodes[i]? with
  | none => .next s
  | some j => match j.last with
    | none => .next s
    | some r =>
      let cl := apertureCluster (j.z.out.getD 0)
      let set (t : State) (j : DecodeJob) : State := { t with decodes := setAt t.decodes i j }
      let drop : State := { s with decodes := dropAt s.decodes i }
      if !j.chunks.isEmpty || !s.decodeTurn cl (j.z.since, j.core, j.id) then .next s
      else match (s.cl cl).decodeStep (isFinal r) j.z with
        | .bad => .next ((drop.reply r 0 [] 11).tookBlock cl)
        | .more z => .next ((set s { j with z := z }).tookBlock cl)
        | .over z =>
          if !s.mayLandFrom r cl z then .next ((drop.reply r 0 [] 2).tookBlock cl)
          else
            let t := (if isFinal r then drop else set s { j with z := { z with staged := [] }, last := none }).landDecoded cl z
            .next ((t.reply r 0 [] 0).tookBlock cl)

/-- REMOTE_REQUEST (05 R143, 10 R262, 15 R354, R355): checked, then performed, logged, refused or failed; a read of a held
frame, a store while the log is full, and one whose bytes an access of a core holds that counts as performed (13 R298),
wait. -/
def execRemoteRequest (i : Nat) (s : State) : Host.Outcome State Fault Refusal :=
  match s.remIn[i]? with
  | none => .next s
  | some r =>
    let t := { s with remIn := dropAt s.remIn i }
    let poisoned := s.isPoisoned (paKey r.addr) r.size
    if !s.permits r then .next (t.reply r 0 [] 2)
    else if r.op = .decode then .next (t.takeChunk r)
    else if r.op = .copyLeave then .next (t.perform r)
    else if s.shownHolds (if r.srcChip = s.chip.toNat then some r.core else none) (!remReads r) (paKey r.addr) r.size then .next s
    else if remWrites r then
      if s.frameHeld r.addr || poisoned then
        whenOk (decide (s.logUsed + (remPieces r).length ≤ 4096)) s (t.logStore r (if s.frameHeld r.addr then 1 else 2))
      else .next (t.perform r)
    else if s.frameHeld r.addr then .next s
    else if poisoned then .next (t.reply r 0 [] 3)
    else .next (t.perform r)

/-- REMOTE_FAULT_REPLAY (15 R355): Lemnani replays the oldest entry once its frame is released and its line scrubbed;
an entry of a stale incarnation is discarded without a reply. -/
def execRemoteFaultReplay (s : State) : Host.Outcome State Fault Refusal :=
  match s.log with
  | [] => .next s
  | e :: rest =>
    let t := { s with log := rest, logHead := s.logHead + (remPieces e.req).length }
    let stale := match s.incarnationOf e.req.srcChip with | some n => decide (n ≠ e.req.srcInc) | none => false
    if stale then .next t
    else whenOk (!s.frameHeld e.req.addr && !s.isPoisoned (paKey e.req.addr) e.req.size) s (t.perform e.req)

/-! ### Replies (05 R143, 15 R353) -/

/-- The generation of the cluster that a reply reaches. -/
def State.genOf (s : State) (c : Nat) : Nat := (s.cl (clusterOf c)).gen

/-- A reply fills its place in the round's bytes. -/
def fillBytes (buf : List Byte) (off : Nat) (bs : List Byte) : List Byte :=
  buf.take off ++ bs ++ buf.drop (off + bs.length)

/-- A round waits for the answer with a tag. -/
def Round.waitsFor (r : Round) (tag : Nat) : Bool := r.need.any (fun n => decide (n.tag = tag))

/-- REMOTE_REPLY: a remote operation completes or fails; a part of a round is filled in. A reply of another generation
is dropped and counted (15 R353). A failure of a round waits for the rounds before it (05 R148). -/
def execRemoteReply (i : Nat) (s : State) : Host.Outcome State Fault Refusal :=
  match s.remOut[i]? with
  | none => .next s
  | some a =>
    let t := { s with remOut := dropAt s.remOut i }
    match (s.core a.core).copies.findSome? (fun c => (c.rounds.find? (fun r => r.waitsFor a.tag)).map (fun r => (c, r))) with
    | none => .next t
    | some (cmd, r) =>
      let off := ((r.need.find? (fun n => decide (n.tag = a.tag))).map (fun n => n.off)).getD 0
      if a.gen ≠ s.genOf a.core then .next (t.modCl (clusterOf a.core) (fun k => { k with lateReplies := k.lateReplies + 1 }))
      else if a.status ≠ 0 then
        (if cmd.isFirst r then .next (t.failCopy a.core cmd a.status (cmd.askedVa (s.handle a.core cmd.ring) r off)) else .next s)
      else match cmd.kind with
        | .remote _ =>
          whenOk (s.canAnswer a.core cmd.id) s (((t.dropCopy a.core cmd.id).modCore a.core
            (fun k => k.finish cmd.id cmd.token true)).answer a.core cmd.id [a.value.setWidth 1024])
        | _ => .next (t.modRound a.core cmd.id r.pos (fun r => { r with
            need := r.need.filter (fun n => decide (n.tag ≠ a.tag))
            buf := if r.stage = .read then fillBytes r.buf off a.bytes else r.buf
            idx := if r.stage = .index then fillBytes r.idx off a.bytes else r.idx }))

end Sys2Proof.Machine
end

