-- ==== Sys2Proof/Machine/Scheduler.lean ====
section
/-!
DEFINITION. The scheduler: entries, selection, starts, continuations, crews, spans, barriers, calls and their
completions (03 R84-R86, 04 R111-R121, 08 R200, R201, 09 R230-R243).
-/

namespace Sys2Proof.Machine

/-! ### Cores that may take up work -/

/-- A crew or a span's claim holds the core (09 R232, R237). -/
def State.isClaimed (s : State) (c : Nat) : Bool :=
  match (s.cl (clusterOf c)).crew with | some w => decide (bitsAt w.mask (c % 8) 1 = 1) | none => false

/-- The core has sent its cut report and starts nothing (08 R209). -/
def Core.cutDone (k : Core) : Bool := match k.cutState with | some t => t.reported | none => false

/-- An inline child of a parent on this core has ended, and the parent returns first (04 R114). -/
def State.inlineDue (s : State) (c : Nat) : Option (Nat × Act × Nat) :=
  (s.cl (clusterOf c)).acts.findSome? (fun p => match p.2.place with
    | .inlineDone core d => if core = c then some (p.1, p.2, d) else none
    | _ => none)

/-- The core has no activation, takes none up yet, and saves no frame (04 R125). -/
def State.isIdle (s : State) (c : Nat) : Bool :=
  decide ((s.core c).mode = .idle) && (s.core c).act.isNone && decide ((s.core c).nextPair ≤ s.clk)

/-! ### Entries (08 R200) -/

/-- An entry of this trigger waits in the run queue or has not yet popped its item. -/
def Core.triggerWaits (k : Core) (h : Nat) : Bool :=
  let mine (e : RunEntry) : Bool := match e.kind with | .trigger g _ _ _ => decide (g = h) | _ => false
  k.runq.any mine || (match k.mode with | .starting e _ _ => mine e | _ => false)

/-- TRIGGER_ENTRY: an item at the head of a trigger queue, or its closed state (09 R227), forms one entry. -/
def execTriggerEntry (core handler : Nat) (s : State) : Host.Outcome State Fault Refusal :=
  let k := s.core core
  match k.triggers.find? (fun g => decide (g.handler = handler)) with
  | none => .next s
  | some g =>
    match mget s.queues g.queue with
    | none => .next s
    | some q =>
      let express := decide (q.cls = 1)
      let stands := match s.headFor g.queue core with | .item _ => true | .closed => true | _ => false
      let space := decide (k.runq.length < if express then 64 else 60)
      let e : RunEntry := ⟨.trigger handler g.queue g.entry express, s.clk, min q.prio (s.cl (clusterOf core)).yceil.toNat, 3, handler⟩
      whenOk (stands && space && !k.triggerWaits handler && (s.cl (clusterOf core)).awake) s (s.joinRunq core e)

/-! ### Selection (09 R231-R236) -/

/-- Entry a comes before entry b (09 R232, R233). -/
def RunEntry.before (k : Cluster) (clk : Nat) (a b : RunEntry) : Bool :=
  let ea := effective a.base (clk - a.time) k
  let eb := effective b.base (clk - b.time) k
  let tie := decide (a.cls < b.cls) || (decide (a.cls = b.cls) && decide (a.key < b.key))
  let byTime := decide (a.time < b.time) || (decide (a.time = b.time) && tie)
  if a.isExpress != b.isExpress then a.isExpress
  else if a.isExpress then byTime
  else decide (eb < ea) || (decide (ea = eb) && byTime)

/-- The entry that comes first, by its place; among equals the one that joined first. -/
def bestEntry (k : Cluster) (clk : Nat) (l : List RunEntry) : Option (Nat × RunEntry) :=
  l.zipIdx.foldl (fun best p => match best with
    | none => some (p.2, p.1)
    | some b => if p.1.before k clk b.2 then some (p.2, p.1) else some b) none

/-- The clk at which a selected entry's first pair issues (09 R236, 04 R125). -/
def RunEntry.startTime (e : RunEntry) (clk : Nat) : Nat := match e.kind with | .cont _ => clk + 11 | _ => clk + 2

/-- A core may select in this clk (09 R232). -/
def State.maySelect (s : State) (c : Nat) : Bool :=
  s.isIdle c && (s.cl (clusterOf c)).awake && !s.isClaimed c && !(s.core c).cutBegun && (s.inlineDue c).isNone

/-- SELECT: express triggers first, then resumed callers, then the highest effective priority. -/
def execSelect (core : Nat) (s : State) : Host.Outcome State Fault Refusal :=
  let k := s.core core
  let cl := s.cl (clusterOf core)
  let best := bestEntry cl s.clk k.runq
  let express := match best with | some (_, e) => e.isExpress | none => false
  match (if express then none else k.resumed.head?), best with
  | some (n, _), _ =>
    let e : RunEntry := ⟨.cont n, s.clk, ((s.act? (clusterOf core) n).map (fun a => a.base)).getD 0, 1, 0⟩
    let eff := ((s.act? (clusterOf core) n).map (fun a => a.eff)).getD 0
    whenOk (s.maySelect core) s (s.modCore core (fun k => { k with
      resumed := k.resumed.drop 1, act := some n, mode := .starting e eff (e.startTime s.clk) }))
  | none, some (i, e) =>
    whenOk (s.maySelect core) s (s.modCore core (fun k => { k with
      runq := dropAt k.runq i, mode := .starting e (effective e.base (s.clk - e.time) cl) (e.startTime s.clk) }))
  | none, none => .next s

/-! ### Starts (08 R201) -/

/-- A core with the registers of a fresh activation; one under a cut counts it (08 R210). -/
def Core.fresh (k : Core) (n : Nat) (pc : Word) (args : List Word) : Core :=
  let xs := args.take 8
  { k with
    pc := pc
    x := (2, 0x20000) :: xs.zipIdx.map (fun p => (10 + p.2, p.1))
    v := [], m := [], h := [], k := [], a := [], yflags := 0
    act := some n, mode := .running, pending := [], nextPair := 0, waits := [], fails := [], barArrived := false, absent := none
    cutState := k.cutState.map (fun t => { t with acts := t.acts + 1 }) }

/-- A core with the registers of a frame: the words of its bytes, and the record beside them; tokens start at 0 (04 R117, 08
R201, 17 R381). -/
def State.restored (s : State) (c n : Nat) (f : Frame) : Core :=
  let cl := clusterOf c
  { s.core c with
    pc := BitVec.ofNat 64 (s.framePart cl f 0x0b8 8)
    x := (List.range 23).map (fun i => (i + 1, BitVec.ofNat 64 (s.framePart cl f (8 * i) 8)))
    v := if f.fault then (List.range 32).map (fun i => (i, BitVec.ofNat 1024 (s.framePart cl f (0x300 + 128 * i) 128))) else []
    m := if f.fault then (List.range 7).map (fun i => (i + 1, BitVec.ofNat 128 (s.framePart cl f (0x280 + 16 * i) 16))) else []
    h := f.h, k := [], a := f.a, yflags := BitVec.ofNat 6 (s.framePart cl f 0x0c8 8)
    act := some n, mode := .running, pending := [], nextPair := 0, waits := f.waits, fails := f.fails, barArrived := f.barArrived
    owed := f.owed, absent := none }

/-- Starts the continuation of an activation: a completion's words go to x10-x17 (03 R84); one that an END suspended
retires (03 R82). A core under a cut counts the start (08 R197, R210). -/
def State.startCont (s : State) (c n : Nat) (a : Act) (f : Frame) (eff : Nat) : State :=
  let cl := clusterOf c
  let k := s.restored c n f
  let k : Core := match a.place with
    | .resumed _ ws => (padWords 8 ws).zipIdx.foldl (fun (k : Core) (p : Word × Nat) => k.setX (10 + p.2) p.1) k
    | _ => k
  let a' := { a with place := .running c, frame := none, eff := eff, home := c }
  let s := ((s.setCore c { k with cutState := k.cutState.map (fun t => { t with acts := t.acts + 1 }) }).takeEngines c n).setAct cl n a'
  if f.endOnly then s.retire c n a' else s

/-- ACTIVATION_START: the clk before the first pair (09 R236). A trigger pops its item, or reopens its closed queue. -/
def execActivationStart (core : Nat) (s : State) : Host.Outcome State Fault Refusal :=
  let cl := clusterOf core
  match (s.core core).mode with
  | .starting e eff at' =>
    let due := decide (at' ≤ s.clk + 1) && (s.cl cl).awake
    match e.kind with
    | .trigger h q entry _ =>
      let back := s.modCore core (fun k => { k with mode := .idle })
      let head := s.headFor q core
      let args : List Word := match head with | .item ws => ws | _ => [BitVec.allOnes 64]
      let popped := match head with | .closed => s.modQ q Queue.reopen | _ => s.popFor q core
      match (s.cl cl).freeAct, head with
      | none, _ => .next s
      | some _, .empty => whenOk due s back
      | some _, .marker => whenOk due s back
      | some n, _ =>
        let pc : Word := 0x10000 + BitVec.ofNat 64 entry
        let a : Act := { queue := q, handler := h, kind := 0, rank := 0, size := 1, eff := eff, base := e.base, parent := none,
                         children := 0, start := pc, args := args, place := .running core, frame := none, call := [],
                         span := none, member := false, role := (s.core core).role, home := core, gate := (core, []), left := [], endAt := none }
        whenOk due s ((popped.setAct cl n a).modCore core (fun k => k.fresh n pc (padWords 8 args)))
    | .task n =>
      match s.act? cl n with
      | none => whenOk due s (s.modCore core (fun k => { k with mode := .idle, act := none }))
      | some a => whenOk (due && s.gateOpen .cl a.gate && (s.core core).roleCopy.isNone) s
          ((s.setAct cl n { a with place := .running core, eff := eff, home := core }).modCore core (fun k => k.fresh n a.start a.args))
    | .cont n =>
      match s.act? cl n with
      | none => whenOk due s (s.modCore core (fun k => { k with mode := .idle, act := none }))
      | some a => match a.frame with
        | none => .next s
        | some f => whenOk (due && (!f.endOnly || a.parent.isNone || a.left.all (s.gateOpen .cl))) s (s.startCont core n a f eff)
  | _ => .next s

/-! ### Continuations (09 R234, R242; 04 R114) -/

/-- CONTINUATION_READY: the last child has ended, or a slot has freed for a continuation that waits for one. -/
def execContinuationReady (cluster act : Nat) (s : State) : Host.Outcome State Fault Refusal :=
  match s.act? cluster act with
  | none => .next s
  | some a =>
    let saved := match a.frame with | some f => decide (f.savedAt < s.clk) | none => true
    let ready : Option (Nat × Option Nat) := match a.place with
      | .waitChildren => if a.children = 0 then some (s.clk, none) else none
      | .ready since on => some (since, on)
      | _ => none
    match ready with
    | some (since, on) => whenOk (saved && (s.cl cluster).awake) s (s.placeContinuation cluster act a since on)
    | none => .next s

/-- INLINE_CHILD_RETURN, in the clk after the child's END: the parent resumes on its core before any run-queue entry, with
x[d] = 1; its frame takes 10 clk (04 R114, R125). -/
def execInlineChildReturn (core : Nat) (s : State) : Host.Outcome State Fault Refusal :=
  match s.inlineDue core with
  | none => .next s
  | some (n, a, d) =>
    match a.frame with
    | none => .next s
    | some f =>
      let dest : Dest := .x d
      let port := ((s.core core).portOf dest).isSome
      let t := s.setAct (clusterOf core) n { a with place := .queued core }
      let t := if d = 0 ∨ 24 ≤ d then t else t.setFrameWord (clusterOf core) f (8 * (d - 1)) 1
      let t := if port then t.deliver core dest 1 else t
      whenOk (s.isIdle core && (s.cl (clusterOf core)).awake && (!port || s.canDeliver core s.nextId dest)) s
        (t.modCore core (fun k => { k with act := some n, mode := .starting ⟨.cont n, s.clk, a.base, 1, 0⟩ a.eff (s.clk + 10) }))

/-! ### Crews and spans (04 R115, 09 R237-R240) -/

/-- A member's activation: Kind 3 of a crew, 4 of a span. -/
def memberAct (w : Crew) (kind rank size core : Nat) : Act :=
  { queue := 0xffff, handler := 0, kind := kind, rank := rank, size := size, eff := w.prio, base := w.prio, parent := none,
    children := 0, start := w.start, args := w.args, place := .running core, frame := none, call := [], span := w.span,
    member := true, role := some w.role, home := core, gate := (w.issuer, w.gate), left := [], endAt := none }

/-- A masked core may take its member: it is idle, and the role that it took on has been copied (04 R112, R115). -/
def State.freeForMember (s : State) (c : Nat) : Bool := s.isIdle c && (s.core c).roleCopy.isNone

/-- Places a member on each core; its first pair issues at `at'`. -/
def State.placeMembers (s : State) (cl : Nat) (w : Crew) (kind at' : Nat) : State :=
  let cores := maskCores cl w.mask
  cores.zipIdx.foldl (fun s p =>
    match (s.cl cl).freeAct with
    | none => s
    | some n =>
      (s.setAct cl n (memberAct w kind p.2 cores.length p.1)).modCore p.1
        (fun k => { k with act := some n, mode := .starting ⟨.task n, s.clk, w.prio, 2, 0⟩ w.prio at' })) s

/-- CREW_START: every masked core is idle, and all members start together. -/
def execCrewStart (cluster : Nat) (s : State) : Host.Outcome State Fault Refusal :=
  match (s.cl cluster).crew with
  | none => .next s
  | some w =>
    let idle := (maskCores cluster w.mask).all s.freeForMember
    whenOk (w.span.isNone && idle && s.gateOpen .cl (w.issuer, w.gate) && (s.cl cluster).awake) s
      ((s.placeMembers cluster w 3 (s.clk + 2)).modCl cluster (fun k => { k with crew := none }))

/-- A completion that names no activation that waits is dropped and counted (03 R85). -/
def State.dropCompletion (s : State) : State := { s with dropped := s.dropped + 1 }

/-- Resumed callers in the order in which their completions were popped; those of one clk by activation number (09 R235). -/
def joinResumed (l : List (Nat × Nat)) (n clk : Nat) : List (Nat × Nat) :=
  let first (p : Nat × Nat) : Bool := decide (p.2 < clk) || (decide (p.2 = clk) && decide (p.1 < n))
  l.takeWhile first ++ (n, clk) :: l.dropWhile first

/-- A completion reaches its caller (03 R84, R85): one whose tag names none that waits is dropped. Its word 7 reads the
version of the service that served the call in bits 63:32 (17 R400). -/
def State.completeCall (s : State) (words : List Word) : State :=
  let tag := (nth words 7 0).toNat
  let core := bitsAt tag 0 14
  let n := bitsAt tag 30 16
  let cl := clusterOf core
  let version := mgetD s.services ((s.cl cl).sysq.getD 0) 0
  let words := setAt (padWords 8 words) 7 (BitVec.ofNat 64 (version % 2 ^ 32 * 2 ^ 32 + tag % 2 ^ 32))
  if bitsAt tag 14 16 ≠ (s.cl cl).gen then s.dropCompletion
  else match s.act? cl n with
    | none => s.dropCompletion
    | some a =>
      match a.place, (s.core core).mode with
      | .inCall c, _ =>
        if c = core then
          (s.setAct cl n { a with place := .resumed c words }).modCore c (fun k => { k with resumed := joinResumed k.resumed n s.clk })
        else s.dropCompletion
      | .running c, .memberCall m =>
        if m = n ∧ c = core then s.modCore c (fun k =>
          (padWords 8 words).zipIdx.foldl (fun k p => k.setX (10 + p.2) p.1) { k with mode := .running })
        else s.dropCompletion
      | _, _ => s.dropCompletion

/-- COMPLETION_ARRIVAL (03 R84, R85; 09 R235). -/
def execCompletionArrival (words : List Word) (s : State) : Host.Outcome State Fault Refusal :=
  .next (s.completeCall words)

/-- A completion of the allocator sets out: it reaches its caller's cluster after the mesh time from the service (09 R245). -/
def State.answerCall (s : State) (words : List Word) : State :=
  { s with calls := s.calls ++ [(s.clk + meshTime 0 (clusterOf (bitsAt (nth words 7 0).toNat 0 14)), words)] }

/-- A completion of the allocator arrives. -/
def execCallAnswered (i : Nat) (s : State) : Host.Outcome State Fault Refusal :=
  match s.calls[i]? with
  | none => .next s
  | some (at', words) => whenOk (decide (at' ≤ s.clk)) s (({ s with calls := dropAt s.calls i }).completeCall words)

/-- The completion of a span-start call. -/
def spanDone (status : Nat) (tag : Word) : List Word := [BitVec.ofNat 64 status, 0, 0, 0, 0, 0, 0, tag]

/-- The clusters of a span, ascending. -/
def Span.clusters (sp : Span) : List Nat :=
  (List.range sp.rows).flatMap (fun r => (List.range sp.cols).map (fun c => (sp.orow + r) * 32 + (sp.ocol + c)))

/-- The span that a call item asks for, or the status that refuses it (09 R238). -/
def State.askSpan (s : State) (item : List Word) : Except Nat Span :=
  let tag := nth item 7 0
  let core := bitsAt tag.toNat 0 14
  let cl := clusterOf core
  let k := s.cl cl
  let x11 := (nth item 1 0).toNat
  let aw := ActWord.ofWord (nth item 2 0)
  let rows := bitsAt x11 15 5 + 1
  let cols := bitsAt x11 10 5 + 1
  let o := bitsAt x11 0 10
  let caller := s.act? cl (bitsAt tag.toNat 30 16)
  let role := (caller.bind (fun a => a.role)).getD (0, k.region.getD 1024)
  let sp : Span := { region := k.region.getD 1024, orow := k.row0 + o / 32, ocol := k.col0 + o % 32, rows := rows, cols := cols,
                     mask := bitsAt x11 20 8, start := 0x10000 + BitVec.ofNat 64 aw.entry,
                     args := ((item.drop 3).take 4).take aw.argc,
                     prio := aw.base ((caller.map (fun a => a.base)).getD 0) k.yceil, role := role, issuer := core, tag := tag,
                     claimed := [], placed := false, started := false, members := 0, bars := [], counted := [], inFlight := [], releases := [] }
  if k.rows1 < o / 32 + rows - 1 ∨ k.cols1 < o % 32 + cols - 1 ∨ 64 < rows * cols then .error 1
  else if sp.mask = 0 ∨ x11 ≥ 2 ^ 28 ∨ (nth item 0 0).toNat ≥ 65536 ∨ ActWord.valid (nth item 2 0) = false ∨ aw.chosen = true ∨
    aw.core ≠ 0 ∨ aw.cluster ≠ 0 ∨ 4 < aw.argc then .error 2
  else if sp.clusters.any (fun c => (maskCores c sp.mask).any (fun i =>
      decide ((s.core i).role ≠ none) && decide ((s.core i).role ≠ some role))) then .error 3
  else if sp.clusters.any (fun c => (s.cl c).span.isSome) then .error 4
  else .ok sp

/-- SPAN_START_CALL: Lemnani's allocator, once ready (18 R416), takes the call at the head of a system-call queue. -/
def execSpanStartCall (q : Nat) (s : State) : Host.Outcome State Fault Refusal :=
  match mget s.queues q with
  | none => .next s
  | some qu =>
    match qu.headAt 0 with
    | .item ws =>
      let t := s.setQ q (qu.popAt 0)
      let mine := decide ((nth ws 0 0).toNat % 65536 = 0x0100) && decide (bitsAt s.ready.toNat 4 1 = 1)
      whenOk mine s (match s.askSpan ws with
        | .error st => t.answerCall (spanDone st (nth ws 7 0))
        | .ok sp => { t with spans := mset t.spans s.nextId sp, nextId := s.nextId + 1 })
    | _ => .next s

/-- A span as the claim of a crew slot. -/
def Span.crew (sp : Span) (id : Nat) : Crew := ⟨sp.mask, sp.start, sp.args, sp.prio, sp.role, sp.issuer, some id, []⟩

/-- The cluster's member cores have taken their members up: the start has reached it. -/
def State.spanStarted (s : State) (c mask : Nat) : Bool :=
  (maskCores c mask).all (fun i => match (s.core i).mode with | .starting _ _ _ => false | _ => true)

/-- After the placement of a span's members: each cluster's crew slot frees when the start has reached it, and the call
completes with status 0 once every member has started (09 R238, R239). -/
def State.spanStarts (s : State) (span : Nat) (sp : Span) : State :=
  let held := sp.clusters.filter (fun c => decide (((s.cl c).crew.bind (fun w => w.span)) = some span))
  let s := (held.filter (fun c => s.spanStarted c sp.mask)).foldl (fun s c => s.modCl c (fun k => { k with crew := none })) s
  if sp.started || held.any (fun c => !s.spanStarted c sp.mask) then s
  else ({ s with spans := mset s.spans span { sp with started := true } }).answerCall (spanDone 0 sp.tag)

/-- SPAN_MEMBERS_PLACED (09 R239): the next cluster's slot is claimed, in ascending index and never given back; once all
are claimed and every masked core is idle, cores without a role take it on, members are placed, and the start goes out. -/
def execSpanMembersPlaced (span : Nat) (s : State) : Host.Outcome State Fault Refusal :=
  match mget s.spans span with
  | none => .next s
  | some sp =>
    if sp.placed then .next (s.spanStarts span sp)
    else match sp.clusters.find? (fun c => !sp.claimed.contains c) with
      | some c =>
        whenOk ((s.cl c).crew.isNone && (s.cl c).span.isNone && (s.cl c).awake) s
          (({ s with spans := mset s.spans span { sp with claimed := sp.claimed ++ [c] } } : State).modCl c
            (fun k => { k with span := some span, crew := some (sp.crew span) }))
      | none =>
        let cores := sp.clusters.flatMap (fun c => maskCores c sp.mask)
        let idle := cores.all s.isIdle && sp.clusters.all (fun c => (s.cl c).awake)
        let roled := cores.all (fun i => (s.core i).role.isSome)
        let t := sp.clusters.foldl (fun s c => s.placeMembers c (sp.crew span) 4 (s.clk + sp.delay c)) s
        let sp' := { sp with placed := true, members := sp.clusters.length * maskCount sp.mask }
        if !roled then whenOk idle s (cores.foldl (fun s i => s.takeRole sp.issuer i sp.role []) s)
        else whenOk (idle && cores.all s.freeForMember) s { t with spans := mset t.spans span sp' }

/-! ### Work from other clusters (04 R112, R113) -/

/-- ACT_REQUEST_ARRIVAL: the target cluster places the activation and answers. -/
def execActRequestArrival (i : Nat) (s : State) : Host.Outcome State Fault Refusal :=
  match s.actReqs[i]? with
  | none => .next s
  | some r =>
    let aw := ActWord.ofWord r.word
    let act := (aw.new r.args (aw.base r.prio (s.cl r.cluster).yceil) r.core r.role r.gate).act none
    let (st, t) := s.actAt r.core r.cluster r.role aw act 5 (clusterOf r.core)
    let back := s.clk + meshTime (clusterOf r.core) r.cluster
    if !(s.cl r.cluster).awake then .next (if r.at_ ≤ s.clk then s.wake r.cluster else s) else
    whenOk (r.answer.isNone && decide (r.at_ ≤ s.clk)) s
      { t with actReqs := setAt t.actReqs i { r with answer := some st, at_ := back } }

/-- ACT_ANSWER: the status reaches the issuer, usable in the clk after (04 R113). -/
def execActAnswer (core id : Nat) (s : State) : Host.Outcome State Fault Refusal :=
  match s.actReqs.find? (fun r => decide (r.core = core) && decide (r.id = id)) with
  | none => .next s
  | some r =>
    match r.answer with
    | none => .next s
    | some st =>
      let t := { s with actReqs := s.actReqs.filter (fun q => !(decide (q.core = core) && decide (q.id = id))) }
      whenOk (decide (r.at_ < s.clk) && s.canAnswer core id) s (t.answer core id [BitVec.ofNat 1024 st])

/-! ### Barriers (04 R121, R125; 09 R240) -/

/-- BARRIER_RELEASE: in the clk after a phase completes its waiters go on, and what has arrived since may complete
another. -/
def execBarrierRelease (cluster bar : Nat) (s : State) : Host.Outcome State Fault Refusal :=
  if !(s.cl cluster).awake then .next s else
  match mget (s.cl cluster).bars bar with
  | none => .next s
  | some b =>
    let due := match b.doneAt with | some t => decide (t < s.clk) | none => false
    let b1 : Barrier := { b with rel := [], doneAt := none }
    let b2 : Barrier := if 0 < b.n ∧ b.n ≤ b.a then { b1 with a := b.a - b.n, pend := [], rel := b.pend, doneAt := some s.clk } else b1
    whenOk due s (s.modCl cluster (fun k => { k with bars := mset k.bars bar b2 }))

/-- SPAN_BARRIER_ARRIVAL: an arrival reaches the barrier network; one that completes a phase sends the releases. -/
def execSpanBarrierArrival (span i : Nat) (s : State) : Host.Outcome State Fault Refusal :=
  match mget s.spans span with
  | none => .next s
  | some sp =>
    match sp.inFlight[i]? with
    | none => .next s
    | some (bar, core, at') =>
      let b := mgetD sp.bars bar Barrier.reset
      let all := mgetD sp.counted bar [] ++ [core]
      let full := decide (b.n ≤ b.a + 1)
      let b' : Barrier := if full then { b with a := b.a + 1 - b.n, doneAt := some s.clk } else { b with a := b.a + 1 }
      let sp' : Span := { sp with
        inFlight := dropAt sp.inFlight i, bars := mset sp.bars bar b', counted := mset sp.counted bar (if full then [] else all)
        releases := if full then sp.releases ++ all.map (fun c => (bar, c, s.clk + sp.delay (clusterOf c))) else sp.releases }
      whenOk (decide (at' ≤ s.clk) && !(full && decide (b.doneAt = some s.clk)) && s.awakeAt core) s { s with spans := mset s.spans span sp' }

/-- SPAN_BARRIER_RELEASE: the release reaches a member's cluster; a later arrival of the member keeps it pending. -/
def execSpanBarrierRelease (span i : Nat) (s : State) : Host.Outcome State Fault Refusal :=
  match mget s.spans span with
  | none => .next s
  | some sp =>
    match sp.releases[i]? with
    | none => .next s
    | some (bar, core, at') =>
      let b := mgetD sp.bars bar Barrier.reset
      let again := (mgetD sp.counted bar []).contains core || sp.inFlight.any (fun f => decide (f.1 = bar) && decide (f.2.1 = core))
      let b' := if again then b else { b with pend := b.pend.filter (fun c => decide (c ≠ core)) }
      whenOk (decide (at' ≤ s.clk) && s.awakeAt core) s { s with
        spans := mset s.spans span { sp with releases := dropAt sp.releases i, bars := mset sp.bars bar b' } }

/-! ### Parked callers (03 R86) -/

/-- PARKED_CALLER_RESUME: the oldest parked caller whose core may push repeats its call; a member does so itself. -/
def execParkedCallerResume (cluster : Nat) (s : State) : Host.Outcome State Fault Refusal :=
  let mine (n : Nat) : Bool := match s.act? cluster n with | some a => s.canCall a.home | none => false
  match (s.cl cluster).callers.find? mine with
  | none => .next s
  | some n =>
    match s.act? cluster n with
    | none => .next s
    | some a => match a.place with
      | .parkedCall c =>
        whenOk (s.cl cluster).awake s (((s.pushCall c a.call).setAct cluster n { a with place := .inCall c }).modCl cluster
          (fun k => { k with callers := k.callers.filter (fun m => decide (m ≠ n)) }))
      | _ => .next s

end Sys2Proof.Machine
end

