-- ==== Sys2Proof/Machine/Loading.lean ====
section
/-!
DEFINITION. Loading a program, its live point, its end, and its replacement under a cut (01 R26-R32, 02 R67-R70,
08 R203-R215, 17 R397).
-/

namespace Sys2Proof.Machine

/-! ### Regions -/

/-- The clusters of a region by its origin. -/
def regionClusters (org rows cols : Nat) : List Nat :=
  (List.range rows).flatMap (fun r => (List.range cols).map (fun c => org + 32 * r + c))

/-- The clusters and cores of a program. -/
def Program.clusters (p : Program) (org : Nat) : List Nat := regionClusters org p.image.rows p.image.cols
def Program.cores (p : Program) (org : Nat) : List Nat := (p.clusters org).flatMap (fun k => (List.range 8).map (fun i => 8 * k + i))

/-- The cluster offset of a cluster in a region. -/
def offsetIn (org k : Nat) : Nat := 32 * (k / 32 - org / 32) + (k % 32 - org % 32)

/-- Sets a program. -/
def State.setProg (s : State) (org : Nat) (p : Program) : State := { s with progs := mset s.progs org p }

/-- A completion of a request: kind 0 load, 1 replacement, 2 unload; the region's origin, status, program identifier. -/
def State.says (s : State) (kind org status id : Nat) : State := { s with outbox := s.outbox ++ [.status kind org status id] }

/-- Fills a range of memory with zeros. -/
def State.zero (s : State) (key n : Nat) : State :=
  { s with mem := memClear s.mem key n, poison := s.poison.filter (fun l => !(decide (key ≤ l * 32) && decide (l * 32 + 32 ≤ key + n))) }

/-! ### Blocks (01 R26) -/

/-- Pieces of 4 KiB of a section of `n` bytes. -/
def pieces (root typ role n : Nat) : List (Nat × Nat × Nat) :=
  (List.range ((n + 4095) / 4096)).map (fun k => (root, typ * 256 + role, k))

/-- The blocks of an image, at the root of its boot tree. -/
def Image.blocks (m : Image) (org : Nat) : List (Nat × Nat × Nat) :=
  m.roles.flatMap (fun r =>
    pieces (org + m.root) 1 r.num (4 * (9 + r.handlers.length + r.code.length)) ++
      (if r.data.isEmpty then [] else pieces (org + m.root) 8 r.num (8 + r.data.length)) ++
      (match r.atoll with | some a => pieces (org + m.root) 9 r.num (4 * a.length) | none => []))

/-- The bytes that piece `k` of a section puts where its content behind a header of `hdr` bytes goes. -/
def pieceBytes (hdr k : Nat) (bs : List Byte) : Nat × List Byte :=
  let a := 4096 * k - hdr
  (a, (bs.drop a).take (4096 * (k + 1) - hdr - a))

/-- Contexts or banks of an Atoll section, `size` bytes each, by number. -/
def atollParts (names : List Nat) (size : Nat) (bs : List Byte) : FMap (List Byte) :=
  names.zipIdx.map (fun p => (p.1, (bs.drop (size * p.2)).take size))

/-- Writes an Atoll section into a cluster's Atoll (02 R70). -/
def Atoll.load (t : Atoll) (a : List InstrWord) : Atoll :=
  let w := wordAt a 0
  let ctx := maskNames w 8
  let bank := maskNames (w / 256) 4
  let bs := bytesOf32 (a.drop 1)
  { t with
    ctxs := (atollParts ctx 3072 bs).foldl (fun m p => mset m p.1 p.2) t.ctxs
    banks := (atollParts bank 4096 (bs.drop (3072 * ctx.length))).foldl (fun m p => mset m p.1 p.2) t.banks
    ctxMask := t.ctxMask ||| w % 256
    bankMask := t.bankMask ||| bitsAt w 8 4 }

/-- Writes bytes into the local stores of the cores of a cluster that hold a role. -/
def State.writeRole (s : State) (m : Image) (org k role off : Nat) (bs : List Byte) : State :=
  ((List.range 8).filter (fun i => (m.roleAt (offsetIn org k) i).map (fun r => r.num) = some role)).foldl
    (fun s i => if bs.isEmpty then s else s.writeOnce (localKey (8 * k + i) off) bs) s

/-- A cluster keeps a block of a role that is placed on it (01 R18, R26, 02 R69, R70). -/
def State.keepBlock (s : State) (m : Image) (org k typ role piece : Nat) : State :=
  match m.roles.find? (fun r => decide (r.num = role)) with
  | none => s
  | some r =>
    if typ = 1 then
      let (a, bs) := pieceBytes (4 * (9 + r.handlers.length)) piece (bytesOf32 r.code)
      s.writeRole m org k role (r.off + a) bs
    else if typ = 8 then
      let (a, bs) := pieceBytes 8 piece r.data
      s.writeRole m org k role (r.dataOff + a) bs
    else if piece = 0 ∧ m.placedOn (offsetIn org k) role then
      s.modCl k (fun c => { c with atoll := c.atoll.load (r.atoll.getD []) })
    else s

/-- The clusters below one in the boot tree, itself included, as offsets. -/
def Image.below (m : Image) (off : Nat) : List Nat := reached m.edges (m.edges.length + 1) [off]

/-- Edges along which a block of a role goes on. -/
def Image.onward (m : Image) (off role : Nat) : List (Nat × Nat × Nat) :=
  m.edges.filter (fun e => decide (e.1 = off) && (m.below e.2.1).any (fun o => m.placedOn o role))

/-- The image whose blocks a program is receiving. -/
def Program.incoming (p : Program) : Image := match p.phase with | .staging => p.next.getD p.image | _ => p.image

/-- IMAGE_BLOCK (01 R26, 08 R204): a block reaches a cluster, which keeps it and forwards it; a forwarder core does so
between its own activations. A staged block waits in the staging area. -/
def execImageBlock (region cluster i : Nat) (s : State) : Host.Outcome State Fault Refusal :=
  if !(s.cl cluster).awake then .next (s.wake cluster) else
  match mget s.progs region with
  | none => .next s
  | some p =>
    match p.blocks[i]? with
    | none => .next s
    | some (k, tr, piece) =>
      let m := p.incoming
      let on := m.onward (offsetIn region k) (tr % 256)
      let free := on.all (fun e => decide ((s.core (8 * k + e.2.2)).act = none))
      let blocks := dropAt p.blocks i ++ on.map (fun e => (region + e.2.1, tr, piece))
      let t := s.setProg region { p with blocks := blocks }
      whenOk (decide (k = cluster) && free) s
        (match p.phase with
          | .loading => t.keepBlock m region k (tr / 256) (tr % 256) piece
          | _ => t)

/-- A block that a cluster needs has not reached it. -/
def Program.waitsBlock (p : Program) (org k : Nat) : Bool :=
  let m := p.incoming
  let off := offsetIn org k
  p.blocks.any (fun b => m.placedOn off (b.2.1 % 256) && (m.below (offsetIn org b.1)).contains off)

/-! ### Load requests (01 R30, R32, 18 R416) -/

/-- The region's clusters lie in the partition and are free. -/
def State.regionFree (s : State) (r : LoadReq) (m : Image) : Bool :=
  match s.part? r.part with
  | none => false
  | some p =>
    decide (p.row0 ≤ r.row0) && decide (r.row0 + m.rows ≤ p.row0 + p.rows) && decide (p.col0 ≤ r.col0) &&
      decide (r.col0 + m.cols ≤ p.col0 + p.cols) &&
      (regionClusters (32 * r.row0 + r.col0) m.rows m.cols).all (fun k => (s.cl k).region.isNone)

/-- Services and rows that a load needs are ready. -/
def State.serviceReady (s : State) (bits : List Nat) : Bool := bits.all (fun b => s.ready.getLsbD b)

/-- The 64 KiB units of a slice that Lemnani reserves beside a program's allocations: where the cactus stack and where the fault
buffer's frames begin, and all its units, queue storage among them (04 R118, 09 R217, 17 R381). -/
structure SliceLayout where
  stack : Nat
  fault : Nat
  units : List Nat
  deriving DecidableEq, Repr

/-- 64 KiB units of the cactus stack. -/
def stackUnits (r : LoadReq) : Nat := max 1 r.stack

/-- The units of a slice that a program is allocated. -/
def programUnits (r : LoadReq) (off : Nat) : List Nat :=
  (r.slices.filter (fun x => decide (x.1 = off))).flatMap (fun x => (List.range x.2.2).map (fun j => x.2.1 + j))

/-- The highest run of `n` units of a slice that are not taken. -/
def freeRun (taken : List Nat) (n : Nat) : Option (List Nat) :=
  ((List.range (17 - n)).reverse.map (fun u => (List.range n).map (fun j => u + j))).find? (fun l => l.all (fun u => !taken.contains u))

/-- The units that Lemnani reserves, if they fit beside the program's: the highest that are free for the stack, for two units of
fault frames, then for queue storage (DESIGN CHOICE, log 46). -/
def sliceLayout (r : LoadReq) (m : Image) (off : Nat) : Option SliceLayout :=
  let mine := programUnits r off
  match freeRun mine (stackUnits r) with
  | none => none
  | some st => match freeRun (mine ++ st) 2 with
    | none => none
    | some fl =>
      let n := (m.storage r off + 65535) / 65536
      let q := (((List.range 16).reverse.filter (fun u => !(mine ++ st ++ fl).contains u))).take n
      if q.length = n ∧ mine.all (fun u => decide (u < 16)) then some ⟨st.headD 0, fl.headD 0, st ++ fl ++ q⟩ else none

/-- Identifiers and storage are available (01 R30 order 9, 09 R217). A full tensor table, for which the spec gives no status, fails
the load here too (DESIGN CHOICE, log 62). -/
def State.resourcesOk (s : State) (r : LoadReq) (m : Image) : Bool :=
  (match s.part? r.part with
    | some p => r.qids.all (fun q => decide (p.qLo ≤ q) && decide (q < p.qLo + p.qN))
    | none => false) &&
    decide (r.qids.length = m.queues.length) && distinct r.qids && r.qids.all (fun q => (mget s.queues q).isNone) &&
    m.offsets.all (fun o => decide ((s.cl (32 * r.row0 + r.col0 + o)).qbytes + m.storage r o ≤ 768 * 1024) && (sliceLayout r m o).isSome) &&
    decide (s.tensors.length + m.tensors.length ≤ 16384)

/-- The status of a load request: the first check that fails (01 R30), or not ready (18 R416; log 22). -/
def State.loadStatus (s : State) (r : LoadReq) : Nat :=
  let ws := r.words
  if !s.serviceReady [3, 4] then 14
  else if !headerOk ws then 1
  else if !s.signatureOk ws then 2
  else if !directoryOk ws then 3
  else
    let m := imageOf ws
    if !s.regionFree r m then 7
    else if !s.serviceReady ((List.range m.rows).map (fun i => 32 + r.row0 + i)) then 14
    else if !(contentOk ws m && windowsSupplied r m) then 9
    else if !placementOk m then 4
    else if !(s.queuesOk ws m r.part && s.namesOk m r) then 5
    else if !treeOk ws m then 6
    else if !s.resourcesOk r m then 8
    else 0

/-- The chip's queue of an image queue number. -/
def chipQueue (qmap : List (Nat × Nat)) (q : Nat) : Nat := ((qmap.find? (fun p => decide (p.1 = q))).map (fun p => p.2)).getD 0

/-- The queue object of a record (01 R22-R24, 09 R217, R218, R225); its producers are admitted at the live point;
`at_` gives a client's router. -/
def makeQueue (m : Image) (r : LoadReq) (at_ : Nat → Nat) (g : List InstrWord) : Queue :=
  let q := QRec.of g
  let org := 32 * r.row0 + r.col0
  let entry := m.isEntry q.num
  let cores := (m.producers q.num).map (fun p => Party.core (8 * (org + p.1) + p.2) 0)
  let bound := (m.outputs q.num).map (fun p => Party.core (8 * (org + p.1) + p.2.1) p.2.2)
  let clients := (r.producers.filter (fun p => decide (p.1 = q.num))).map (fun p => p.2)
  let named := if entry then clients.map Party.client else []
  let ext (w : Nat) : Branch :=
    match r.consumers.find? (fun c => decide (c.queue = q.num) && decide (c.index = bitsAt w 10 3)) with
    | some ⟨_, _, _, some (chip, far)⟩ => ⟨.queueOn chip far, 0, [], 0, 0⟩
    | some c => ⟨.client c.client, at_ c.client, [], 0, 0⟩
    | none => ⟨.client 0, at_ 0, [], 0, 0⟩
  { part := r.part, region := some org, words := q.words, log2 := q.log2, window := q.window, chan := q.chan, prio := q.prio
    cls := q.cls, merge := q.merge
    relays := q.relays.map (fun x => (org + x, []))
    branches := q.consumers.map (fun w =>
      if isExternal w then ext w
      else ⟨.core (8 * (org + w % 1024) + bitsAt w 10 3) 0, org + w % 1024, [], 0, 0⟩)
    subs := if q.merge then (cores ++ named).map (fun _ => []) else []
    mprod := if q.merge then cores ++ named else []
    credits := (bound ++ named).map (fun p => (p, q.window))
    entryQ := entry, isOpen := false, named := if entry then clients else []
    flight := [], returns := [], order := [], beyond := [], farConsumers := 0, farRelays := 0 }

/-- The port and trigger bindings of a role (01 R18). -/
def Core.bindRole (k : Core) (chip : Nat) (qmap : List (Nat × Nat)) (r : Role) : Core :=
  { k with
    ports := (r.ports.zipIdx.filter (fun p => decide (p.1.1 ≠ 0))).map (fun p =>
      (p.2, ⟨chipQueue qmap p.1.2, chip, decide (p.1.1 = 2), 0⟩))
    triggers := r.handlers.zipIdx.map (fun h => ⟨h.2, chipQueue qmap h.1.2, r.off + 4 * h.1.1⟩) }

/-- The channel table that an image loads (02 R67); a code set that it does not declare holds zeros (DESIGN CHOICE, log 62). -/
def Cluster.loadTables (k : Cluster) (m : Image) : Cluster :=
  { k with
    chans := m.chans.foldl (fun t c => mset t c.1 c.2) []
    z := m.scales.foldl (fun t c => mset t c.1 c.2) []
    codes := m.codes.foldl (fun t c => mset t c.1 c.2) [] }

/-- A generation that no live region holds (17 R397). -/
def State.newGen (s : State) : Nat := ((s.clusters.map (fun c => c.2.gen)).foldl max 0 + 1) % 65536

/-- Maps the tensors of an image (02 R68): a record is mapped as it is, also one that XTEN would refuse (15 R333), and at a
replacement one that finds the table full stays unmapped (DESIGN CHOICE, log 62). -/
def State.mapTensors (s : State) (org : Nat) (m : Image) (part : Nat) : State :=
  m.tensors.foldl (fun s t => match mget s.progs org with
    | some p => (s.mapTensor part org t.1 p t.2).getD s
    | none => s) s

/-- A cluster of a region as its program begins: the partition's ceiling and system-call queue, the region, the channel table
and the slice map, in which what Lemnani reserves is closed to tenants (03 R90, R94, 04 R118, 09 R217, 12 R282, 17 R395). -/
def Cluster.enter (k : Cluster) (p : Partition) (r : LoadReq) (m : Image) (gen off : Nat) : Cluster :=
  let lay := (sliceLayout r m off).getD ⟨0, 0, []⟩
  { ({ Cluster.reset with yagei := k.yagei, power := k.power, request := k.request, tlb := k.tlb, faults := k.faults, overflow := k.overflow }
      : Cluster).loadTables m with
    gen := gen, part := r.part, rows1 := m.rows - 1, cols1 := m.cols - 1, row0 := r.row0, col0 := r.col0
    region := some (32 * r.row0 + r.col0), sysq := p.sysQ, yceil := BitVec.ofNat 5 p.ceil
    slice := lay.units.foldl (fun t u => mset t u ⟨true, true, true⟩)
      ((programUnits r off).foldl (fun t u => mset t u ⟨true, true, false⟩) [])
    stack := 65536 * lay.stack, stackFrames := 65536 * stackUnits r / 640, faultStack := 65536 * lay.fault
    qbytes := k.qbytes + m.storage r off }

/-- A program is claimed and its loading begins (01 R27): queues, bindings, tables and windows are in place at once; the
blocks start at the root. -/
def State.claim (s : State) (r : LoadReq) : State :=
  let m := imageOf r.words
  let org := 32 * r.row0 + r.col0
  let qmap := (m.queues.zip r.qids).map (fun q => ((QRec.of q.1).num, q.2))
  let gen := s.newGen
  let pt := (s.part? r.part).getD ⟨0, 0, 0, 0, 0, 0, 0, 0, 0, none, [], false, []⟩
  let wins := m.wins.foldl (fun t w =>
    mset t w.1 (if w.2.1 then ((r.windows.find? (fun x => decide (x.1 = w.1))).map (fun x => x.2)).getD [] else w.2.2.2)) []
  let p : Program := { image := m, part := r.part, qmap := qmap, phase := .loading, blocks := m.blocks org, wins := wins, tens := []
                       next := none, nextReq := some r, cutAt := 0, timeout := 0, marks := [] }
  let s := s.setProg org p
  let s := { s with queues := (m.queues.zip qmap).foldl (fun t (q : List InstrWord × Nat × Nat) => mset t q.2.2 (makeQueue m r s.clientRouter q.1)) s.queues }
  let s := m.offsets.foldl (fun s o =>
    let s := s.modCl (org + o) (fun k => k.enter pt r m gen o)
    let s := r.slices.foldl (fun s x => if x.1 = o then s.zero (sliceKey (org + o) (65536 * x.2.1)) (65536 * x.2.2) else s) s
    (List.range 8).foldl (fun s i =>
      let c := 8 * (org + o) + i
      let k : Core := match m.roleAt o i with
        | some role => ({ Core.reset with role := some (role.num, org) } : Core).bindRole s.chip.toNat qmap role
        | none => Core.reset
      (s.setCore c { k with det := m.det }).zero (localKey c 0) 65536) s) s
  s.mapTensors org m r.part

/-- LOAD_REQUEST (01 R30). -/
def execLoadRequest (r : LoadReq) (s : State) : Host.Outcome State Fault Refusal :=
  let st := s.loadStatus r
  .next (if st = 0 then s.claim r else s.says 0 (32 * r.row0 + r.col0) st (wordAt r.words 6))

/-! ### The live point (01 R31, 08 R211) -/

/-- The program becomes live: entry queues open, cuts end, YWOOB clears (12 R295). -/
def State.live (s : State) (org : Nat) (p : Program) : State :=
  let kind := if p.phase = .committing then 1 else 0
  let s := { s with queues := s.queues.map (fun (q : Nat × Queue) => (q.1, if q.2.region = some org then { q.2 with isOpen := true } else q.2)) }
  let s := (p.cores org).foldl (fun s c => s.modCore c (fun k =>
    { k with ywoob := 0, cut := false, cutState := none, reported := false, acked := false })) s
  (s.setProg org { p with phase := .live, next := none, nextReq := none }).says kind org 0 p.image.id

/-- The program whose region holds a core. -/
def State.progOf (s : State) (c : Nat) : Option (Nat × Program) :=
  match (s.cl (clusterOf c)).region with
  | some org => (mget s.progs org).map (fun p => (org, p))
  | none => none

/-- LOADED_REPORT (01 R31): the last report sends the start items. -/
def execLoadedReport (core : Nat) (s : State) : Host.Outcome State Fault Refusal :=
  if !(s.awakeAt core) then .next (s.wake (clusterOf core)) else
  match s.progOf core with
  | none => .next s
  | some (org, p) =>
    let t := s.modCore core (fun k => { k with reported := true })
    let all := (p.cores org).all (fun c => (t.core c).reported)
    whenOk (decide (p.phase = .loading) && !(s.core core).reported && !p.waitsBlock org (clusterOf core)) s
      (if all then t.setProg org { p with phase := .starting } else t)

/-- START_ACK (01 R31, 08 R211): the last acknowledgement makes the LIVE_POINT. -/
def execStartAck (core : Nat) (s : State) : Host.Outcome State Fault Refusal :=
  if !(s.awakeAt core) then .next (s.wake (clusterOf core)) else
  match s.progOf core with
  | none => .next s
  | some (org, p) =>
    let t := s.modCore core (fun k => { k with acked := true })
    let all := (p.cores org).all (fun c => (t.core c).acked)
    whenOk ((decide (p.phase = .starting) || decide (p.phase = .committing)) && !(s.core core).acked) s
      (if all then t.live org p else t)

/-! ### The end of a program (17 R397) -/

/-- The rest of a chip's units forget a program's cores and queues. -/
def State.forget (s : State) (org : Nat) (cores clusters : List Nat) : State :=
  let gone (c : Nat) : Bool := cores.contains c
  { s with
    queues := s.queues.filter (fun q => decide (q.2.region ≠ some org))
    progs := mdel s.progs org
    spans := s.spans.filter (fun sp => decide (sp.2.region ≠ org))
    freezes := s.freezes.filter (fun f => decide (f.2.value.toNat % 1024 ≠ org))
    images := s.images.filter (fun m => decide (m.2.origin ≠ org))
    tensors := s.tensors.filter (fun t => decide (t.2.region ≠ org))
    walks := s.walks.filter (fun w => !clusters.contains w.cluster)
    sends := s.sends.filter (fun x => !gone x.core)
    asks := s.asks.filter (fun a => !gone a.core)
    actReqs := s.actReqs.filter (fun a => !gone a.core && !clusters.contains a.cluster)
    ywrites := s.ywrites.filter (fun w => !gone w.1)
    engines := s.engines.map (fun g => (g.1, { g.2 with
      inbox := g.2.inbox.filter (fun r => !gone r.core)
      answers := g.2.answers.filter (fun a => !gone a.1)
      posted := g.2.posted.filter (fun n => !gone (g.2.slot n).core)
      slots := g.2.slots.map (fun p => (p.1, if gone p.2.core then { p.2 with state := .free, msg := none, pulling := false, asked := false, buf := [] } else p.2)) })) }

/-- Ends a program: its state is discarded, its generation raised, its clusters released. Tickets and gating stay. -/
def State.endProgram (s : State) (org : Nat) : State :=
  match mget s.progs org with
  | none => s
  | some p =>
    let gen := s.newGen
    let s := (p.cores org).foldl (fun s c => s.setCore c Core.reset) s
    let s := (p.clusters org).foldl (fun s k => s.modCl k (fun c =>
      { Cluster.reset with gen := gen, part := c.part, yagei := c.yagei, power := c.power, request := c.request, tlb := c.tlb
                           faults := c.faults.map (fun f => (f.1, { FaultEntry.reset with ticket := f.2.ticket })) })) s
    s.forget org (p.cores org) (p.clusters org)

/-- LOAD_ABORTED (01 R30-R32, 08 R211): status 10. -/
def execLoadAborted (region : Nat) (s : State) : Host.Outcome State Fault Refusal :=
  match mget s.progs region with
  | none => .next s
  | some p =>
    let begun := match p.phase with | .loading => some 0 | .starting => some 0 | .committing => some 1 | _ => none
    match begun with
    | some kind => .next ((s.endProgram region).says kind region 10 p.image.id)
    | none => .next s

/-- UNLOAD_REQUEST (17 R397). -/
def execUnloadRequest (region : Nat) (s : State) : Host.Outcome State Fault Refusal :=
  match mget s.progs region with
  | none => .next s
  | some p => .next ((s.endProgram region).says 2 region 0 p.image.id)

/-! ### Replacement requests (08 R203, R204) -/

/-- Bytes that staging takes on a cluster. -/
def Image.staging (m : Image) (off : Nat) : Nat :=
  ((m.roles.filter (fun r => m.placedOn off r.num)).map (fun r =>
    4 * r.code.length + r.data.length + 4 * (r.atoll.getD []).length)).sum

/-- Bytes of a cluster's slice in units that are neither allocated nor reserved. -/
def Cluster.freeBytes (k : Cluster) : Nat := 65536 * (16 - (k.slice.filter (fun e => e.2.r || e.2.w)).length)

/-- The producers that a live program's entry queues were given: image queue and client. -/
def State.namedFor (s : State) (p : Program) : List (Nat × Nat) :=
  p.qmap.flatMap (fun q => ((mget s.queues q.2).map (fun k => k.named.map (fun n => (q.1, n)))).getD [])

/-- The status of a replacement request (08 R203). -/
def State.replaceStatus (s : State) (r : LoadReq) : Nat :=
  let ws := r.words
  let org := 32 * r.row0 + r.col0
  if !s.serviceReady [3] then 14
  else if !headerOk ws then 1
  else if !s.signatureOk ws then 2
  else if !directoryOk ws then 3
  else match mget s.progs org with
    | none => 7
    | some p =>
      let m := imageOf ws
      if p.phase ≠ .live ∨ p.part ≠ r.part ∨ p.image.id ≠ r.oldProg then 7
      else if !contentOk ws m then 9
      else if !placementOk m then 4
      else if !(s.queuesOk ws m r.part && m.mergesOk (s.namedFor p)) then 5
      else if !treeOk ws m then 6
      else if m.rows ≠ p.image.rows ∨ m.cols ≠ p.image.cols ∨ m.det ≠ p.image.det ∨ m.placeWords ≠ p.image.placeWords ∨
          m.queueWords ≠ p.image.queueWords then 11
      else if !m.acyclic then 12
      else if !m.offsets.all (fun o => decide (m.staging o ≤ (s.cl (org + o)).freeBytes)) then 8
      else 0

/-- REPLACEMENT_REQUEST: a request that passes begins staging. -/
def execReplacementRequest (r : LoadReq) (s : State) : Host.Outcome State Fault Refusal :=
  let org := 32 * r.row0 + r.col0
  let st := s.replaceStatus r
  match mget s.progs org with
  | some p =>
    if st ≠ 0 then .next (s.says 1 org st (wordAt r.words 6))
    else
      let m := imageOf r.words
      let t := (p.cores org).foldl (fun s c => s.modCore c (fun k => { k with reported := false, acked := false })) s
      .next (t.setProg org { p with
        phase := .staging, next := some m, nextReq := some r, blocks := m.blocks org
        timeout := if r.timeout = 0 then 2 ^ 26 else r.timeout })
  | none => .next (s.says 1 org st (wordAt r.words 6))

/-! ### The cut (08 R204-R210) -/

/-- A core has a port bound to a queue of this chip as an output. -/
def Core.outputs (k : Core) (chip q : Nat) : Bool :=
  k.ports.any (fun b => b.2.output && decide (b.2.chip = chip) && decide (b.2.queue = q))

/-- The inputs of a core (08 R208). -/
def Core.inputs (k : Core) : List Nat :=
  (k.triggers.map (fun t => t.queue) ++ (k.ports.filter (fun b => !b.2.output)).map (fun b => b.2.queue) ++
    k.templates.map (fun t => t.2.trig)).eraseDups

/-- The markers that an input awaits (08 R208). -/
def State.awaits (s : State) (cores : List Nat) (q : Nat) : Nat :=
  match mget s.queues q with
  | none => 0
  | some qu =>
    if qu.merge then 1
    else (cores.filter (fun c => (s.core c).outputs s.chip.toNat q)).length + (if qu.entryQ then 1 else 0)

/-- The service's marker on an entry queue (08 R204): on a keyed merge into every sub-queue in one clk, once each has a free slot. -/
def State.serviceMark (s : State) (org q : Nat) : State :=
  match mget s.queues q with
  | none => s
  | some qu =>
    if qu.merge then s.setQ q { qu with subs := qu.subs.map (fun l => l ++ [s.cutMark org .service]) }
    else s.pushElem (Party.router .service) q (s.cutMark org .service)

/-- The service's marker finds room. -/
def State.markRoom (s : State) (q : Nat) : Bool :=
  match mget s.queues q with
  | some qu => !qu.merge || qu.subs.all (fun l => decide (l.length < qu.capacity))
  | none => true

/-- The service marks the entry queues that have room; the others wait, as QMARK stalls. -/
def State.serviceMarks (s : State) (org : Nat) : State :=
  match mget s.progs org with
  | none => s
  | some p => (p.marks.filter s.markRoom).foldl (fun t q => t.serviceMark org q)
      (s.setProg org { p with marks := p.marks.filter (fun q => !s.markRoom q) })

/-- A marker of the service, from the queue's own side. -/
def execServiceMark (region : Nat) (s : State) : Host.Outcome State Fault Refusal := .next (s.serviceMarks region)

/-- CUT_START (08 R204): cut mode on every core in one clk, and a marker onto each entry queue. -/
def State.cutStart (s : State) (org : Nat) (p : Program) : State :=
  let cores := p.cores org
  let t := cores.foldl (fun t c =>
    let k := s.core c
    let outs := ((k.ports.filter (fun b => b.2.output && decide (b.2.chip = s.chip.toNat))).map (fun b => b.2.queue)).eraseDups
    t.setCore c { k with
      cut := true
      reported := false
      cutState := some ⟨k.inputs.map (fun q => ⟨q, s.awaits cores q, 0⟩), outs, [], 0, 0, false⟩ }) s
  let marks := (s.queues.filter (fun q => decide (q.2.region = some org) && q.2.entryQ)).map (fun q => q.1)
  (t.setProg org { p with phase := .cutting, cutAt := s.clk, marks := marks }).serviceMarks org

/-- STAGED_REPORT (08 R204): the last report begins the cut. -/
def execStagedReport (core : Nat) (s : State) : Host.Outcome State Fault Refusal :=
  if !(s.awakeAt core) then .next (s.wake (clusterOf core)) else
  match s.progOf core with
  | none => .next s
  | some (org, p) =>
    let t := s.modCore core (fun k => { k with reported := true })
    let all := (p.cores org).all (fun c => (t.core c).reported)
    whenOk (decide (p.phase = .staging) && !(s.core core).reported && !p.waitsBlock org (clusterOf core)) s
      (if all then t.cutStart org p else t)

/-- A queue shows a marker at the head that core `c` sees, whatever its cut. -/
def State.markedFor (s : State) (q c : Nat) : Bool :=
  match mget s.queues q with
  | some qu => (match qu.branchOf c with | some b => decide (qu.headAt b = .marker) | none => false)
  | none => false

/-- MARKER_AT_HEAD (08 R207, R208): one that leaves others awaited is removed; the one that completes the count stays. -/
def execMarkerAtHead (core q : Nat) (s : State) : Host.Outcome State Fault Refusal :=
  if !(s.awakeAt core) then .next (s.wake (clusterOf core)) else
  match (s.core core).cutState with
  | none => .next s
  | some t =>
    match t.inputs.find? (fun i => decide (i.queue = q)) with
    | none => .next s
    | some i =>
      let seen := i.seen + 1
      let u := s.modCore core (fun k => { k with cutState := some { t with
        inputs := t.inputs.map (fun x => if x.queue = q then { x with seen := seen } else x) } })
      whenOk (decide (i.seen < i.awaited) && s.markedFor q core) s (if seen < i.awaited then u.popFor q core else u)

/-- No activation of the program holds back a core's report (08 R209, conditions 2 and 3). -/
def State.cutQuiet (s : State) (c : Nat) : Bool :=
  let k := s.core c
  let cl := s.cl (clusterOf c)
  decide (k.mode = .idle) && k.act.isNone && k.runq.isEmpty && k.resumed.isEmpty &&
    !cl.acts.any (fun a => a.2.frame.isSome && (match a.2.place with
      | .inCall d => decide (d = c)
      | .parkedCall d => decide (d = c)
      | .resumed d _ => decide (d = c)
      | .faultSaved d _ => decide (d = c)
      | _ => decide (a.2.role = k.role))) &&
    !cl.faults.any (fun f => f.2.valid && decide (f.2.core = c))

/-- Tokens are zero and nothing of the core is queued or in flight at an engine (08 R209, condition 4). -/
def State.cutDrained (s : State) (c : Nat) : Bool :=
  let k := s.core c
  let cl := s.cl (clusterOf c)
  k.tokensClear && k.copies.isEmpty && k.atollQ.isEmpty && k.jsyncs.isEmpty && (mgetD cl.mat.queues (c % 8) []).isEmpty &&
    !cl.atoll.arrivals.any (fun a => decide (a.core = c)) && !(match cl.atoll.serving with | some a => decide (a.cmd.core = c) | none => false)

/-- The queue has a consumer in the region. -/
def State.inRegion (s : State) (org : Nat) (q : Queue) : Bool :=
  q.branches.any (fun b => match b.consumer with | .core d _ => decide ((s.cl (clusterOf d)).region = some org) | _ => false)

/-- The party as which a core pushes its marker onto a queue. -/
def Queue.partyOf (q : Queue) (c : Nat) : Party :=
  ((q.credits.find? (fun x => decide (x.1.producer = .core c 0))).map (fun x => x.1)).getD (.core c 0)

/-- A marker can be pushed: the core's binding holds a credit, or has ended. -/
def Queue.markable (q : Queue) (c : Nat) : Bool :=
  match q.credits.find? (fun x => decide (x.1 = q.partyOf c)) with | some x => decide (0 < x.2) | none => true

/-- The cut report (08 R210). -/
def cutWords (id core inputs markers acts : Nat) : List Word :=
  [BitVec.ofNat 64 (id * 2 ^ 32 + core * 2 ^ 16 + inputs), BitVec.ofNat 64 (markers * 2 ^ 32 + acts)]

/-! ### Commit (08 R211) -/

/-- A queue without some of its elements, in storage and on their way; a producer whose credit one holds gets it back. -/
def Queue.without (q : Queue) (drop : Elem → Bool) : Queue :=
  let keep (l : List Elem) : List Elem := l.filter (fun e => !drop e)
  let gone := q.flight.filter (fun f => drop f.elem)
  let q : Queue := { q with
    branches := q.branches.map (fun b => { b with store := keep b.store })
    subs := q.subs.map keep
    relays := q.relays.map (fun r => (r.1, keep r.2))
    flight := q.flight.filter (fun f => !drop f.elem)
    order := q.order.filter (fun o => !gone.any (fun f => decide (f.seq = o.1))) }
  (gone.foldl (fun (l : List Flit) f => if l.any (fun g => decide (g.seq = f.seq)) then l else l ++ [f]) []).foldl (fun q f => q.creditFor f) q

/-- The markers at the heads of a queue's inputs go; those of a keyed merge all go, also on their way (08 R207). -/
def Queue.unmark (q : Queue) : Queue :=
  let head (l : List Elem) : List Elem := match l with | e :: r => if e.marker then r else l | [] => l
  if q.merge then q.without (fun e => e.marker) else { q with branches := q.branches.map (fun b => { b with store := head b.store }) }

/-- A keyed merge under new port tables (08 R211, 09 R225): a producer keeps its sub-queue, and what one that is no producer any
more has left comes behind the first (DESIGN CHOICE, log 62). -/
def Queue.remerge (q : Queue) (cores : List Party) : Queue :=
  if q.merge then
    let mprod := cores ++ q.mprod.filter (fun p => match p with | .core _ _ => false | _ => true)
    let own (p : Party) : List Elem := match q.subOf p with | some n => nth q.subs n [] | none => []
    let rest := (q.mprod.filter (fun p => !mprod.contains p)).flatMap own
    { q with mprod := mprod, subs := mprod.zipIdx.map (fun p => if p.2 = 0 then own p.1 ++ rest else own p.1) }
  else q

/-- The windows of the new image: an external one keeps the contents of its counterpart, else is bound with zeros (12 R294). -/
def newWindows (p : Program) (m : Image) : FMap (List Byte) :=
  m.wins.foldl (fun t w =>
    let kept := if w.2.1 && p.image.wins.any (fun o => decide (o.1 = w.1) && o.2.1 && decide (o.2.2.1 = w.2.2.1)) then mget p.wins w.1 else none
    mset t w.1 (match kept with | some b => b | none => if w.2.1 then List.replicate w.2.2.1 0 else w.2.2.2)) []

/-- One core takes the new role: code, then data segment, bindings, templates, selection (08 R211); one that no role is placed on
gives up a role that it took (04 R112). -/
def State.renewCore (s : State) (org : Nat) (m : Image) (qmap : List (Nat × Nat)) (c : Nat) : State :=
  let s := s.modCore c (fun k => { k with ports := [], triggers := [], templates := [], sel := 0, acked := false })
  match m.roleAt (offsetIn org (clusterOf c)) (c % 8) with
  | none => s.modCore c (fun k => { k with role := none, roleCopy := none })
  | some r =>
    let s := if r.code.isEmpty then s else s.writeOnce (localKey c r.off) (bytesOf32 r.code)
    let s := if r.data.isEmpty then s else s.writeOnce (localKey c r.dataOff) r.data
    s.modCore c (fun k => { k.bindRole s.chip.toNat qmap r with role := some (r.num, org), stale := [] })

/-- One cluster takes the new Atoll section, which is then all that its Atoll holds (14 R318), and channel declarations; its
barriers' N and A become 0. -/
def State.renewCluster (s : State) (org : Nat) (m : Image) (k : Nat) : State :=
  let rs := m.roles.filter (fun r => r.atoll.isSome && m.placedOn (offsetIn org k) r.num)
  s.modCl k (fun c => { c.loadTables m with
    bars := []
    atoll := rs.foldl (fun t r => t.load (r.atoll.getD [])) { Atoll.reset with freeAt := c.atoll.freeAt } })

/-- COMMIT: every report is in (08 R211). -/
def State.commit (s : State) (org : Nat) (p : Program) : State :=
  let m := p.next.getD p.image
  let cores := p.cores org
  let isOf (x : Party) : Bool := match x with | .core c p => cores.contains c && decide (p ≠ 8) | _ => false
  let unbound (q : Queue) : Queue := (q.credits.filter (fun x => isOf x.1)).foldl (fun q x => q.endBinding x.1) q
  let s := { s with queues := s.queues.map (fun (q : Nat × Queue) => (q.1, unbound (if q.2.region = some org then q.2.unmark else q.2))) }
  let s := { s with tensors := s.tensors.filter (fun t => decide (t.2.region ≠ org)) }
  let s := s.setProg org { p with image := m, phase := .committing, blocks := [], wins := newWindows p m, tens := [] }
  let s := (p.clusters org).foldl (fun s k => s.renewCluster org m k) s
  let s := cores.foldl (fun s c => s.renewCore org m p.qmap c) s
  let s := s.mapTensors org m p.part
  m.queues.foldl (fun s g =>
    let q := QRec.of g
    let now := (m.producers q.num).map (fun x => Party.core (8 * (org + x.1) + x.2) 0)
    let s := s.modQ (chipQueue p.qmap q.num) (fun k => { k.remerge now with entryQ := m.isEntry q.num })
    (m.outputs q.num).foldl (fun s x => s.modQ (chipQueue p.qmap q.num) (fun k =>
      k.setCredits (.core (8 * (org + x.1) + x.2.1) x.2.2) k.window)) s) s

/-- The queues of a core's cut output set in the order of its ports and later bindings, without those that it has dealt with. -/
def Cut.toMark (t : Cut) : List Nat := t.outs.eraseDups.filter (fun q => !t.done.contains q)

/-- The core's marker onto one queue; one whose consumers all lie outside the region is discarded (08 R206). -/
def State.pushMarker (s : State) (org core q : Nat) (t : Cut) : State :=
  let goes := match mget s.queues q with | some qu => s.inRegion org qu | none => false
  let u := match mget s.queues q with
    | some qu => s.pushElem (Party.router (.core core 0)) q (s.cutMark org (qu.partyOf core))
    | none => s
  u.modCore core (fun k => { k with cutState := some { t with done := t.done ++ [q], markers := t.markers + (if goes then 1 else 0) } })

/-- CUT_REPORT (08 R209): the core pushes one marker onto each queue of its cut output set, one after the other, each once it
holds a credit, and then reports; the last report commits. A core that has begun takes no activation (DESIGN CHOICE, log 62). -/
def execCutReport (core : Nat) (s : State) : Host.Outcome State Fault Refusal :=
  if !(s.awakeAt core) then .next (s.wake (clusterOf core)) else
  match s.progOf core, (s.core core).cutState with
  | some (org, p), some t =>
    let ready := decide (p.phase = .cutting) && !t.reported && t.inputs.all (fun i => decide (i.awaited ≤ i.seen)) &&
      s.cutQuiet core && s.cutDrained core
    match t.toMark with
    | q :: _ =>
      let credit := match mget s.queues q with | some qu => !s.inRegion org qu || qu.markable core | none => true
      whenOk (ready && credit) s (s.pushMarker org core q t)
    | [] =>
      let u := s.modCore core (fun k => { k with cutState := some { t with reported := true } })
      let u := { u with outbox := u.outbox ++ [.cutReport (cutWords p.image.id core t.inputs.length t.markers t.acts)] }
      let all := (p.cores org).all (fun c => (u.core c).cutDone)
      whenOk ready s (if all then u.commit org p else u)
  | _, _ => .next s

/-! ### Abort (08 R212, R213) -/

/-- A queue without the markers of a region's cut, at the head, behind items or on their way; a QMARK's stay (08 R213). -/
def Queue.clean (q : Queue) (org : Nat) : Queue := q.without (fun e => e.marker && decide (e.cut = some org))

/-- The cut ends as if it had not begun; status 13. -/
def State.abortCut (s : State) (org : Nat) (p : Program) : State :=
  let id := (p.next.map (fun m => m.id)).getD 0
  let s := { s with queues := s.queues.map (fun (q : Nat × Queue) => (q.1, q.2.clean org)) }
  let s := (p.cores org).foldl (fun s c => s.modCore c (fun k => { k with cut := false, cutState := none, reported := false })) s
  (s.setProg org { p with phase := .live, next := none, nextReq := none, blocks := [], marks := [] }).says 1 org 13 id

/-- CUT_TIMEOUT: the timeout does not run while the region is frozen (08 R214). -/
def execCutTimeout (region : Nat) (s : State) : Host.Outcome State Fault Refusal :=
  match mget s.progs region with
  | none => .next s
  | some p => whenOk (decide (p.phase = .cutting) && decide (p.cutAt + p.timeout ≤ s.clk) && !(s.cl region).frozen) s (s.abortCut region p)

/-- CUT_CANCEL: the requester cancels before the last report. -/
def execCutCancel (region : Nat) (s : State) : Host.Outcome State Fault Refusal :=
  match mget s.progs region with
  | none => .next s
  | some p => whenOk (decide (p.phase = .cutting) || decide (p.phase = .staging)) s (s.abortCut region p)

/-- MARKER_REMOVAL (08 R213): a stray marker at an input's head. -/
def execMarkerRemoval (q branch : Nat) (s : State) : Host.Outcome State Fault Refusal :=
  match mget s.queues q with
  | none => .next s
  | some qu =>
    let head (l : List Elem) : List Elem := match l with | e :: r => if e.marker then r else l | [] => l
    .next (s.setQ q (if qu.merge then { qu with subs := qu.subs.map head }
      else { qu with branches := qu.branches.zipIdx.map (fun b => if b.2 = branch then { b.1 with store := head b.1.store } else b.1) }))

end Sys2Proof.Machine
end

