-- ==== Sys2Proof/Machine/Faults.lean ====
section
/-!
DEFINITION. Parked activations: the fault frame, entries handed over to holders, and the four Actions of the fault
service (17 R381-R385).
-/

namespace Sys2Proof.Machine

/-! ### The fault frame (17 R381) -/

/-- The address at which a parked activation goes on: a breakpoint's lies past its pair (03 R83). -/
def Raise.resumePc (r : Raise) : Word := if r.cause = .breakpoint then r.info else r.pc

/-- The address past the faulting word or pair (17 R384). -/
def Raise.pastPc (r : Raise) : Word := if r.cause = .breakpoint then r.info else r.pc + (if r.pair then 8 else 4)

/-- An entry of a cluster's fault buffer. -/
def Cluster.entry (k : Cluster) (e : Nat) : FaultEntry := mgetD k.faults e FaultEntry.reset

/-- Sets an entry of a fault buffer. -/
def State.setEntry (s : State) (cl e : Nat) (f : FaultEntry) : State := s.modCl cl (fun k => { k with faults := mset k.faults e f })

/-- The frame is in its entry's slot: the core is free, and the fault item is sent (17 R381, R382). -/
def State.frameDone (s : State) (c n e : Nat) (a : Act) : State :=
  let cl := clusterOf c
  let k := s.cl cl
  let f := k.entry e
  let frame := (s.core c).frame true e false s.clk
  let s := s.writeFrame c a true e f.raise.resumePc
  let s := s.setAct cl n { a with place := .faultSaved c e, frame := some frame, kind := 1, left := a.left ++ s.leftOn c }
  let s := (s.setEntry cl e { f with written := true }).modCore c Core.released
  s.sendFault cl k.part (faultItem 0 e f.raise (callTag n k.gen c))

/-- FAULT_FRAME_WRITTEN (17 R381): a core that met the fault with results pending waits for its pending results, writes the frame for 76 clk, and is freed. -/
def execFaultFrameWritten (core : Nat) (s : State) : Host.Outcome State Fault Refusal :=
  if !(s.awakeAt core) then .next s else
  match (s.core core).mode with
  | .saving e done =>
    if done = 0 then whenOk (s.core core).settled s (s.modCore core (fun k => { k with mode := .saving e (s.clk + 76) }))
    else match (s.core core).act with
      | none => .next s
      | some n => match s.act? (clusterOf core) n with
        | none => .next s
        | some a => whenOk (decide (done ≤ s.clk)) s (s.frameDone core n e a)
  | _ => .next s

/-! ### Actions (17 R384) -/

/-- The entry is free; its ticket stays. -/
def State.freeFault (s : State) (cl e : Nat) : State := s.setEntry cl e { (s.cl cl).entry e with valid := false, after := 0 }

/-- Resumes a parked activation at an address: in place on its core, or as a continuation in its own core's run queue. One
that goes on past its pair forgets what that pair has done (04 R121). -/
def State.resumeAt (s : State) (cl e : Nat) (pc : Word) (past : Bool) : State :=
  let f := (s.cl cl).entry e
  let t := s.freeFault cl e
  if f.inPlace then t.modCore f.core (fun k =>
    { k with mode := .running, pc := pc, barArrived := k.barArrived && !past, owed := if past then none else k.owed })
  else match t.act? cl f.act with
    | none => t
    | some a => match a.frame with
      | none => t
      | some g =>
        let u := t.setFrameWord cl g 0x0b8 pc
        let g' : Frame := { g with
          barArrived := g.barArrived && !past, owed := if past then none else g.owed
          bytes := memRead u.mem (sliceKey cl ((u.cl cl).frameOff true g.slot)) 4864 }
        (u.setAct cl f.act { a with place := .queued f.core, frame := some g' }).joinRunq f.core
          (s.contEntry cl f.act a)

/-- The activation's children are counted by no parent. -/
def Cluster.orphan (k : Cluster) (n : Nat) : Cluster :=
  { k with acts := k.acts.map (fun p => (p.1, if p.2.parent = some n then { p.2 with parent := none } else p.2)) }

/-- Ends a parked activation: as END without its wait for tokens (03 R82). -/
def State.endParked (s : State) (cl e : Nat) : State :=
  let f := (s.cl cl).entry e
  let t := (s.freeFault cl e).modCl cl (fun k => k.orphan f.act)
  match t.act? cl f.act with
  | none => t
  | some a => if f.inPlace then ((t.dropTokens f.core f.act).retire f.core f.act a) else t.removeAct cl f.act a

/-- What must hold before an Action takes effect: the frame is written; a saved activation finds a slot of its core's run
queue; results bound for output ports have been pushed (03 R82). -/
def State.actionReady (s : State) (f : FaultEntry) (action : Nat) : Bool :=
  let k := s.core f.core
  (f.inPlace || f.written) && (decide (3 ≤ action) || f.inPlace || decide (k.runq.length < 64)) &&
    (decide (action ≠ 3) || !f.inPlace || !k.portPending) &&
    (decide (action ≠ 3) || (match s.act? (clusterOf f.core) f.act with
      | some a => a.parent.isNone || ((!f.inPlace || k.mem.all (fun o => o.shownAt .cl)) && a.left.all (s.gateOpen .cl))
      | none => true))

/-- An Action takes effect. -/
def State.doAction (s : State) (cl e action : Nat) : State :=
  let f := (s.cl cl).entry e
  match action with
  | 1 => s.resumeAt cl e f.raise.resumePc false
  | 2 => s.resumeAt cl e f.raise.pastPc (decide (f.raise.cause ≠ .breakpoint))
  | 3 => s.endParked cl e
  | 4 => (match (s.cl cl).region with | some org => s.endProgram org | none => s)
  | _ => s

/-- A write of an Action with a ticket: one that matches no activation does nothing; one that finds the frame unwritten
waits. Lemnani writes none to a frozen region (17 R385). -/
def State.action (s : State) (cl e ticket action : Nat) : State :=
  let f := (s.cl cl).entry e
  if !(f.valid && decide (f.ticket = ticket) && decide (1 ≤ action) && decide (action ≤ 4) && !(s.cl cl).frozen) then s
  else if s.actionReady f action then s.doAction cl e action
  else s.setEntry cl e { f with after := action }

/-- RESUME. -/
def execResume (cluster entry ticket : Nat) (s : State) : Host.Outcome State Fault Refusal :=
  .next (s.action cluster entry ticket 1)

/-- RESUME_PAST. -/
def execResumePast (cluster entry ticket : Nat) (s : State) : Host.Outcome State Fault Refusal :=
  .next (s.action cluster entry ticket 2)

/-- END_THE_ACTIVATION. -/
def execEndTheActivation (cluster entry ticket : Nat) (s : State) : Host.Outcome State Fault Refusal :=
  .next (s.action cluster entry ticket 3)

/-- END_THE_PROGRAM (17 R384, R397). -/
def execEndTheProgram (cluster entry ticket : Nat) (s : State) : Host.Outcome State Fault Refusal :=
  .next (s.action cluster entry ticket 4)

/-! ### Handover (17 R383) -/

/-- The activation that has held in place longest, ties in ascending core: its core, raise and clk. -/
def State.longestHeld (s : State) (cl : Nat) : Option (Nat × Raise × Nat) :=
  (List.range 8).foldl (fun best i =>
    match (s.core (cl * 8 + i)).mode with
    | .holding r since => (match best with
      | some (_, _, t) => if since < t then some (cl * 8 + i, r, since) else best
      | none => some (cl * 8 + i, r, since))
    | _ => best) none

/-- An entry whose Action waits and may now take effect. -/
def State.waitingAction (s : State) (cl : Nat) : Option (Nat × FaultEntry) :=
  (s.cl cl).faults.find? (fun (f : Nat × FaultEntry) => f.2.valid && decide (f.2.after ≠ 0) && s.actionReady f.2 f.2.after)

/-- Once nothing holds, the overflow bit clears. -/
def State.clearOverflow (s : State) (cl : Nat) : State :=
  if s.heldCount cl = 0 then s.modCl cl (fun k => { k with overflow := false }) else s

/-- FAULT_ENTRY_HANDOVER: an Action that waited takes effect, or a free entry goes to the longest-holding activation. -/
def execFaultEntryHandover (cluster : Nat) (s : State) : Host.Outcome State Fault Refusal :=
  if (s.cl cluster).frozen then .next s else
  match s.waitingAction cluster with
  | some (e, f) => .next ((s.doAction cluster e f.after).clearOverflow cluster)
  | none =>
    match s.longestHeld cluster, (s.cl cluster).freeEntry with
    | some (c, r, _), some e => .next ((s.parkIn c e r).clearOverflow cluster)
    | _, _ => .next (s.clearOverflow cluster)

end Sys2Proof.Machine
end

