-- ==== Sys2Proof/Machine/Journal.lean ====
section
/-!
DEFINITION. The journal unit and the partner's rings: records and their numbers, sending and acknowledgement, pairing and
loss of a partner, truncation, replay, and the release of guarded items (16 R356-R378).
-/

namespace Sys2Proof.Machine

/-! ### Slots of a ring (16 R360) -/

/-- Slots of a ring. -/
def ringSize : Nat := 2 ^ 25

/-- The slot of a jsn. -/
def jsnSlot (j : Nat) : Nat := j % ringSize

/-- Ring `n`. -/
def State.ring (s : State) (n : Nat) : JRing := mgetD s.rings n JRing.reset

/-- Changes ring `n`. -/
def State.modRing (s : State) (n : Nat) (f : JRing → JRing) : State := { s with rings := mset s.rings n (f (s.ring n)) }

/-- A slot is free while its type byte is 0. -/
def JRing.freeSlot (r : JRing) (n : Nat) : Bool := decide ((nth (mgetD r.slots n []) 0 0).toNat % 256 = 0)

/-- A record's sequence, position and, behind its four words, the partition that wrote it. -/
def recSeq (w : List Word) : Nat := bitsAt (nth w 0 0).toNat 16 48
def recPos (w : List Word) : Nat := bitsAt (nth w 1 0).toNat 0 32
def recPart (w : List Word) : Nat := (nth w 4 0).toNat

/-- A mark of a kind: 1 start, 3 checkpoint (16 R356). -/
def isMark (w : List Word) (kind : Nat) : Bool :=
  decide ((nth w 0 0).toNat % 256 = 4) && decide (bitsAt (nth w 1 0).toNat 32 8 = kind)

/-- The jsn of the record in slot `n` of a ring whose last record written is jsn `last`. -/
def jsnAt (last n : Nat) : Nat := last - (last % ringSize + ringSize - n) % ringSize

/-- The records of a ring's slots with their jsns. -/
def dated (slots : FMap (List Word)) (last : Nat) : List (Nat × List Word) := slots.map (fun p => (jsnAt last p.1, p.2))

/-- The jsn of the latest checkpoint mark of a sequence. -/
def lastCheckpoint (recs : List (Nat × List Word)) (seq part : Nat) : Option Nat :=
  (recs.filter (fun p => decide (recSeq p.2 = seq) && decide (recPart p.2 = part) && isMark p.2 3)).foldl
    (fun b p => some (max (b.getD 0) p.1)) none

/-- A truncation discards the record of jsn j (16 R376). -/
def discards (seq part pos : Nat) (ckpt : Option Nat) (j : Nat) (w : List Word) : Bool :=
  decide (recSeq w = seq) && decide (recPart w = part) && decide (pos ≠ 0) &&
    (decide (pos = 2 ^ 64 - 1) || (decide (recPos w < pos) && !isMark w 1 && decide (ckpt ≠ some j)))

/-- A ring's slots after a truncation that stands behind jsn `upto`: a later record is kept. -/
def truncSlots (slots : FMap (List Word)) (last upto seq part pos : Nat) (ckpt : Option Nat) : FMap (List Word) :=
  slots.filter (fun p => !(decide (jsnAt last p.1 ≤ upto) && discards seq part pos ckpt (jsnAt last p.1) p.2))

/-! ### Records reach the unit (16 R358, R371, R376) -/

/-- The open replay entry of a sequence (16 R370). -/
def State.replayOf (s : State) (part seq : Nat) : Option (Nat × Replay) :=
  s.replays.find? (fun p => p.2.valid && decide (p.2.part = part) && decide (p.2.seq = seq))

/-- The last record that the own copy holds. -/
def Journal.written (u : Journal) : Nat := (u.unwritten.head?.map (fun p => p.1 - 1)).getD u.last

/-- Writes waiting records to the own copy, in jsn order, as long as their slots are free. -/
def State.writeOwn : Nat → State → State
  | 0, s => s
  | f + 1, s =>
    match s.journal.unwritten with
    | [] => s
    | (j, w) :: rest =>
      if (s.ring 0).freeSlot (jsnSlot j) then
        State.writeOwn f { s with
          journal := { s.journal with unwritten := rest }
          rings := mset s.rings 0 { s.ring 0 with slots := mset (s.ring 0).slots (jsnSlot j) w } }
      else s

/-- Appends a record: it takes the next jsn and joins the append buffer, and is written to the own copy, or waits for its slot
there (16 R358, R360, R363). -/
def State.append (s : State) (w : List Word) : State :=
  let j := s.journal.last + 1
  if s.journal.unwritten = [] ∧ (s.ring 0).freeSlot (jsnSlot j) then
    { s with
      journal := { s.journal with last := j, buffer := s.journal.buffer ++ [(j, w)] }
      rings := mset s.rings 0 { s.ring 0 with slots := mset (s.ring 0).slots (jsnSlot j) w } }
  else { s with journal := { s.journal with
    last := j, buffer := s.journal.buffer ++ [(j, w)], unwritten := s.journal.unwritten ++ [(j, w)] } }

/-- An entry after a comparison (16 R371). -/
def Replay.advance (r : Replay) : Replay :=
  { r with slot := (r.slot + 1) % ringSize, count := r.count - 1, valid := decide (1 < r.count) }

/-- A record reaches the unit: the state, and its answer as jsn and divergence (16 R358, R371). -/
def State.takeRecord (s : State) (c : Nat) (r : RecReq) : State × Nat × Option Word × Nat :=
  let part := s.partOf c
  let w := r.words ++ [BitVec.ofNat 64 part]
  match s.replayOf part (recSeq w) with
  | none => (s.append w, s.journal.last + 1, none, 6)
  | some (i, e) =>
    if (mgetD (s.ring 15).slots e.slot []).take 4 = r.words then
      ({ s.append w with replays := mset s.replays i e.advance }, s.journal.last + 1, none, 10)
    else ({ s with replays := mset s.replays i { e with valid := false } }, 0, some r.addr, 10)

/-- RECORD_ARRIVAL: records of one core in issue order; a truncation takes its place behind them. -/
def execRecordArrival (core id : Nat) (s : State) : Host.Outcome State Fault Refusal :=
  match (s.core core).recs with
  | [] => .next s
  | r :: rest =>
    if r.id ≠ id ∨ s.clk < r.at_ + 1 then .next s
    else
      let t := s.modCore core (fun k => { k with recs := rest })
      match r.trunc with
      | some (seq, pos) => .next { t with journal := { t.journal with truncs := t.journal.truncs ++ [(seq, pos, s.partOf core, t.journal.last)] } }
      | none =>
        let (u, j, div, lat) := t.takeRecord core r
        whenOk (decide (s.journal.buffer.length < 4096)) s
          (u.modCore core (fun k => { k with recAns := k.recAns ++ [(id, j, max (r.at_ + lat) (s.clk + 1), div)] }))

/-- x[d] becomes 0 where a wait would have written it (16 R371). -/
def Core.zeroWait (k : Core) (id : Nat) : Core :=
  match k.waits.find? (fun w => decide (w.id = id)) with
  | some ⟨_, .x d, _⟩ => if 24 ≤ d ∧ (mget k.ports (d - 24)).isSome then k else k.setX d 0
  | _ => k

/-- JREC_ANSWER: the jsn reaches its register; a divergence makes the register 0, and REPLAY_DIVERGENCE is raised at a later pair
(16 R371, R372). -/
def execJrecAnswer (core id : Nat) (s : State) : Host.Outcome State Fault Refusal :=
  match (s.core core).recAns.find? (fun a => decide (a.1 = id)) with
  | none => .next s
  | some (_, j, at_, div) =>
    let t := s.modCore core (fun k => { k with recAns := k.recAns.filter (fun a => decide (a.1 ≠ id)) })
    match div with
    | none => whenOk (decide (at_ ≤ s.clk) && s.canAnswer core id) s (t.answer core id [BitVec.ofNat 1024 j])
    | some a => whenOk (decide (at_ ≤ s.clk)) s (t.modCore core (fun k => { k.zeroWait id with
        diverged := some (k.diverged.getD a)
        waits := k.waits.map (fun w => if w.id = id then { w with err := .diverged a } else w) }))

/-! ### Sending and acknowledgement (16 R362, R363, R368) -/

/-- The unit sends: it is paired, or it ships a snapshot to a new partner. -/
def Journal.sends (j : Journal) : Bool := decide (j.state = 1) || (decide (j.state = 2) && decide (j.target ≠ 0))

/-- A record's flit to the partner. -/
def State.recordFlit (s : State) (j : Nat) (w : List Word) : StraitFlit :=
  s.flitTo s.journal.partner (recPart w) 2 0 (.journalRecord j w)

/-- The record behind record j that shares its flit: the next of the same partition, unless a truncation stands between them. -/
def Journal.second (u : Journal) (j part : Nat) : List Word :=
  match u.buffer.find? (fun p => decide (p.1 = j + 1) && decide (recPart p.2 = part)) with
  | some (_, w) => if u.truncs.any (fun t => decide (t.2.2.2 = j)) then [] else w
  | none => []

/-- RECORD_SEND: the next records in jsn order, two to a flit; a truncation ahead of them goes first. -/
def execRecordSend (s : State) : Host.Outcome State Fault Refusal :=
  match s.journal.buffer.find? (fun p => decide (s.journal.sent < p.1)) with
  | none => .next s
  | some (j, w) =>
    let w2 := s.journal.second j (recPart w)
    whenOk (s.journal.sends && !s.journal.truncs.any (fun t => decide (t.2.2.2 ≤ s.journal.sent))) s
      { s.sendFlit (s.recordFlit j (w ++ w2)) with journal := { s.journal with sent := if w2.isEmpty then j else j + 1 } }

/-- JSYNCs that an acknowledgement covers complete. -/
def Core.syncTo (k : Core) (j : Nat) : Core :=
  let k' := (k.jsyncs.filter (fun x => decide (x.2.1 ≤ j))).foldl (fun k x => k.finish x.1 x.2.2 true) k
  { k' with jsyncs := k.jsyncs.filter (fun x => decide (j < x.2.1)) }

/-- An acknowledgement arrives (16 R363, R368). -/
def State.acknowledge (s : State) (j : Nat) : State :=
  let u := s.journal
  if !u.sends || decide (u.last < j) then s
  else
    let done := decide (u.state = 2) && decide (u.target ≤ j)
    { s with
      journal := { u with
        acked := max u.acked j
        buffer := u.buffer.filter (fun p => decide (j < p.1))
        state := if done then 1 else u.state
        target := if done then 0 else u.target }
      cores := s.cores.map (fun p => (p.1, p.2.syncTo (max u.acked j))) }

/-- ACK_ARRIVAL. -/
def execAckArrival (jsn : Nat) (s : State) : Host.Outcome State Fault Refusal := .next (s.acknowledge jsn)

/-- PARTNER_RECORD_WRITE (16 R360, R363): at the partner, the oldest record that has arrived goes to its slot; one that
finds its slot occupied waits with every later one. -/
def execPartnerRecordWrite (ring : Nat) (s : State) : Host.Outcome State Fault Refusal :=
  let r := s.ring ring
  match r.arrived with
  | [] => .next s
  | (j, w) :: rest =>
    if j = 0 then
      .next (s.modRing ring (fun r => { r with
        arrived := rest
        slots := truncSlots r.slots r.wrote r.wrote (nth w 0 0).toNat (recPart w) (nth w 1 0).toNat
          (lastCheckpoint (dated r.slots r.wrote) (nth w 0 0).toNat (recPart w)) }))
    else
      let again := decide (j ≤ r.wrote)
      let free := decide ((nth w 0 0).toNat % 256 = 0)
      whenOk (r.freeSlot (jsnSlot j) || again) s (s.modRing ring (fun r => { r with
        arrived := rest
        slots := if free then mdel r.slots (jsnSlot j) else mset r.slots (jsnSlot j) w
        wrote := max r.wrote j
        ackd := if again then min r.ackd (j - 1) else r.ackd }))

/-- ACK_SEND (16 R363). -/
def execAckSend (ring : Nat) (s : State) : Host.Outcome State Fault Refusal :=
  let r := s.ring ring
  whenOk (decide (r.ackd < r.wrote)) s
    ((s.sendFlit (s.flitTo r.chip 0 2 0 (.journalAck r.wrote))).modRing ring (fun r => { r with ackd := r.wrote }))

/-! ### Guarded items (16 R364) -/

/-- An element whose stamp is acknowledged is released. -/
def Elem.releaseTo (e : Elem) (acked : Nat) : Elem := { e with released := e.released || decide (e.stamp ≤ acked) }

/-- GUARDED_RELEASE. -/
def execGuardedRelease (q : Nat) (s : State) : Host.Outcome State Fault Refusal :=
  let rel (l : List Elem) : List Elem := l.map (fun e => e.releaseTo s.journal.acked)
  .next (s.modQ q (fun k => { k with
    branches := k.branches.map (fun b => { b with store := rel b.store })
    subs := k.subs.map rel
    relays := k.relays.map (fun r => (r.1, rel r.2)) }))

/-! ### Truncation (16 R376, R377) -/

/-- TRUNCATION: in jsn order, on the own copy and, once every record before it is sent, on the partner's ring; an open
replay entry of the sequence closes. A record that the own copy has lost is resent as a free slot. -/
def execTruncation (i : Nat) (s : State) : Host.Outcome State Fault Refusal :=
  match s.journal.truncs[i]? with
  | none => .next s
  | some (seq, pos, part, j) =>
    let u := s.journal
    let ckpt := lastCheckpoint ((dated (s.ring 0).slots u.written ++ u.unwritten).filter (fun p => decide (p.1 ≤ j))) seq part
    let gone (p : Nat × List Word) : Bool := decide (p.1 ≤ j) && discards seq part pos ckpt p.1 p.2
    let clear (p : Nat × List Word) : Nat × List Word := if gone p then (p.1, [0, 0, 0, 0, BitVec.ofNat 64 part]) else p
    let t : State := { s with
      journal := { u with truncs := dropAt u.truncs i, buffer := u.buffer.map clear, unwritten := u.unwritten.filter (fun p => !gone p) }
      rings := mset s.rings 0 { s.ring 0 with slots := truncSlots (s.ring 0).slots u.written j seq part pos ckpt }
      replays := s.replays.map (fun p =>
        (p.1, if p.2.seq = seq ∧ p.2.part = part then { p.2 with valid := false } else p.2)) }
    let t := State.writeOwn u.unwritten.length t
    whenOk (decide (i = 0) && (!u.sends || decide (j ≤ u.sent))) s
      (if u.sends then t.sendFlit (s.flitTo u.partner part 2 0 (.journalTruncate seq pos)) else t)

/-! ### Pairing and loss (16 R362, R367-R369) -/

/-- No port to a chip has been up for `n` clk. -/
def State.chipDown (s : State) (chip n : Nat) : Bool :=
  (s.straits.filter (fun p => decide (p.2.peer = chip))).all (fun p => decide (p.2.state ≠ 3) && decide (p.2.downAt + n ≤ s.clk)) &&
    (s.upPorts chip).isEmpty && decide (n ≤ s.clk)

/-- PARTNER_DOWN_TIMEOUT. -/
def execPartnerDownTimeout (s : State) : Host.Outcome State Fault Refusal :=
  whenOk (decide (s.journal.state = 1) && s.chipDown s.journal.partner (2 ^ 16)) s
    { s with journal := { s.journal with state := 2, target := 0 } }

/-- The live slots of the own copy in jsn order. -/
def State.snapshot (s : State) : List (Nat × List Word) :=
  sortOn (fun p => p.1) (dated (s.ring 0).slots s.journal.written)

/-- Ships the snapshot to the partner, then the append buffer again (16 R368). -/
def State.ship (s : State) : State :=
  let t := s.snapshot.foldl (fun t p => t.sendFlit (s.recordFlit p.1 p.2)) s
  { t with journal := { s.journal with sent := s.journal.acked } }

/-- Lemnani writes Partner, and the partner accepts (16 R362, R368). -/
def State.partnerTo (s : State) (chip inc : Nat) : State :=
  let u := s.journal
  let named : State := { s with journal := { u with partner := chip, pInc := inc } }
  if u.state = 0 then { named with journal := { named.journal with state := 1, sent := u.acked } }
  else if u.state = 1 ∧ chip = u.partner then s
  else if u.last = 0 then { named with journal := { named.journal with state := 1, sent := 0, target := 0 } }
  else ({ named with journal := { named.journal with state := 2, target := u.last } } : State).ship

/-- PARTNER_WRITE. -/
def execPartnerWrite (chip inc : Nat) (s : State) : Host.Outcome State Fault Refusal := .next (s.partnerTo chip inc)

/-- The partner rejoins (16 R362, R367): with its incarnation unchanged, the append buffer is sent again; with a new one,
the unit looks for a partner. -/
def State.partnerJoin (s : State) (peer inc : Nat) : State :=
  let u := s.journal
  if peer ≠ u.partner ∨ u.state = 0 then s
  else if inc = u.pInc then
    (if u.state = 2 ∧ u.target = 0 then { s with journal := { u with state := 1, sent := u.acked } } else s)
  else { s with journal := { u with state := 2, target := 0 } }

/-- SOURCE_LOST (16 R369): Lemnani's declaration; the ring stays assigned, with its incarnation. -/
def execSourceLost (ring : Nat) (s : State) : Host.Outcome State Fault Refusal :=
  whenOk (s.ring ring).valid s (s.modRing ring (fun r => { r with lost := true }))

/-! ### Replay (16 R370, R373) -/

/-- SEQUENCE_REPLAY: the records go to consecutive slots of ring 15, behind those in use, an entry opens, and the replay job
is pushed. The container's load is an event of its own (R373 step 2). -/
def execSequenceReplay (part seq : Nat) (records : List (List Word)) (q : Nat) (job : List Word) (s : State) :
    Host.Outcome State Fault Refusal :=
  match firstFree (fun i => (mgetD s.replays i Replay.reset).valid) 4096 0 with
  | none => .next s
  | some i =>
    let base := match (s.ring 15).slots.getLast? with | some p => (p.1 + 1) % ringSize | none => 0
    let put (m : FMap (List Word)) (p : List Word × Nat) : FMap (List Word) := mset m ((base + p.2) % ringSize) (padWords 4 p.1)
    let t := s.modRing 15 (fun r => { r with slots := records.zipIdx.foldl put r.slots })
    let e : Replay := ⟨seq, part, decide (records ≠ []), records.length, base⟩
    whenOk (mget s.queues q).isSome s (({ t with replays := mset s.replays i e } : State).push q .service job false)

end Sys2Proof.Machine
end

