-- ==== Sys2Proof/Machine/Freezing.lean ====
section
/-!
DEFINITION. Freeze waves, images and restores (17 R390-R394), gated clusters (R398, R399), and the replacement of a
service's firmware (R400).
-/

namespace Sys2Proof.Machine

/-! ### The freeze register (17 R390) -/

/-- Fields of a freeze register's value. -/
def freezeOrigin (v : Word) : Nat := bitsAt v.toNat 0 10
def freezeRows (v : Word) : Nat := bitsAt v.toNat 24 8
def freezeCols (v : Word) : Nat := bitsAt v.toNat 16 8

/-- A value that keeps the register's layout. -/
def freezeValid (v : Word) : Bool :=
  decide (bitsAt v.toNat 10 6 = 0) && decide (bitsAt v.toNat 32 31 = 0) && decide (1 ≤ freezeRows v) && decide (freezeRows v ≤ 32) &&
    decide (1 ≤ freezeCols v) && decide (freezeCols v ≤ 32)

/-- The clusters and cores that a value names. -/
def freezeClusters (v : Word) : List Nat := regionClusters (freezeOrigin v) (freezeRows v) (freezeCols v)
def freezeCores (v : Word) : List Nat := (freezeClusters v).flatMap (fun k => (List.range 8).map (fun i => 8 * k + i))

/-- A value names the region of a program of a partition. -/
def State.namesRegion (s : State) (part : Nat) (v : Word) : Bool :=
  match mget s.progs (freezeOrigin v) with
  | some p => decide (p.part = part) && decide (p.image.rows = freezeRows v) && decide (p.image.cols = freezeCols v)
  | none => false

/-- The wave sets out. -/
def State.beginFreeze (s : State) (part : Nat) (v : Word) : State :=
  { s with freezes := mset s.freezes part ⟨v, s.clk, false, false⟩ }

/-- A write of a freeze register with bit 63 set: one that breaks the layout does nothing; nor does one that names no
region of the partition, or that finds a freeze of the partition in progress. -/
def State.tryFreeze (s : State) (part : Nat) (v : Word) : State :=
  if v.getLsbD 63 && freezeValid v && s.namesRegion part v && (mget s.freezes part).isNone then s.beginFreeze part v else s

/-- FREEZE (17 R390). -/
def execFreeze (part : Nat) (value : Word) (s : State) : Host.Outcome State Fault Refusal := .next (s.tryFreeze part value)

/-! ### The wave (17 R390) -/

/-- The hops from a region's origin to one of its clusters. -/
def hopsFrom (org k : Nat) : Nat := offsetIn org k / 32 + offsetIn org k % 32

/-- Rounds that have only read are discarded and rewind, and so does one that this chip's decoder has (05 R148, 10 R261). -/
def CopyCmd.rewind (c : CopyCmd) : CopyCmd :=
  if c.isRemote then c
  else match c.rounds.find? (fun r => decide (r.stage = .decode) && !r.asked) with
    | some r => { c with
        pos := r.pos, carry := r.carry, rounds := []
        z := { c.z with count := c.z.back.1, base := c.z.back.2.1, bytes := c.z.back.2.2, staged := [] } }
    | none => c.giveUp (fun _ => true)

/-- A core stops at its pair boundary. -/
def Core.halted (k : Core) : Core := { k with copies := k.copies.map CopyCmd.rewind }

/-- The wave stops every unit of a cluster at its safe point. -/
def State.haltCluster (s : State) (k : Nat) : State :=
  (List.range 8).foldl (fun s i => s.modCore (8 * k + i) Core.halted) (s.modCl k (fun c => { c with frozen := true }))

/-- FREEZE_WAVE_ARRIVAL (17 R385, R390): 2 clk, and 2 clk a hop, after the origin; a gated cluster wakes first (R399). -/
def execFreezeWaveArrival (part cluster : Nat) (s : State) : Host.Outcome State Fault Refusal :=
  match mget s.freezes part with
  | none => .next s
  | some f =>
    let due := (freezeClusters f.value).contains cluster && !(s.cl cluster).frozen &&
      decide (f.startAt + 2 + 2 * hopsFrom (freezeOrigin f.value) cluster ≤ s.clk)
    if (s.cl cluster).power ≠ .running then .next (if due then s.wake cluster else s)
    else whenOk due s (s.haltCluster cluster)

/-! ### The drain (17 R391) -/

/-- A core has nothing outstanding outside: no access, answer, record, remote operation or round that writes. -/
def State.coreDrained (s : State) (c : Nat) : Bool :=
  let k := s.core c
  k.mem.isEmpty && k.pending.isEmpty && k.waits.all (fun w => decide (w.err ≠ .none)) && k.recs.isEmpty && k.recAns.isEmpty &&
    !k.copies.any (fun x => !x.rounds.isEmpty) &&
    !s.actReqs.any (fun a => decide (a.core = c)) && !s.engines.any (fun g => g.2.slots.any (fun p =>
      decide (p.2.core = c) && (p.2.asked || !p.2.buf.isEmpty)))

/-- A cluster's Atoll has written every step that it started. -/
def Cluster.atollDrained (k : Cluster) : Bool := match k.atoll.serving with | some v => v.outs.isEmpty | none => true

/-- The region has drained. -/
def State.regionDrained (s : State) (v : Word) : Bool :=
  (freezeClusters v).all (fun k => (s.cl k).frozen && (s.cl k).atollDrained) && (freezeCores v).all s.coreDrained

/-- DRAIN_COMPLETE. -/
def execDrainComplete (part : Nat) (s : State) : Host.Outcome State Fault Refusal :=
  match mget s.freezes part with
  | none => .next s
  | some f => whenOk (!f.drained && s.regionDrained f.value) s { s with freezes := mset s.freezes part { f with drained := true } }

/-! ### The image (17 R392) -/

/-- The bytes of a store of every part of a region, `size` bytes a part, by offset. -/
def State.storeImage (s : State) (key : Nat → Nat) (size : Nat) (parts : List Nat) : List Host.Cell :=
  parts.zipIdx.flatMap (fun p => (memSlice s.mem (key p.1) size).map (fun c => (p.2 * size + c.1, c.2)))

/-- The image of a region as it stands. -/
def State.readImage (s : State) (part : Nat) (v : Word) : FrozenImage :=
  let org := freezeOrigin v
  { rows := freezeRows v
    cols := freezeCols v
    part := part
    cores := (freezeCores v).map (fun c => (8 * offsetIn org (clusterOf c) + c % 8, s.core c))
    clusters := (freezeClusters v).map (fun k => (offsetIn org k, s.cl k))
    locals := s.storeImage (fun c => localKey c 0) 65536 (freezeCores v)
    slices := s.storeImage (fun k => sliceKey k 0) (2 ^ 20) (freezeClusters v)
    prog := mget s.progs org
    spans := s.spans.filter (fun sp => decide (sp.2.region = org))
    origin := org }

/-- IMAGE_READOUT. -/
def execImageReadout (part : Nat) (s : State) : Host.Outcome State Fault Refusal :=
  match mget s.freezes part with
  | none => .next s
  | some f => whenOk (f.drained && !f.read) s
      { s with images := mset s.images part (s.readImage part f.value), freezes := mset s.freezes part { f with read := true } }

/-! ### Relocation (17 R393) -/

/-- A move of a region: its old and its new origin, and its shape. -/
structure Move where
  org : Nat
  new : Nat
  rows : Nat
  cols : Nat
  deriving DecidableEq, Repr

/-- A cluster, a core, a region or a role after the move. -/
def Move.cl (m : Move) (k : Nat) : Nat := if (regionClusters m.org m.rows m.cols).contains k then m.new + (k - m.org) else k
def Move.core (m : Move) (c : Nat) : Nat := 8 * m.cl (clusterOf c) + c % 8
def Move.region (m : Move) (r : Nat) : Nat := if r = m.org then m.new else r
def Move.role (m : Move) (r : Nat × Nat) : Nat × Nat := (r.1, m.region r.2)

/-- A call tag with its core after the move (03 R85). -/
def Move.tag (m : Move) (t : Word) : Word :=
  BitVec.ofNat 64 (t.toNat / 2 ^ 14 * 2 ^ 14 + m.core (bitsAt t.toNat 0 14) % 2 ^ 14)

/-- A call item with its tag after the move. -/
def Move.call (m : Move) (ws : List Word) : List Word := if ws.length = 8 then setAt ws 7 (m.tag (nth ws 7 0)) else ws

/-- A party after the move. -/
def Move.party (m : Move) : Party → Party
  | .core c p => .core (m.core c) p
  | p => p

/-- A router of the mesh after the move. -/
def Move.elem (m : Move) (sysq : Bool) (e : Elem) : Elem :=
  { e with src := m.party e.src, cut := e.cut.map m.region, words := if sysq then m.call e.words else e.words }

/-- A suspended activation's place after the move. -/
def Move.place (m : Move) : ActPlace → ActPlace
  | .running c => .running (m.core c)
  | .queued c => .queued (m.core c)
  | .inlineParent c n d => .inlineParent (m.core c) n d
  | .inCall c => .inCall (m.core c)
  | .parkedCall c => .parkedCall (m.core c)
  | .resumed c ws => .resumed (m.core c) ws
  | .faultSaved c e => .faultSaved (m.core c) e
  | .fresh => .fresh
  | .waitChildren => .waitChildren
  | .ready since on => .ready since (on.map m.core)
  | .inlineDone c d => .inlineDone (m.core c) d

/-- An activation after the move. -/
def Move.act (m : Move) (a : Act) : Act :=
  { a with place := m.place a.place, home := m.core a.home, role := a.role.map m.role, gate := (m.core a.gate.1, a.gate.2)
           call := m.call a.call, left := a.left.map (fun g => (m.core g.1, g.2)) }

/-- A barrier after the move. -/
def Move.bar (m : Move) (b : Barrier) : Barrier := { b with pend := b.pend.map m.core, rel := b.rel.map m.core }

/-- An Atoll command after the move. -/
def Move.atoll (m : Move) (a : AtollCmd) : AtollCmd := { a with core := m.core a.core }

/-- A decoding copy's receiver after the move. -/
def Move.z (m : Move) (z : ZState) : ZState :=
  { z with out := z.out.map (fun out => out - apertureCluster out * 2 ^ 20 + m.cl (apertureCluster out) * 2 ^ 20) }

/-- A core after the move. -/
def Move.ofCore (m : Move) (k : Core) : Core :=
  { k with
    role := k.role.map m.role, copies := k.copies.map (fun c => { c with z := m.z c.z }), atollQ := k.atollQ.map m.atoll
    roleCopy := k.roleCopy.map (fun r => { r with issuer := m.core r.issuer }) }

/-- A matrix command after the move: its waiting time goes on from where it stood, and a fetch that had not completed starts again
(11 R278). -/
def MatCmd.resumed (c : MatCmd) (lost : Nat) : MatCmd :=
  { c with since := c.since + lost, lines := none }

/-- A cluster after the move, which stood still for `lost` clk: its translation cache is empty. -/
def Move.ofCluster (m : Move) (part lost : Nat) (k : Cluster) : Cluster :=
  { k with
    part := part, row0 := m.new / 32, col0 := m.new % 32, region := some m.new, tlb := [], frozen := false
    acts := k.acts.map (fun p => (p.1, m.act p.2))
    bars := k.bars.map (fun p => (p.1, m.bar p.2))
    crew := k.crew.map (fun w => { w with role := m.role w.role, issuer := m.core w.issuer })
    faults := k.faults.map (fun p => (p.1, { p.2 with core := m.core p.2.core }))
    mat := { k.mat with queues := k.mat.queues.map (fun q => (q.1, q.2.map (fun c => c.resumed lost))) }
    atoll := { k.atoll with
      arrivals := k.atoll.arrivals.map m.atoll
      serving := k.atoll.serving.map (fun v => { v with cmd := m.atoll v.cmd }) } }

/-- A span after the move. -/
def Move.span (m : Move) (sp : Span) : Span :=
  let o := m.cl (sp.orow * 32 + sp.ocol)
  { sp with
    region := m.region sp.region, orow := o / 32, ocol := o % 32, role := m.role sp.role, issuer := m.core sp.issuer
    tag := m.tag sp.tag, claimed := sp.claimed.map m.cl
    bars := sp.bars.map (fun p => (p.1, m.bar p.2))
    counted := sp.counted.map (fun p => (p.1, p.2.map m.core))
    inFlight := sp.inFlight.map (fun x => (x.1, m.core x.2.1, x.2.2))
    releases := sp.releases.map (fun x => (x.1, m.core x.2.1, x.2.2)) }

/-- A binding of a core that the region moves onto, whose place one of the region takes. -/
def Move.entered (m : Move) : Party → Bool
  | .core c _ => (regionClusters m.new m.rows m.cols).contains (clusterOf c) && !(regionClusters m.org m.rows m.cols).contains (clusterOf c)
  | _ => false

/-- A queue after the move; the calls of the region that wait in a system-call queue name the moved callers. -/
def Move.queue (m : Move) (sysq : Bool) (q : Queue) : Queue :=
  { q with
    region := q.region.map m.region
    relays := q.relays.map (fun r => (m.cl r.1, r.2.map (m.elem sysq)))
    branches := q.branches.map (fun b => { b with
      consumer := m.party b.consumer, router := if b.consumer.cluster.isSome then (m.party b.consumer).router else b.router, store := b.store.map (m.elem sysq) })
    subs := q.subs.map (fun l => l.map (m.elem sysq))
    mprod := q.mprod.map m.party
    credits := (q.credits.filter (fun c => !(m.entered c.1))).map (fun c => (m.party c.1, c.2))
    flight := q.flight.map (fun f => { f with elem := m.elem sysq f.elem, place := m.cl f.place })
    beyond := q.beyond.map (fun f => { f with elem := m.elem sysq f.elem })
    returns := q.returns.map m.party }

/-- A receive engine after the move. -/
def Move.engine (m : Move) (g : Engine) : Engine :=
  { g with
    inbox := g.inbox.map (fun r => { r with core := m.core r.core, region := m.region r.region })
    answers := g.answers.map (fun a => (m.core a.1, a.2))
    slots := g.slots.map (fun p => (p.1, { p.2 with core := m.core p.2.core, region := m.region p.2.region })) }

/-- A program after the move; a cut's timeout does not run while the region is frozen (08 R214). -/
def Move.prog (m : Move) (part lost : Nat) (p : Program) : Program :=
  { p with
    part := part, cutAt := p.cutAt + lost
    blocks := p.blocks.map (fun b => (m.cl b.1, b.2))
    nextReq := p.nextReq.map (fun r => { r with row0 := m.new / 32, col0 := m.new % 32 }) }

/-- What the rest of the chip knows of the region, after the move. -/
def State.relocate (s : State) (m : Move) (part lost : Nat) : State :=
  let sysqs := s.parts.filterMap (fun p => p.2.sysQ)
  { s with
    queues := s.queues.map (fun (q : Nat × Queue) => (q.1, m.queue (sysqs.contains q.1) q.2))
    progs := match mget s.progs m.org with
      | some p => mset (mdel s.progs m.org) m.new (m.prog part lost p)
      | none => s.progs
    spans := s.spans.map (fun sp => (sp.1, if sp.2.region = m.org then m.span sp.2 else sp.2))
    actReqs := s.actReqs.map (fun a => { a with
      core := m.core a.core, cluster := m.cl a.cluster, role := m.role a.role, gate := a.gate })
    sends := s.sends.map (fun x => { x with core := m.core x.core })
    calls := s.calls.map (fun x => (x.1, m.call x.2))
    decodes := s.decodes.map (fun j => { j with z := m.z j.z })
    showing := s.showing.map m.core
    engines := s.engines.map (fun g => (g.1, m.engine g.2))
    tensors := s.tensors.map (fun t => (t.1, { t.2 with region := m.region t.2.region }))
    asks := s.asks.map (fun a => { a with core := m.core a.core })
    ywrites := s.ywrites.map (fun w => (m.core w.1, w.2))
    walks := s.walks.filter (fun w => decide (m.cl w.cluster = w.cluster)) }

/-! ### Restore (17 R393, R394) -/

/-- A cluster that its region leaves: generation, tickets and gating aside, it holds nothing. -/
def Cluster.released (k : Cluster) (gen : Nat) : Cluster :=
  { Cluster.reset with
    gen := gen, part := k.part, yagei := k.yagei, power := k.power, request := k.request
    faults := k.faults.map (fun f => (f.1, { FaultEntry.reset with ticket := f.2.ticket })) }

/-- The key of a memory byte after the move. -/
def Move.key (m : Move) (key : Nat) : Nat :=
  if paSpace key = 1 then sliceKey (m.cl (paOff key / 2 ^ 20)) (paOff key % 2 ^ 20)
  else if paSpace key = 2 then localKey (m.core (paOff key / 65536)) (paOff key % 65536)
  else key

/-- A memory key lies in the stores of some clusters. -/
def keyIn (ks : List Nat) (key : Nat) : Bool :=
  if paSpace key = 1 then ks.contains (paOff key / 2 ^ 20)
  else if paSpace key = 2 then ks.contains (clusterOf (paOff key / 65536))
  else false

/-- The stores of the region are written to the same offsets of its new clusters, poisoned lines too (18 R411); what its old
clusters held stays there. -/
def State.moveStores (s : State) (m : Move) : State :=
  if m.org = m.new then s
  else
    let old := keyIn (regionClusters m.org m.rows m.cols)
    let new := keyIn (regionClusters m.new m.rows m.cols)
    { s with
      mem := (s.mem.filter (fun c => old c.1)).foldl (fun t c => memSet t (m.key c.1) c.2) (s.mem.filter (fun c => !new c.1))
      poison := s.poison.filter (fun l => !new (32 * l)) ++
        (s.poison.filter (fun l => old (32 * l))).map (fun l => m.key (32 * l) / 32) }

/-- The image's region may start there: a partition with the same page table, and clusters that are free or its own. -/
def State.mayRestore (s : State) (part : Nat) (v : Word) (i : FrozenImage) : Bool :=
  decide (i.rows = freezeRows v) && decide (i.cols = freezeCols v) && decide (s.rootOf part = s.rootOf i.part) &&
    (match s.part? part with
      | some p => decide (p.row0 ≤ freezeOrigin v / 32) && decide (freezeOrigin v / 32 + i.rows ≤ p.row0 + p.rows) &&
          decide (p.col0 ≤ freezeOrigin v % 32) && decide (freezeOrigin v % 32 + i.cols ≤ p.col0 + p.cols)
      | none => false) &&
    (freezeClusters v).all (fun k => (s.cl k).region.isNone || decide ((s.cl k).region = some i.origin))

/-- Starts the region at its new origin. What has reached the region since its readout is part of its image (R391). -/
def State.restoreTo (s : State) (part : Nat) (v : Word) (old : Nat) (f : Freeze) : State :=
  let i := s.readImage old f.value
  let m : Move := ⟨i.origin, freezeOrigin v, i.rows, i.cols⟩
  let lost := s.clk - f.startAt
  let gen := s.newGen
  let t := (s.relocate m part lost).moveStores m
  let t := (freezeCores f.value).foldl (fun t c => t.setCore c Core.reset) t
  let t := (freezeClusters f.value).foldl (fun t k => t.modCl k (fun c => c.released gen)) t
  let t := i.clusters.foldl (fun t c => t.setCl (m.cl (i.origin + c.1)) (m.ofCluster part (s.clk - (f.startAt + 2 + 2 * hopsFrom i.origin (i.origin + c.1))) c.2)) t
  let t := i.cores.foldl (fun t c => t.setCore (8 * m.cl (i.origin + c.1 / 8) + c.1 % 8) (m.ofCore c.2)) t
  { t with freezes := mdel t.freezes old, images := mdel t.images old }

/-- The partition whose image a restore of `part` starts: its own, or one with the same page table (R393). -/
def State.imageFor (s : State) (part : Nat) : Option Nat :=
  if (mget s.images part).isSome then some part
  else (s.images.find? (fun (i : Nat × FrozenImage) => decide (s.rootOf i.1 = s.rootOf part))).map (fun i => i.1)

/-- A write of a freeze register with bit 63 clear: one that breaks the layout, or finds no image of that shape, does
nothing. -/
def State.tryRestore (s : State) (part : Nat) (v : Word) : State :=
  match s.imageFor part with
  | none => s
  | some old =>
    match mget s.images old, mget s.freezes old with
    | some i, some f => if !v.getLsbD 63 && freezeValid v && s.mayRestore part v i then s.restoreTo part v old f else s
    | _, _ => s

/-- RESTORE (17 R390, R393). -/
def execRestore (part : Nat) (value : Word) (s : State) : Host.Outcome State Fault Refusal := .next (s.tryRestore part value)

/-! ### Gated clusters (17 R398, R399) -/

/-- A core with nothing to do. -/
def Core.quiet (k : Core) : Bool :=
  decide (k.mode = .idle) && k.act.isNone && k.runq.isEmpty && k.resumed.isEmpty && k.tokensClear && k.copies.isEmpty &&
    k.atollQ.isEmpty && k.mem.isEmpty && k.cutState.isNone && k.roleCopy.isNone

/-- The cluster consumes or relays an express queue. -/
def State.servesExpress (s : State) (k : Nat) : Bool :=
  s.queues.any (fun (q : Nat × Queue) => decide (q.2.cls = 1) &&
    (q.2.relays.any (fun r => decide (r.1 = k)) || q.2.branches.any (fun b => match b.consumer with
      | .core c _ => decide (clusterOf c = k)
      | _ => false)))

/-- The cluster is idle (17 R398). -/
def State.clusterIdle (s : State) (k : Nat) : Bool :=
  let c := s.cl k
  c.acts.isEmpty && (List.range 8).all (fun i => (s.core (8 * k + i)).quiet) && c.mat.queues.all (fun q => q.2.isEmpty) &&
    c.atoll.arrivals.isEmpty && c.atoll.serving.isNone && c.crew.isNone && c.faults.all (fun f => !f.2.valid) && !s.servesExpress k

/-- A write of the Request field; 3 does nothing. A request to run ends gating. -/
def State.powerRequest (s : State) (k v : Nat) : State :=
  if v % 4 = 3 then s
  else
    let t := s.modCl k (fun c => { c with request := v % 4 })
    if v % 4 = 0 then t.wake k else t

/-- RUN. -/
def execRunReq (cluster : Nat) (s : State) : Host.Outcome State Fault Refusal := .next (s.powerRequest cluster 0)

/-- CLOCK_GATE. -/
def execClockGate (cluster : Nat) (s : State) : Host.Outcome State Fault Refusal := .next (s.powerRequest cluster 1)

/-- POWER_GATE. -/
def execPowerGate (cluster : Nat) (s : State) : Host.Outcome State Fault Refusal := .next (s.powerRequest cluster 2)

/-- GATING_TAKES_EFFECT: the first clk in which the cluster is idle. -/
def execGatingTakesEffect (cluster : Nat) (s : State) : Host.Outcome State Fault Refusal :=
  let k := s.cl cluster
  let gated : Power := if k.request = 2 then .powerGated else .clockGated
  whenOk ((decide (k.request = 1) || decide (k.request = 2)) && decide (k.power = .running) && !k.frozen && s.clusterIdle cluster) s
    (s.modCl cluster (fun k => { k with power := gated }))

/-- WAKE_COMPLETE. -/
def execWakeComplete (cluster : Nat) (s : State) : Host.Outcome State Fault Refusal :=
  match (s.cl cluster).power with
  | .waking done => whenOk (decide (done ≤ s.clk)) s (s.modCl cluster (fun k => { k with power := .running }))
  | _ => .next s

/-! ### Service firmware (17 R400) -/

/-- A marker of the queue stands somewhere in it. -/
def Queue.hasMarker (q : Queue) : Bool :=
  q.flight.any (fun f => f.elem.marker) || q.branches.any (fun b => b.store.any (fun e => e.marker))

/-- SERVICE_FIRMWARE_REPLACE: a marker is pushed; once it stands at the head, the calls before it having been popped, it is
removed and the new version pops. -/
def execServiceFirmwareReplace (q version : Nat) (s : State) : Host.Outcome State Fault Refusal :=
  match mget s.queues q with
  | none => .next s
  | some qu =>
    if !qu.hasMarker then .next (s.push q .service [] true)
    else whenOk (decide (qu.headAt 0 = .marker)) s
      { s.setQ q (qu.popAt 0) with services := mset s.services q version }

end Sys2Proof.Machine
end

