-- ==== Sys2Proof/Machine/Strait.lean ====
section
/-!
DEFINITION. The Strait ports: joining, a peer's new incarnation, ingress, the slots of a port, and a port's loss
(04 R108, 09 R228, R229, 15 R348-R353).
-/

namespace Sys2Proof.Machine

/-! ### A peer's new incarnation (15 R352, 09 R229) -/

/-- Port `p`. -/
def State.strait (s : State) (p : Nat) : Strait := mgetD s.straits p Strait.reset

/-- Changes port `p`. -/
def State.modStrait (s : State) (p : Nat) (f : Strait → Strait) : State := { s with straits := mset s.straits p (f (s.strait p)) }

/-- The part of a command's rounds that waits for a chip: its round and its place. -/
def CopyCmd.waitsOn (c : CopyCmd) (chip : Nat) : Option (Round × Nat) :=
  c.rounds.findSome? (fun r => (r.need.find? (fun n => decide (n.chip = chip))).map (fun n => (r, n.off)))

/-- Fails every command of every core that waits for a chip, at the address that waits (05 R142). -/
def State.failCopies (s : State) (chip status : Nat) : State :=
  s.cores.foldl (fun t p => p.2.copies.foldl (fun t c => match c.waitsOn chip with
    | some (r, off) => t.failCopy p.1 c status (c.askedVa (t.handle p.1 c.ring) r off)
    | none => t) t) s

/-- A message has been refused and waits to be sent again (15 R341). -/
def State.retries (s : State) (id : Nat) : Bool :=
  let mine (h : MsgHeader) : Bool := decide (h.cmd = id) && decide (h.sender = s.chip.toNat) && decide (0 < h.refusals)
  s.engines.any (fun g => g.2.refused.any (fun r => mine r.1)) ||
    (s.unrouted ++ s.straits.flatMap (fun p => p.2.egress)).any (fun f => match f.body with | .header _ h => mine h | _ => false)

/-- Fails every send to a rank of a chip that is still outstanding; a lost link fails none that has been refused (15 R341). -/
def State.failSends (s : State) (chip status : Nat) : State :=
  (s.sends.filter (fun x => decide (s.rankChip x.hdr.comm x.hdr.dst = some chip) && !(decide (status = 7) && s.retries x.id))).foldl
    (fun t x => t.failSend x status x.va.toNat) s

/-- A chip holds a rank. -/
def State.heldOn (s : State) (comm rank chip : Nat) : Bool := decide (s.rankChip comm rank = some chip)

/-- An admitted header of a chip that has joined anew is decided at once; one that finds neither a post nor room goes. -/
def State.decideLast (s : State) (e : Nat) (h : MsgHeader) : State :=
  if (s.engine e).posted.any (fun n => s.fits ((s.engine e).slot n).part ((s.engine e).slot n).words h) || s.unexpectedRoom e h then
    s.decideHeader e h
  else s

/-- A header that an engine is about to decide. -/
def Admission.header? : Admission → Option MsgHeader
  | .header h => some h
  | .post _ => none

/-- What the receive engines forget of a chip that has joined anew: held headers and numbers. Headers already admitted are
decided at once and stay; messages refused to that chip are dropped with its numbering. -/
def State.resetTriples (s : State) (chip : Nat) : State :=
  let from' (h : MsgHeader) : Bool := decide (h.sender = chip)
  let t := s.engines.foldl (fun t p => ((p.2.deciding.filterMap (fun d => d.2.header?)).filter from').foldl
    (fun t h => t.decideLast p.1 h) t) s
  { t with engines := t.engines.map (fun p => (p.1, { p.2 with
      deciding := p.2.deciding.filter (fun d => !d.2.header?.any from')
      wire := p.2.wire.filter (fun w => !from' w.2)
      forming := p.2.forming.filter (fun m => decide (m.chip ≠ chip))
      held := p.2.held.filter (fun h => !from' h)
      refused := p.2.refused.filter (fun r => !t.heldOn r.1.comm r.1.dst chip)
      expected := p.2.expected.filter (fun x => !t.heldOn x.1.1 x.1.2.1 chip)
      numbering := p.2.numbering.filter (fun x => !t.heldOn x.1.1 x.1.2.2 chip)
      slots := p.2.slots.map (fun q => (q.1, match q.2.msg with
        | some h => if from' h ∧ 4096 < h.len ∧ q.2.state = .matched then q.2.ends h (some 2) (t.clk + 1) else q.2
        | none => q.2)) })) }

/-- What waited to go to a chip, and what another chip's copies left at a decoder, goes with the incarnation it was for. -/
def State.dropFor (s : State) (chip : Nat) : State :=
  let other (f : StraitFlit) : Bool := decide (f.dstChip ≠ chip)
  { s with
    unrouted := s.unrouted.filter other
    straits := s.straits.map (fun p => (p.1, { p.2 with egress := p.2.egress.filter other }))
    decodes := s.decodes.filter (fun j => decide (j.chip ≠ chip)) }

/-- A producer core's items that never came to be accepted at a queue of another chip: on their way, or without their credit. -/
def Queue.lostOf (q : Queue) (c : Nat) : Nat :=
  let mine (p : Party) : Bool := decide (p.producer = .core c 0)
  (q.flight.filter (fun f => mine f.elem.src)).length + (q.beyond.filter (fun f => mine f.elem.src)).length +
    (q.returns.filter mine).length

/-- CONSUMER_CHIP_RESET (09 R229): bindings to a queue whose consumer's chip has been reset end; each producer core sends a fault
item with the queue's identifier and what was dropped of its items. -/
def State.endFarQueue (s : State) (id key : Nat) : State :=
  match mget s.queues key with
  | none => s
  | some q =>
    let bound := s.cores.filter (fun p => p.2.ports.any (fun b => b.2.output && decide (s.bindKey b.2 = key)) ||
      p.2.templates.any (fun t => decide (t.2.done = key)))
    let t := bound.foldl (fun t p =>
      let t := (p.2.templates.filter (fun x => decide (x.2.done = key))).foldl (fun t x => t.disarmAt p.1 x.1) t
      (t.modCore p.1 (fun k => { k with ports := k.ports.filter (fun b => !(b.2.output && decide (s.bindKey b.2 = key))) })).sendEvent
        p.1 .queuePeerReset 0 (BitVec.ofNat 64 id) (q.lostOf p.1)) s
    if 65536 ≤ key then { t with queues := mdel t.queues key }
    else t.modQ key (fun q => { (q.credits.foldl (fun q x => match x.1 with | .core _ _ => q.endBinding x.1 | _ => q) q) with beyond := [] })

/-- A queue's consumer, or one of them, is a queue of a chip. -/
def Queue.consumedOn (q : Queue) (chip : Nat) : Bool :=
  q.branches.any (fun b => match b.consumer with | .queueOn c _ => decide (c = chip) | _ => false)

/-- PEER_REJOIN (15 R352). -/
def State.peerRejoin (s : State) (peer inc : Nat) : State :=
  let t : State := ((((s.failCopies peer 1).failSends peer 1).resetTriples peer).dropFor peer).partnerJoin peer inc
  let t : State := { t with asks := t.asks.map (fun (a : Ask) => if a.chip = peer ∧ a.answer.isNone then { a with answer := some (false, []) } else a) }
  let t := (t.queues.filter (fun q => q.2.consumedOn peer)).foldl (fun t q => t.endFarQueue (s.chip.toNat * 2 ^ 52 + q.1) q.1) t
  ((mkeys t.queues).filter (fun k => decide (k / 65536 = peer + 1))).foldl (fun t k => t.endFarQueue (peer * 2 ^ 52 + k % 65536) k) t

/-- A port has joined before. -/
def Strait.joined (t : Strait) : Bool := decide (t.state = 3) || decide (t.downAt ≠ 0)

/-- PORT_JOIN (15 R351, R352): the port learns the peer's incarnation and comes up with its fibre pairs; an incarnation that no
port to the peer knows yet is a rejoin. What waits for a port goes on (R348). -/
def execPortJoin (p peer inc pairs : Nat) (s : State) : Host.Outcome State Fault Refusal :=
  let known := s.straits.filter (fun t => t.2.joined && decide (t.2.peer = peer))
  let t := s.modStrait p (fun t => { t with peer := peer, pinc := inc, pairs := pairs, state := 3, downAt := 0 })
  if !known.isEmpty && known.all (fun t => decide (t.2.pinc ≠ inc)) then .next ((t.peerRejoin peer inc).reroute)
  else .next ((t.partnerJoin peer inc).reroute)

/-! ### Ingress (15 R349, R352, R353) -/

/-- An item from another chip enters the mesh at its port; a guarded one is released on arrival (16 R365). One for a queue that
does not exist is dropped and counted (09 R229). -/
def State.farItem (s : State) (p src q : Nat) (words : List Word) (marker : Bool) : State :=
  match mget s.queues q with
  | none => s.modStrait p (fun t => { t with lost := t.lost + 1 })
  | some qu =>
    let e : Elem := ⟨words, marker, 0, true, .far src p, none⟩
    let f : Flit := { elem := e, place := straitRouter p, port := 5, stage := 0,
                      branches := s.branchesFor qu e, since := s.clk, credit := true, seq := s.nextId, gate := [] }
    { s.setQ q { qu with flight := qu.flight ++ [f] } with nextId := s.nextId + 1 }

/-- A credit from another chip goes to the producer whose item it answers, the oldest without one (09 R228): of the queue object
that stands for the other chip's queue, or of a queue that it consumes from. -/
def State.farCredit (s : State) (chip q : Nat) : State :=
  let key := queueKey s.chip.toNat chip q
  match mget s.queues key with
  | none =>
    let feeds (k : Queue) (f : Flit) : Bool := f.branches.any (fun b => decide ((k.branches[b]?).map (fun x => x.consumer) = some (.queueOn chip q)))
    (match s.queues.findSome? (fun k => (k.2.beyond.find? (feeds k.2)).map (fun f => (k.1, k.2, f))) with
      | none => s
      | some (n, k, f) => s.setQ n (({ k with beyond := k.beyond.erase f } : Queue).creditFor f))
  | some qu => match qu.returns with
    | [] => s
    | p :: rest => s.setQ key (if qu.credits.any (fun c => decide (c.1 = p)) then
        { qu with returns := rest }.setCredits p (min (qu.creditsOf p + 1) qu.window) else { qu with returns := rest })

/-- The target's check of QBIND.OUT (04 R108, 09 R228, 17 R395). -/
def State.answerAsk (s : State) (q : Nat) : Bool × List Nat :=
  match mget s.queues q with
  | none => (false, [])
  | some qu =>
    let ok := !qu.merge && s.parts.any (fun p => p.2.permitted.any (fun t => decide (t.1 = s.chip.toNat) && decide (t.2 = q)))
    (ok, if ok then [qu.words, qu.log2, qu.window, qu.chan, qu.prio, qu.cls, 0, qu.branches.length, qu.relays.length] else [])

/-- Parts of a payload in order. -/
def joinParts (l : List (Nat × List Byte)) (n : Nat) : List Byte :=
  (List.range ((n + 63) / 64)).flatMap (fun i => ((l.find? (fun p => decide (p.1 = 64 * i))).map (fun p => p.2)).getD [])

/-- A part of a pull reaches the post that asked (15 R340); with the round's last part the round can land. -/
def State.pullArrives (s : State) (e slot status off : Nat) (bs : List Byte) : State :=
  s.modPost e slot (fun p => match p.msg with
    | some h =>
      let n := min 4096 (p.landLen h - p.landed)
      let parts := p.parts ++ [(off, bs)]
      if p.state ≠ .matched ∨ !p.asked then p
      else if status ≠ 0 then p.ends h (some 3) (s.clk + 1)
      else if (parts.map (fun q => q.2.length)).sum < n then { p with parts := parts }
      else { p with asked := false, parts := [], buf := joinParts parts n, ready := s.clk + (n + 63) / 64 }
    | none => p)

/-- A part of an eager message from another chip, or its header, has come (15 R340, R349): the message reaches the engine, after the
mesh time from the port, once all of it has (log 62). -/
def State.formMessage (s : State) (p e chip inc cmd : Nat) (hdr : Option MsgHeader) (part : List (Nat × List Byte)) : State :=
  let g := s.engine e
  let mine (m : Forming) : Bool := decide (m.chip = chip) && decide (m.inc = inc) && decide (m.cmd = cmd)
  let m := (g.forming.find? mine).getD ⟨chip, inc, cmd, none, []⟩
  let m := { m with hdr := hdr.orElse (fun _ => m.hdr), parts := m.parts ++ part }
  let rest := g.forming.filter (fun x => !mine x)
  match m.hdr with
  | some h =>
    let n := if h.len ≤ 4096 then h.len else 0
    if (m.parts.map (fun q => q.2.length)).sum < n then s.modEngine e (fun g => { g with forming := rest ++ [m] })
    else s.modEngine e (fun g => { g with
      forming := rest, wire := g.wire ++ [(s.clk + meshTime (straitRouter p) (engineRouter e), { h with payload := joinParts m.parts n })] })
  | none => s.modEngine e (fun g => { g with forming := rest ++ [m] })

/-- A flit of a live incarnation is taken, by its kind. -/
def State.take (s : State) (p : Nat) (f : StraitFlit) : State :=
  match f.body with
  | .item q words marker => s.farItem p f.srcChip q words marker
  | .credit q => s.farCredit f.srcChip q
  | .request r => { s with remIn := s.remIn ++ [{ r with srcChip := f.srcChip, srcPart := f.part, srcInc := f.inc, gen := f.gen }] }
  | .reply r => { s with remOut := s.remOut ++ [{ r with gen := f.gen }] }
  | .header e h => s.formMessage p e f.srcChip f.inc h.cmd (some h) []
  | .payload e cmd off bs => s.formMessage p e f.srcChip f.inc cmd none [(off, bs)]
  | .refusal e h => s.modEngine e (fun g => g.takeBack h s.clk)
  | .pullAsk h off len last e slot =>
    if len = 0 then (match s.sendOf h.cmd with | some x => s.finishSend x | none => s)
    else s.sendFlit (s.flitTo f.srcChip h.part 0 0 (.pullServe h off len last e slot))
  | .pullServe _ _ _ _ e slot => s.pullArrives e slot 3 0 []
  | .pullData _ e slot status off bs => s.pullArrives e slot status off bs
  | .journalRecord j w =>
    match s.rings.find? (fun r => r.2.valid && decide (r.2.chip = f.srcChip) && decide (r.2.inc = f.inc)) with
    | some (n, _) => s.modRing n (fun r => { r with arrived := r.arrived ++ [(j, w.take 5)] ++ (if 5 < w.length then [(j + 1, w.drop 5)] else []) })
    | none => s
  | .journalTruncate seq pos =>
    match s.rings.find? (fun r => r.2.valid && decide (r.2.chip = f.srcChip) && decide (r.2.inc = f.inc)) with
    | some (n, _) => s.modRing n (fun r => { r with
        arrived := r.arrived ++ [(0, [BitVec.ofNat 64 seq, BitVec.ofNat 64 pos, 0, 0, BitVec.ofNat 64 f.part])] })
    | none => s
  | .journalAck j => if f.srcChip = s.journal.partner then s.acknowledge j else s
  | .bindAsk q core port =>
    let (ok, attrs) := s.answerAsk q
    s.sendFlit (s.flitTo f.srcChip f.part 0 0 (.bindAnswer q core port ok attrs))
  | .bindAnswer q core port ok attrs =>
    { s with asks := s.asks.map (fun a =>
        if a.core = core ∧ a.port = port ∧ a.chip = f.srcChip ∧ a.queue = q then { a with answer := some (ok, attrs) } else a) }

/-- FLIT_INGRESS (15 R352): a flit of another incarnation of its source than the one that this chip has recorded is dropped and
counted; one for another chip goes on. -/
def execFlitIngress (p : Nat) (f : StraitFlit) (s : State) : Host.Outcome State Fault Refusal :=
  let t := s.strait p
  whenOk (decide (t.state = 3)) s
    (if (s.incarnationOf f.srcChip).any (fun n => decide (n ≠ f.inc)) then s.modStrait p (fun t => { t with stale := t.stale + 1 })
     else if f.dstChip ≠ s.chip.toNat then s.sendFlit f
     else s.take p f)

/-! ### What leaves (15 R349, R350) -/

/-- Parts of at most 64 bytes: the place and the bytes of each. -/
def flitParts (bs : List Byte) : List (Nat × List Byte) :=
  (List.range ((bs.length + 63) / 64)).map (fun i => (64 * i, (bs.drop (64 * i)).take 64))

/-- What the flits of a waiting one need before they can be formed: nothing; bytes of a payload; or a payload whose read fails (07
R193, 15 R340). -/
inductive Formed where
  | ready
  | bytes (x : Sending) (bs : List Byte)
  | kept (bs : List Byte)
  | wait
  | gone
  | bad (x : Sending) (status va : Nat)
  deriving DecidableEq, Repr

/-- Forms a flit: an eager message's payload is read as its flits are formed, and a pull's bytes as they are served. -/
def State.form (s : State) (f : StraitFlit) : Formed × State :=
  let read (x : Sending) (off n : Nat) : Formed × State :=
    match s.payload x off n with
    | (.wait, t) => (.wait, t)
    | (.bad st va, t) => (.bad x st va, t)
    | (.ok bs, t) => (.bytes x bs, t)
  match f.body with
  | .header e h =>
    if h.sender ≠ s.chip.toNat then (.ready, s)
    else if 0 < h.refusals then (.kept ((mget (s.engine e).kept h.cmd).getD []), s)
    else match s.sendOf h.cmd with
      | none => (.gone, s)
      | some x => if 4096 < h.len then (.ready, s) else read x 0 h.len
  | .pullServe h off len _ _ _ => (match s.sendOf h.cmd with | none => (.gone, s) | some x => read x off len)
  | _ => (.ready, s)

/-- A flit that waits for its payload. -/
def State.waitsToForm (s : State) (f : StraitFlit) : Bool := decide ((s.form f).1 = .wait)

/-- A send's flits: `n` of them are due to leave before it completes; with none due it completes now. -/
def State.sendDue (s : State) (x : Sending) (n : Nat) : State :=
  if n = 0 then s.finishSend x
  else { s with sends := s.sends.map (fun y => if y.id = x.id then { y with due := n } else y) }

/-- The flit that leaves in place of a picked one, if any, with its further parts queued behind it. -/
def State.emit (s : State) (f : StraitFlit) : Option StraitFlit × State :=
  let parts (s : State) (e cmd : Nat) (bs : List Byte) : State :=
    (flitParts bs).foldl (fun t p => t.sendFlit { f with body := .payload e cmd p.1 p.2 }) s
  match s.form f, f.body with
  | (.wait, t), _ => (none, t)
  | (.ready, t), .payload _ cmd _ _ => (some f, t.flitLeft cmd)
  | (.ready, t), .pullData cmd _ _ _ _ _ => (some f, t.flitLeft cmd)
  | (.ready, t), _ => (some f, t)
  | (.kept bs, t), .header e h => (some f, parts t e h.cmd bs)
  | (.bytes x bs, t), .header e h =>
    (some f, (parts (t.modEngine e (fun g => { g with kept := mset g.kept h.cmd bs })) e h.cmd bs).sendDue x (flitParts bs).length)
  | (.bytes x bs, t), .pullServe h _ _ last e slot =>
    (none, (flitParts bs).foldl (fun t p => t.sendFlit { f with body := .pullData h.cmd e slot 0 p.1 p.2 })
      (if last then t.sendDue x (flitParts bs).length else t))
  | (.bad x st va, t), .pullServe h _ _ _ e slot => (none, (t.failSend x st va).sendFlit { f with body := .pullData h.cmd e slot 3 0 [] })
  | (.bad x st va, t), _ => (none, t.failSend x st va)
  | (.gone, t), .pullServe h _ _ _ e slot => (none, t.sendFlit { f with body := .pullData h.cmd e slot 3 0 [] })
  | (_, t), _ => (none, t)

/-! ### Egress (15 R350) -/

/-- The flit that the next slot takes, of those that can be formed: express first, at most three slots in any four while others
wait; a guarded one that waits at least one slot in every eight; else the oldest normal or guarded one. -/
def Strait.pick (t : Strait) (ok : StraitFlit → Bool) : Option Nat :=
  let first (q : StraitFlit → Bool) : Option Nat := t.egress.findIdx? (fun f => ok f && q f)
  let express := first (fun f => decide (f.cls = 1))
  let guarded := first (fun f => decide (f.cls = 2))
  let other := first (fun f => decide (f.cls ≠ 1))
  match guarded, express, other with
  | some g, some e, _ => if 7 ≤ t.gap then some g else if t.run < 3 then some e else other
  | some g, none, o => if 7 ≤ t.gap then some g else o
  | none, some e, some o => if t.run < 3 then some e else some o
  | none, some e, none => some e
  | none, none, o => o

/-- The counts after a flit of a class has left a port: an express run counts while another flit waits, a gap while a guarded one
does. -/
def Strait.count (t : Strait) (cls : Nat) (rest : List StraitFlit) : Strait :=
  { t with
    egress := rest
    run := if cls = 1 ∧ rest.any (fun f => decide (f.cls ≠ 1)) then min (t.run + 1) 3 else 0
    gap := if cls ≠ 2 ∧ rest.any (fun f => decide (f.cls = 2)) then t.gap + 1 else 0 }

/-- STRAIT_SLOT: one flit leaves a port that is up; one that waits for its payload keeps its place and has its page looked for. -/
def execStraitSlot (p : Nat) (s : State) : Host.Outcome State Fault Refusal :=
  let s' := ((s.strait p).egress.filter s.waitsToForm).foldl (fun t f => (t.form f).2) s
  let t := s.strait p
  match (if t.state = 3 then t.pick (fun f => !s.waitsToForm f) else none) with
  | none => .next (if t.state = 3 then s' else s)
  | some i =>
    match t.egress[i]? with
    | none => .next s
    | some f =>
      let (out, u) := (s'.modStrait p (fun t => t.count f.cls (dropAt t.egress i))).emit f
      .next (match out with | some g => { u with outbox := u.outbox ++ [.flit p g] } | none => u)

/-! ### Loss of a port (15 R348) -/

/-- Requests to a chip that no port reaches fail and leave nothing behind; the rest waits. -/
def failing : FlitBody → Bool
  | .request _ => true
  | _ => false

/-- Chips that lose their last port. -/
def State.cutOff (s : State) : List Nat := (mkeys s.routes).filter (fun c => (s.upPorts c).isEmpty)

/-- PORT_DOWN (15 R348, R351): the port's State leaves up; its flits go to the other port of their route, or wait; commands and
sends to a chip that has become unreachable fail with link-down. -/
def execPortDown (p st pairs : Nat) (s : State) : Host.Outcome State Fault Refusal :=
  let t := s.modStrait p (fun t => { t with state := min st 2, pairs := pairs, downAt := if t.state = 3 then max s.clk 1 else t.downAt, run := 0, gap := 0 })
  let lost := t.cutOff
  let gone (f : StraitFlit) : Bool := lost.contains f.dstChip && failing f.body
  let t := t.modStrait p (fun t => { t with egress := t.egress.filter (fun f => !gone f) })
  .next ((lost.foldl (fun t c => (t.failCopies c 7).failSends c 7) t).reroute)

/-! ### Items for a client (18 R408, 16 R365) -/

/-- CLIENT_DELIVERY: the head item's bytes go into the client's next slot, and a flush follows them; the tail index waits
for its acknowledgement. -/
def execClientDelivery (q branch : Nat) (s : State) : Host.Outcome State Fault Refusal :=
  match mget s.queues q with
  | none => .next s
  | some qu =>
    match qu.branches[branch]? with
    | some ⟨.client id, router, e :: rest, tail, credited⟩ =>
      let t := s.setQ q { qu with branches := setAt qu.branches branch ⟨.client id, router, rest, if e.marker then tail else tail + 1, credited⟩ }
      match s.hosts.find? (fun h => h.2.clients.any (fun c =>
          decide (bitsAt c.2.w0.toNat 48 16 = id) && decide (bitsAt c.2.w0.toNat 39 1 = 1) && decide (bitsAt c.2.w0.toNat 37 1 = 1))) with
      | none => .next s
      | some (n, h) =>
        let out : State := { t with
          hosts := mset t.hosts n { h with tails := if h.tails.contains (id, q) then h.tails else h.tails ++ [(id, q)] }
          outbox := t.outbox ++ [.deliver id q (tail % qu.capacity) e.words] }
        whenOk (decide (qu.cls ≠ 2) || e.released) s (if e.marker then t else out)
    | _ => .next s

end Sys2Proof.Machine
end

