-- ==== Sys2Proof/Machine/Bringup.lean ====
section
/-!
DEFINITION. The chip in its system: reset, boot, keys, attestation, readiness, power, soft errors, held frames
(15 R352, R355, 18 R409-R418).
-/

namespace Sys2Proof.Machine

/-! ### Reset (15 R352, 18 R409) -/

/-- A host port across a reset: its outstanding transactions will complete with status 4. -/
def HostPort.cut (h : HostPort) : HostPort :=
  { HostPort.reset with aborted := h.aborted ++ h.waiting ++ h.pushed.map (fun p => p.1) }

/-- CHIP_RESET: all starts anew but the chip's identifier, the incarnation, which rises by 1, the key store, far memory,
the board controller's cap, and what has left the chip. -/
def execChipReset (s : State) : Host.Outcome State Fault Refusal :=
  .next { State.reset with
    chip := s.chip, inc := s.inc + 1, keys := s.keys, far := s.far, boardCap := s.boardCap
    hosts := s.hosts.map (fun h => (h.1, h.2.cut))
    inputs := s.inputs, outbox := s.outbox }

/-! ### Boot (18 R412) -/

/-- Slot `n` of the key store. -/
def State.keySlot (s : State) (n : Nat) : KeySlot := mgetD s.keys n KeySlot.empty

/-- Lemnani's firmware is signed by an active key of the store. -/
def State.lemnaniOk (s : State) (slot : Nat) (image sig : List Byte) : Bool :=
  decide (slot < 32) && decide ((s.keySlot slot).state = 1) && Config.mldsaVerify (s.keySlot slot).key (Config.sha3 image) sig

/-- The boot firmware that the ROM reads: board flash, or, in recovery, what the PCIe port loaded (R417). -/
def State.bootImage (s : State) (flash : List Byte) : List Byte := if s.recovery then s.staged else flash

/-- SECURE_BOOT: both verifications, in order; a failure leaves the chip in recovery. -/
def execSecureBoot (boot lemnani bootSig lemnaniSig : List Byte) (key : Nat) (s : State) : Host.Outcome State Fault Refusal :=
  let image := s.bootImage boot
  let ok := Config.mldsaVerify Config.bootKey (Config.sha3 image) bootSig && s.lemnaniOk key lemnani lemnaniSig
  .next (if ok then { s with firmware := image, lemnani := lemnani, recovery := false, ready := s.ready ||| 1 }
         else { s with recovery := true, ready := 0 })

/-- BOOT_FIRMWARE_LOAD (18 R417): the PCIe port stages firmware; in recovery it is the boot firmware. -/
def execBootFirmwareLoad (image : List Byte) (s : State) : Host.Outcome State Fault Refusal := .next { s with staged := image }

/-- KEY_STORE_CHANGE (18 R412): slot 0 is written once; every later change is signed by the owner key, and adds a key to an
empty slot or revokes an active one. -/
def execKeyStoreChange (slot id : Nat) (key : List Byte) (revoke : Bool) (sig : List Byte) (s : State) :
    Host.Outcome State Fault Refusal :=
  let k := s.keySlot slot
  let owner := s.keySlot 0
  let signed := decide (owner.state = 1) && Config.mldsaVerify owner.key (Config.sha3 (Config.keyChange slot id key revoke)) sig
  let adds := !revoke && decide (k.state = 0) && decide (key.length = 1952) && (decide (slot = 0) || signed)
  let revokes := revoke && decide (k.state = 1) && signed
  .next (if 32 ≤ slot then s
    else if adds then { s with keys := mset s.keys slot ⟨1, id, key⟩ }
    else if revokes then { s with keys := mset s.keys slot { k with state := 2 } }
    else s)

/-! ### Attestation (18 R413) -/

/-- The key store's bytes (log 12). -/
def State.keyBytes (s : State) : List Byte := (List.range 32).flatMap (fun i => (List.range 256).flatMap (fun w => leBytes 8 ((s.keySlot i).word w)))

/-- Programs that a report covers. -/
def State.attested (s : State) (part : Option Nat) : List (Nat × Program) :=
  s.progs.filter (fun (p : Nat × Program) => match part with | some n => decide (p.2.part = n) | none => true)

/-- One region of a report. -/
def State.regionReport (s : State) (p : Nat × Program) : List Byte :=
  Config.regionHeader p.2.part p.1 (p.2.image.rows, p.2.image.cols) p.2.image.id (s.cl p.1).gen ++ p.2.image.digest

/-- The bytes that are signed. -/
def State.reportBody (s : State) (part : Option Nat) (nonce : List Byte) : List Byte :=
  let rs := s.attested part
  leBytes 4 0x01525447 ++ leBytes 4 1 ++ leBytes 8 (s.chip.toNat + s.inc.toNat * 65536) ++
    ((nonce ++ List.replicate 32 0).take 32) ++ Config.sha3 s.firmware ++ Config.sha3 s.lemnani ++ Config.sha3 s.keyBytes ++
    leBytes 8 rs.length ++ rs.flatMap s.regionReport

/-- ATTESTATION_REPORT: for a partition, or for the whole chip; in recovery only the PCIe port answers (R412). -/
def execAttestationReport (part : Option Nat) (nonce : List Byte) (s : State) : Host.Outcome State Fault Refusal :=
  let body := s.reportBody part nonce
  whenOk (!s.recovery) s { s with outbox := s.outbox ++ [.bytes (body ++ Config.deviceSign body)] }

/-! ### Readiness (18 R416) -/

/-- READY_BIT_SET: bit 0 is the boot's own, bit 31 reserved, and nothing reports ready in recovery. -/
def execReadyBitSet (bit : Nat) (s : State) : Host.Outcome State Fault Refusal :=
  whenOk (decide (bit < 64) && decide (bit ≠ 0) && decide (bit ≠ 31) && !s.recovery) s { s with ready := s.ready ||| (1 <<< bit) }

/-! ### Islands and the governor (18 R414, R415) -/

/-- Island `n`. -/
def State.island (s : State) (n : Nat) : Island := mgetD s.islands n Island.reset

/-- Changes an island. -/
def State.modIsland (s : State) (n : Nat) (f : Island → Island) : State := { s with islands := mset s.islands n (f (s.island n)) }

/-- Islands that take operating points. -/
def hasPoints (n : Nat) : Bool := decide (n ≤ 35) || (decide (37 ≤ n) && decide (n ≤ 41))

/-- The row island of highest Floor, the lowest number among equals. -/
def State.highestFloor (s : State) : Nat :=
  (List.range 32).foldl (fun b n => if (s.island b).floor_ < (s.island n).floor_ then n else b) 0

/-- GOVERNOR_WINDOW: `hottest` is the row island of highest power. -/
def execGovernorWindow (power hottest : Nat) (s : State) : Host.Outcome State Fault Refusal :=
  let t := { s with power := power % 65536 }
  .next (if s.capNow < power then
      (if hottest < 32 then t.modIsland hottest (fun i => { i with floor_ := min (i.floor_ + 1) 5 }) else t)
    else if 100 * power < 95 * s.capNow then t.modIsland s.highestFloor (fun i => { i with floor_ := i.floor_ - 1 })
    else t)

/-- POINT_CHANGE: the island runs at max(Request, Floor). -/
def execPointChange (island : Nat) (s : State) : Host.Outcome State Fault Refusal :=
  whenOk (hasPoints island) s (s.modIsland island (fun i => { i with current := max i.request i.floor_ }))

/-- CAP_WRITE (18 R415, R417): by the board controller, or by Lemnani; the lower of the two holds. -/
def execCapWrite (board : Bool) (value : Nat) (s : State) : Host.Outcome State Fault Refusal :=
  .next (if board then { s with boardCap := min (value % 65536) 1900 } else { s with cap := min (value % 65536) 1900 })

/-! ### Soft errors and held frames (15 R355, 18 R411) -/

/-- UNCORRECTABLE_SOFT_ERROR: the line of HBM, cluster store or local store is poisoned. -/
def execUncorrectableSoftError (addr : Nat) (s : State) : Host.Outcome State Fault Refusal :=
  let line := paKey addr / 32
  whenOk (decide (paSpace addr ≤ 2) && offsetNamed (paSpace addr) (paOff addr)) s
    { s with poison := if s.poison.contains line then s.poison else s.poison ++ [line] }

/-- FRAME_HOLD: Lemnani holds a 64 KiB frame while it migrates or scrubs it. -/
def execFrameHold (addr : Nat) (s : State) : Host.Outcome State Fault Refusal :=
  let f := paKey addr / 65536
  .next { s with heldFrames := if s.heldFrames.contains f then s.heldFrames else s.heldFrames ++ [f] }

/-- FRAME_RELEASE. -/
def execFrameRelease (addr : Nat) (s : State) : Host.Outcome State Fault Refusal :=
  .next { s with heldFrames := s.heldFrames.filter (fun f => decide (f ≠ paKey addr / 65536)) }

end Sys2Proof.Machine
end

