-- ==== Sys2Proof/Machine/Control.lean ====
section
/-!
DEFINITION. Control transfers (03 R79-R81). A transfer in a C-half takes effect after its A-half (01 R40): it is
kept in the issue record until the pair completes.
-/

namespace Sys2Proof.Machine

/-- Sets the address that the pair continues at. -/
def transfer (t : Word) : M Unit := modIssue (fun i => { i with target := some t })

/-- The target of a branch or jump: its own word's address, or the pair's, plus four times the offset (01 R44). -/
def relTarget {n : Nat} (pc : Word) (off : BitVec n) : Word := pc + off.signExtend 64 * 4

/-- A conditional branch (R79). -/
def branchOp (taken : Word → Word → Bool) (a b : Reg) (off : BitVec 15) : M Unit := do
  let va ← readX a
  let vb ← readX b
  let k ← here
  if taken va vb then transfer (relTarget k.pc off) else pure ()

/-- BEQ (R79). -/
def opBeq (a b : Reg) (off : BitVec 15) : M Unit := branchOp (fun x y => x == y) a b off

/-- Issues BEQ. -/
def execBeq (a b : Reg) (off : BitVec 15) (s : State) : Host.Outcome State Fault Refusal := issueHalf (opBeq a b off) s

/-- BNE (R79). -/
def opBne (a b : Reg) (off : BitVec 15) : M Unit := branchOp (fun x y => x != y) a b off

/-- Issues BNE. -/
def execBne (a b : Reg) (off : BitVec 15) (s : State) : Host.Outcome State Fault Refusal := issueHalf (opBne a b off) s

/-- BLT (R79). -/
def opBlt (a b : Reg) (off : BitVec 15) : M Unit := branchOp (fun x y => x.slt y) a b off

/-- Issues BLT. -/
def execBlt (a b : Reg) (off : BitVec 15) (s : State) : Host.Outcome State Fault Refusal := issueHalf (opBlt a b off) s

/-- BGE (R79). -/
def opBge (a b : Reg) (off : BitVec 15) : M Unit := branchOp (fun x y => !x.slt y) a b off

/-- Issues BGE. -/
def execBge (a b : Reg) (off : BitVec 15) (s : State) : Host.Outcome State Fault Refusal := issueHalf (opBge a b off) s

/-- BLTU (R79). -/
def opBltu (a b : Reg) (off : BitVec 15) : M Unit := branchOp (fun x y => x.ult y) a b off

/-- Issues BLTU. -/
def execBltu (a b : Reg) (off : BitVec 15) (s : State) : Host.Outcome State Fault Refusal := issueHalf (opBltu a b off) s

/-- BGEU (R79). -/
def opBgeu (a b : Reg) (off : BitVec 15) : M Unit := branchOp (fun x y => !x.ult y) a b off

/-- Issues BGEU. -/
def execBgeu (a b : Reg) (off : BitVec 15) (s : State) : Host.Outcome State Fault Refusal := issueHalf (opBgeu a b off) s

/-- J (R80). -/
def opJ (off : BitVec 25) : M Unit := do
  let k ← here
  transfer (relTarget k.pc off)

/-- Issues J. -/
def execJ (off : BitVec 25) (s : State) : Host.Outcome State Fault Refusal := issueHalf (opJ off) s

/-- JL: x1 receives the return address (R80). -/
def opJl (off : BitVec 25) : M Unit := do
  let k ← here
  let s ← get
  writeX 1 (pastPair s)
  transfer (relTarget k.pc off)

/-- Issues JL. -/
def execJl (off : BitVec 25) (s : State) : Host.Outcome State Fault Refusal := issueHalf (opJl off) s

/-- JLR: x[a] is read before x[d] is written (R81). -/
def opJlr (d a : Reg) (imm : BitVec 15) : M Unit := do
  let v ← readX a
  let s ← get
  writeX d (pastPair s)
  modHere (fun k => { k with nextPair := s.clk + 3 })
  transfer ((v + imm.signExtend 64) &&& ~~~3)

/-- Issues JLR. -/
def execJlr (d a : Reg) (imm : BitVec 15) (s : State) : Host.Outcome State Fault Refusal := issueHalf (opJlr d a imm) s

end Sys2Proof.Machine
end

