-- ==== Sys2Proof/Machine/Host.lean ====
section
/-!
DEFINITION. The host ports: transactions, their checks, channels and flushes, and the client's answers to deliveries
(18 R402-R409).
-/

namespace Sys2Proof.Machine

/-! ### Ports and client entries (18 R402) -/

/-- Port `p`. -/
def State.host (s : State) (p : Nat) : HostPort := mgetD s.hosts p HostPort.reset

/-- Changes port `p`. -/
def State.modHost (s : State) (p : Nat) (f : HostPort → HostPort) : State := { s with hosts := mset s.hosts p (f (s.host p)) }

/-- The valid entry of a client. -/
def HostPort.entryOf (h : HostPort) (client : Nat) : Option ClientEntry :=
  (h.clients.find? (fun (c : Nat × ClientEntry) =>
    decide (bitsAt c.2.w0.toNat 48 16 = client) && decide (bitsAt c.2.w0.toNat 39 1 = 1))).map (fun c => c.2)

/-- Fields of an entry. -/
def ClientEntry.part (e : ClientEntry) : Nat := bitsAt e.w0.toNat 44 4
def ClientEntry.share (e : ClientEntry) : Nat := bitsAt e.w0.toNat 0 14 + 1
def ClientEntry.base (e : ClientEntry) : Nat := e.w1.toNat / 65536 * 65536
def ClientEntry.size (e : ClientEntry) : Nat := (e.w1.toNat % 65536 + 1) * 65536

/-- The right or permission that a kind needs (18 R403 step 3). -/
def ClientEntry.allows (e : ClientEntry) (kind : Nat) : Bool :=
  let bit (n : Nat) : Bool := decide (bitsAt e.w0.toNat n 1 = 1)
  match kind with
  | 1 => bit 35
  | 2 => bit 36
  | 3 => bit 38
  | 4 => bit 37
  | _ => true

/-- Transactions of a client that are outstanding. -/
def HostPort.outstanding (h : HostPort) (client : Nat) : List HostTx :=
  (h.waiting ++ h.pushed.map (fun p => p.1)).filter (fun t => decide (t.client = client))

/-! ### Checks (18 R403) -/

/-- Flags that the kind and the channel do not allow. -/
def flagsBad (t : HostTx) : Bool :=
  (t.flagR && !(decide (t.kind = 5) || (decide (t.kind = 2) && !t.relaxed))) || (t.flagA && !(decide (t.kind = 1) && !t.relaxed))

/-- A read or write outside the client's window, mapped space or one 256-byte block. -/
def rangeBad (t : HostTx) (e : ClientEntry) : Bool :=
  !(decide (1 ≤ t.len) && decide (t.len ≤ 256) && decide (t.addr % 256 + t.len ≤ 256) && decide (e.base ≤ t.addr) &&
    decide (t.addr + t.len ≤ e.base + e.size) && decide (placeOf (BitVec.ofNat 64 t.addr) = .mapped) && decide (t.addr < 2 ^ 64))

/-- The transaction is malformed; `kind` is the one whose name the event bears. -/
def HostPort.malformed (h : HostPort) (t : HostTx) (e : ClientEntry) (kind : Nat) : Bool :=
  decide (t.kind ≠ kind) || flagsBad t || (decide (kind = 3) && t.relaxed) ||
    ((decide (kind = 1) || decide (kind = 2)) && rangeBad t e) || (h.outstanding t.client).any (fun u => decide (u.tag = t.tag))

/-- The status of a push's queue: it must be open, name the client, and have a credit left (18 R403 step 6). -/
def State.pushStatus (s : State) (t : HostTx) : Nat :=
  match mget s.queues t.queue with
  | none => 7
  | some q =>
    if !(q.entryQ && q.isOpen && q.named.contains t.client) then 7
    else if q.creditsOf (.client t.client) = 0 then 6
    else 0

/-- The first status that applies; 0 accepts. -/
def State.hostStatus (s : State) (p : Nat) (t : HostTx) (kind : Nat) : Nat :=
  let h := s.host p
  match h.entryOf t.client with
  | none => 1
  | some e =>
    if h.malformed t e kind then 3
    else if !e.allows kind then 1
    else if t.inc ≠ s.inc.toNat then 4
    else if e.share ≤ (h.outstanding t.client).length then 5
    else if kind = 3 then s.pushStatus t
    else 0

/-- Answers a transaction. -/
def State.respond (s : State) (p : Nat) (t : HostTx) (status : Nat) (data : List Byte) : State :=
  { s with outbox := s.outbox ++ [.response p t.client t.tag status s.inc.toNat data] }

/-! ### Performing a transaction (18 R403-R408) -/

/-- The key of an address for a client: absent, refused, or a key of HBM or cluster store with the state that its
translation leaves. -/
inductive HostKey where
  | absent | refused
  | at (key : Nat) (s : State)
  deriving DecidableEq

/-- What an entry of a translation cache gives a client's access. -/
def State.hostPlace (s : State) (e : TlbEntry) (addr : Nat) (write : Bool) : HostKey :=
  let pa := e.frame + addr % 2 ^ e.log2
  if !rightsOk false e.sys e.r e.w (!write) write then .refused
  else if paChip pa ≠ s.chip.toNat ∨ 2 ≤ paSpace pa then .refused
  else .at (paKey pa) s

/-- The entry of port `p`'s cache that a client's access hits; a write through one whose D is not set walks first. -/
def State.hostHit (s : State) (p part addr : Nat) (write : Bool) : Option TlbEntry :=
  (tlbFind (s.host p).tlb part addr).filter (fun e => !(write && e.w) || e.dirty)

/-- Translates a client's address with the partition's page table, through the port's own cache of 2,048 entries, 256 sets
of 8 ways (log 57); a miss walks at once (log 34). -/
def State.hostKey (s : State) (p part addr : Nat) (write : Bool) : HostKey :=
  match s.hostHit p part addr write with
  | some e => (s.modHost p (fun h => { h with tlb := tlbTouch h.tlb e })).hostPlace e addr write
  | none => match s.walkTable part addr with
    | .absent => .absent
    | .leaf key log2 e =>
      let t := leafEntry part addr log2 e write
      let s := { s with mem := memWrite s.mem key (leBytes 8 (usedLeaf e write)) }
      (s.modHost p (fun h => { h with tlb := tlbInstall h.tlb t 256 })).hostPlace t addr write

/-- Bytes that a write's enables pass, each at its key. -/
def enabledParts (t : HostTx) (key : Nat) : List (Nat × List Byte) :=
  ((List.range t.len).filter (fun i => nth t.enables i false)).map (fun i => (key + i, [nth t.data i 0]))

/-- The branch through which a client consumes a queue. -/
def Queue.clientBranch (q : Queue) (client : Nat) : Option Nat :=
  q.branches.findIdx? (fun b => decide (b.consumer = .client client))

/-- A credit returns slots; one beyond what has been delivered and not yet credited is malformed (18 R408). -/
def State.hostCreditAt (s : State) (p : Nat) (t : HostTx) : State :=
  match mget s.queues t.queue with
  | none => s.respond p t 3 []
  | some q =>
    match (q.clientBranch t.client).bind (fun i => (q.branches[i]?).map (fun b => (i, b))) with
    | none => s.respond p t 3 []
    | some (i, b) =>
      if b.tail - b.credited < t.len then s.respond p t 3 []
      else (s.setQ t.queue { q with branches := setAt q.branches i { b with credited := b.credited + t.len } }).respond p t 0 []

/-- Performs a transaction; none while its page is absent, or a core's access that counts as performed holds its bytes
(13 R298). -/
def State.hostPerform (s : State) (p : Nat) (t : HostTx) : Option State :=
  let part := ((s.host p).entryOf t.client).elim 0 ClientEntry.part
  match t.kind with
  | 1 =>
    (match s.hostKey p part t.addr false with
      | .absent => none
      | .refused => some (s.respond p t 2 [])
      | .at key u =>
        if s.shownHolds none false key t.len then none
        else some (if s.isPoisoned key t.len then u.respond p t 8 [] else u.respond p t 0 (memRead s.mem key t.len)))
  | 2 =>
    if (enabledParts t 0).isEmpty then some (s.respond p t 0 [])
    else (match s.hostKey p part t.addr true with
      | .absent => none
      | .refused => some (s.respond p t 2 [])
      | .at key u => if s.shownHolds none true key t.len then none else some ((u.writeParts (enabledParts t key)).respond p t 0 []))
  | 3 =>
    (match mget s.queues t.queue with
      | none => some (s.respond p t 7 [])
      | some q =>
        if q.creditsOf (.client t.client) = 0 then some (s.respond p t 6 [])
        else
          let seq := s.nextId
          some ((s.pushAt (hostRouter p) t.queue (.client t.client) (wordsOfBytes q.words t.data) false).modHost p
            (fun h => { h with pushed := h.pushed ++ [(t, seq)] })))
  | 4 => some (s.hostCreditAt p t)
  | _ => some (s.respond p t 0 [])

/-! ### Order (18 R405, R406) -/

/-- A release: a push, an ordered write with flag R, a flush with flag R. -/
def txReleases (t : HostTx) : Bool := decide (t.kind = 3) || t.flagR

/-- Two reads or writes share a byte. -/
def txMeets (t u : HostTx) : Bool :=
  decide (t.kind ≤ 2) && decide (u.kind ≤ 2) && overlaps t.addr t.len u.addr u.len

/-- A transaction may go before none of the client's earlier ones that stand here: an acquire holds all; the ordered
channel keeps its order; relaxed ones to common bytes keep theirs; a release follows every relaxed one. -/
def mayGo (earlier : List HostTx) (t : HostTx) : Bool :=
  !earlier.any (fun u => decide (u.client = t.client) &&
    (u.flagA || (!u.relaxed && !t.relaxed) || (u.relaxed && t.relaxed && txMeets u t) || (u.relaxed && txReleases t)))

/-- An ordered push of the client is not yet accepted: the ordered channel waits for it. -/
def HostPort.pushHolds (h : HostPort) (t : HostTx) : Bool :=
  !t.relaxed && h.pushed.any (fun u => decide (u.1.client = t.client))

/-- Waiting transaction `i` goes on if it may and its page is present. -/
def State.hostGo (s : State) (p i : Nat) : State :=
  let h := s.host p
  match h.waiting[i]? with
  | none => s
  | some t =>
    if !mayGo (h.waiting.take i) t || h.pushHolds t then s
    else ((s.modHost p (fun h => { h with waiting := dropAt h.waiting i })).hostPerform p t).getD s

/-- A transaction reaches a port: refused with the first status that applies, or accepted; one that releases waits for the
flush behind the client's earlier relaxed ones, any other goes at once if it may. -/
def State.hostArrive (s : State) (p : Nat) (t : HostTx) (kind : Nat) : State :=
  let st := s.hostStatus p t kind
  if st ≠ 0 then s.respond p t st []
  else
    let u := s.modHost p (fun h => { h with waiting := h.waiting ++ [t] })
    if txReleases t then u else u.hostGo p (s.host p).waiting.length

/-- A port accepts transactions once it is ready (18 R416), and holds at most 16,384 (R404). -/
def State.hostOpen (s : State) (p : Nat) : Bool :=
  decide (p < 2) && s.ready.getLsbD (24 + p) && decide ((s.host p).waiting.length + (s.host p).pushed.length < 16384)

/-- HOST_READ (18 R403, R404, R406, R407). -/
def execHostRead (port : Nat) (t : HostTx) (s : State) : Host.Outcome State Fault Refusal :=
  whenOk (s.hostOpen port) s (s.hostArrive port t 1)

/-- HOST_WRITE (18 R403, R404, R406). -/
def execHostWrite (port : Nat) (t : HostTx) (s : State) : Host.Outcome State Fault Refusal :=
  whenOk (s.hostOpen port) s (s.hostArrive port t 2)

/-- HOST_PUSH (18 R403, R404, R406). -/
def execHostPush (port : Nat) (t : HostTx) (s : State) : Host.Outcome State Fault Refusal :=
  whenOk (s.hostOpen port) s (s.hostArrive port t 3)

/-- HOST_CREDIT (18 R403, R408). -/
def execHostCredit (port : Nat) (t : HostTx) (s : State) : Host.Outcome State Fault Refusal :=
  whenOk (s.hostOpen port) s (s.hostArrive port t 4)

/-- HOST_FLUSH (18 R406). -/
def execHostFlush (port : Nat) (t : HostTx) (s : State) : Host.Outcome State Fault Refusal :=
  whenOk (s.hostOpen port) s (s.hostArrive port t 5)

/-- A waiting transaction goes on (model's own turn). -/
def execHostRetry (port i : Nat) (s : State) : Host.Outcome State Fault Refusal := .next (s.hostGo port i)

/-- A push is answered once its item is accepted (18 R404; model's own turn). -/
def execHostPushed (port i : Nat) (s : State) : Host.Outcome State Fault Refusal :=
  match (s.host port).pushed[i]? with
  | none => .next s
  | some (t, seq) =>
    let there := match mget s.queues t.queue with | some q => q.flight.any (fun f => decide (f.seq = seq)) | none => false
    whenOk (!there) s ((s.modHost port (fun h => { h with pushed := dropAt h.pushed i })).respond port t 0 [])

/-! ### Flush acknowledgements (18 R406, R408) -/

/-- The tail indices of a client's queues that a flush covers are written. -/
def State.writeTails (s : State) (p client : Nat) : State :=
  let due := (s.host p).tails.filter (fun t => decide (t.1 = client))
  let s := s.modHost p (fun h => { h with tails := h.tails.filter (fun t => decide (t.1 ≠ client)) })
  due.foldl (fun s t => match mget s.queues t.2 with
    | none => s
    | some q => match (q.clientBranch client).bind (fun i => q.branches[i]?) with
      | none => s
      | some b => { s with outbox := s.outbox ++ [.tail client t.2 (b.tail % 2 ^ 64)] }) s

/-- The client's first release that waits. -/
def HostPort.releaseOf (h : HostPort) (client : Nat) : Option Nat :=
  h.waiting.findIdx? (fun t => decide (t.client = client) && txReleases t)

/-- FLUSH_ACK: the release that waits for the client's flush is performed, and the tail indices that wait are written. -/
def execFlushAck (port client : Nat) (s : State) : Host.Outcome State Fault Refusal :=
  let t := s.writeTails port client
  .next (match (t.host port).releaseOf client with | some i => t.hostGo port i | none => t)

/-! ### Reset (18 R409) -/

/-- HOST_LINK_REJOIN: every transaction that a reset cut short completes with status 4 and the new incarnation. -/
def execHostLinkRejoin (port : Nat) (s : State) : Host.Outcome State Fault Refusal :=
  .next ((s.host port).aborted.foldl (fun s t => s.respond port t 4 []) (s.modHost port (fun h => { h with aborted := [] })))

end Sys2Proof.Machine
end

