-- ==== Sys2Proof/Machine/DeviceWrites.lean ====
section
/-!
DEFINITION. Writes of the device-register space (18 R418), and the configuration that Lemnani writes through it outside the
ranges laid down: partitions, slice maps, code-table sets, cluster registers, routes, communicators, shares (03 R90, R98,
12 R282, 15 R330, R331, R348, 17 R395). The spec gives that configuration no offsets: those used here are the model's
(log 12).
-/

namespace Sys2Proof.Machine

/-! ### Configuration outside the ranges of R418 (log 12) -/

/-- A partition that has not been created. -/
def Partition.empty : Partition := ⟨0, 0, 0, 0, 0, 0, 0, 31, 0, none, [], false, []⟩

/-- Changes a partition. -/
def State.modPart (s : State) (p : Nat) (f : Partition → Partition) : State :=
  { s with parts := mset s.parts p (f (mgetD s.parts p Partition.empty)) }

/-- The clusters of a partition. -/
def Partition.clusters (p : Partition) : List Nat := regionClusters (32 * p.row0 + p.col0) p.rows p.cols

/-- Two rectangles share a cluster. -/
def Partition.meets (p q : Partition) : Bool := overlaps p.row0 p.rows q.row0 q.rows && overlaps p.col0 p.cols q.col0 q.cols

/-- A service queue of Lemnani: its items are popped by a supervisor core (17 R380, R395). -/
def serviceQueue (part words log2 window prio core : Nat) : Queue :=
  { part := part, region := none, words := words, log2 := log2, window := window, chan := 0, prio := prio, cls := 0, merge := false
    relays := [], branches := [⟨.core core 0, (Party.core core 0).router, [], 0, 0⟩], subs := [], mprod := [], credits := [], entryQ := false, isOpen := true
    named := [], flight := [], returns := [], order := [], beyond := [], farConsumers := 0, farRelays := 0 }

/-- Each core's binding to the system-call queue holds credits, starting at the window (03 R86). -/
def Queue.bindCallers (q : Queue) (cores : List Nat) : Queue :=
  { q with credits := cores.map (fun c => (callParty c, q.window)) }

/-- The rectangle of a partition: one that overlaps another is not written. Its clusters become the partition's. -/
def State.setRectangle (s : State) (p : Nat) (v : Nat) : State :=
  let pt := { mgetD s.parts p Partition.empty with
    row0 := bitsAt v 0 5, col0 := bitsAt v 8 5, rows := bitsAt v 16 6, cols := bitsAt v 24 6 }
  if s.parts.any (fun (q : Nat × Partition) => decide (q.1 ≠ p) && q.2.meets pt) then s
  else pt.clusters.foldl (fun s k => s.modCl k (fun c => { c with part := p })) { s with parts := mset s.parts p pt }

/-- A partition's priority ceiling loads YCEIL of its clusters (17 R395). -/
def State.setCeiling (s : State) (p : Nat) (v : Nat) : State :=
  let t := s.modPart p (fun q => { q with ceil := v % 32 })
  (mgetD t.parts p Partition.empty).clusters.foldl (fun s k => s.modCl k (fun c => { c with yceil := BitVec.ofNat 5 v })) t

/-- The fault-service queue: item size 32, priority 31 (17 R380). -/
def State.setFaultQueue (s : State) (p v : Nat) : State :=
  let t := s.modPart p (fun q => { q with faultQ := v % 65536 })
  t.setQ (v % 65536) (serviceQueue p 4 (bitsAt v 16 4) (bitsAt v 20 16) 31 (bitsAt v 36 14))

/-- The system-call queue: item size 64, and YSYSQ of the partition's clusters (17 R395, 03 R90). -/
def State.setCallQueue (s : State) (p v : Nat) : State :=
  let id := v % 65536
  let isOn := decide (bitsAt v 63 1 = 1)
  let t := s.modPart p (fun q => { q with sysQ := if isOn then some id else none })
  let held := (mgetD t.parts p Partition.empty).clusters
  let cores := held.flatMap (fun k => (List.range 8).map (fun i => 8 * k + i))
  let t := held.foldl (fun s k => s.modCl k (fun c => { c with sysq := if isOn then some id else none })) t
  if isOn then t.setQ id ((serviceQueue p 8 (bitsAt v 16 4) (bitsAt v 20 16) 0 (bitsAt v 36 14)).bindCallers cores) else t

/-- A permitted target is listed, or taken off the list (17 R395). -/
def State.setPermitted (s : State) (p v : Nat) : State :=
  let e := (bitsAt v 16 12, v % 65536)
  let listed := decide (bitsAt v 63 1 = 1)
  s.modPart p (fun q => { q with permitted := q.permitted.filter (fun x => decide (x ≠ e)) ++ (if listed then [e] else []) })

/-- A page range of a partition's HBM share (17 R395): first 64 KiB page, pages, and bit 63 to list or to take out. -/
def setShare (l : List (Nat × Nat)) (v : Nat) : List (Nat × Nat) :=
  let e := (bitsAt v 0 24, bitsAt v 24 24)
  let l := l.filter (fun r => decide (r ≠ e))
  if bitsAt v 63 1 = 1 then l ++ [e] else l

/-- A partition attribute (17 R395): field 0 rectangle, 1 root table, 2 identifier range, 3 ceiling, 4 fault queue, 5
system-call queue, 6 a permitted target, 7 express rights, 8 + e shares of engine e (15 R331). -/
def State.setPartition (s : State) (p field v : Nat) : State :=
  if field = 0 then s.setRectangle p v
  else if field = 1 then s.modPart p (fun q => { q with root := v % 2 ^ 48 })
  else if field = 2 then s.modPart p (fun q => { q with qLo := v % 65536, qN := bitsAt v 16 17 })
  else if field = 3 then s.setCeiling p v
  else if field = 4 then s.setFaultQueue p v
  else if field = 5 then s.setCallQueue p v
  else if field = 6 then s.setPermitted p v
  else if field = 7 then s.modPart p (fun q => { q with express := decide (v % 2 = 1) })
  else if field < 12 then
    s.modEngine (field - 8) (fun g => { g with shares := mset g.shares p (bitsAt v 0 15, bitsAt v 16 13, bitsAt v 32 25) })
  else if field = 12 then s.modPart p (fun q => { q with hbm := setShare q.hbm v })
  else s

/-- A cluster register as Lemnani writes it (03 R90); YREGION and YSYSQ follow the region and the partition. -/
def Cluster.configure (k : Cluster) (n : Nat) (v : Word) : Cluster :=
  if n = 0x81 then { k with yagei := v.setWidth 16 }
  else if n = 0x82 then { k with yceil := v.setWidth 5 }
  else k.writeSys n v

/-- A rank of a communicator is mapped to a partition of this chip, or to another chip (15 R330). -/
def Comm.map (m : Comm) (rank v : Nat) : Comm :=
  let ranks := m.ranks.filter (fun r => decide (r.1 ≠ rank))
  let far := m.far.filter (fun r => decide (r.1 ≠ rank))
  if bitsAt v 63 1 = 0 then ⟨ranks, far⟩
  else if bitsAt v 62 1 = 0 then ⟨ranks ++ [(rank, v % 16)], far⟩
  else ⟨ranks, far ++ [(rank, v % 4096)]⟩

/-- A communicator with no rank is deleted. -/
def State.mapRank (s : State) (comm rank v : Nat) : State :=
  let m := Comm.map (mgetD s.comms comm ⟨[], []⟩) rank v
  { s with comms := if m.ranks.isEmpty && m.far.isEmpty then mdel s.comms comm else mset s.comms comm m }

/-- One or two ports of a destination chip; what waits goes by the new route (15 R348). -/
def State.setRoute (s : State) (chip v : Nat) : State :=
  let ports := (if bitsAt v 3 1 = 1 then [v % 8] else []) ++ (if bitsAt v 7 1 = 1 then [bitsAt v 4 3] else [])
  ({ s with routes := mset s.routes chip ports } : State).reroute

/-- A write outside the ranges of R418, by bits 47:40 of its offset. -/
def State.configWrite (s : State) (off : Nat) (v : Word) : State :=
  let o := off % 2 ^ 40
  let w := o / 8
  match off / 2 ^ 40 with
  | 1 => if w / 16 < 16 then s.setPartition (w / 16) (w % 16) v.toNat else s
  | 2 => s.modCl (w / 16) (fun k => { k with slice := mset k.slice (w % 16) ⟨v.getLsbD 0, v.getLsbD 1, v.getLsbD 2⟩ })
  | 3 => s.modCl (w / 512) (fun k => { k with codes := mset k.codes (w % 512) (v.setWidth 32) })
  | 4 => s.modCl (w / 256) (fun k => k.configure (w % 256) v)
  | 5 => s.setRoute (w % 4096) v.toNat
  | 6 => s.mapRank (w / 2 ^ 20) (w % 2 ^ 20) v.toNat
  | 7 => if w = 0 then { s with supRoot := v.toNat % 2 ^ 48 } else { s with chip := v.setWidth 12 }
  | _ => s

/-! ### The registers of R418 -/

/-- A range entry's word without its reserved bits (15 R354). -/
def State.setRange (s : State) (i w : Nat) (v : Word) : State :=
  let e := mgetD s.ranges i ⟨0, 0⟩
  { s with ranges := mset s.ranges i (if w = 0 then { e with w0 := v &&& 0xfffff0f000000000 } else { e with w1 := v &&& ~~~255 }) }

/-- A client entry's word without its reserved bits (18 R402). -/
def State.setClient (s : State) (p i w : Nat) (v : Word) : State :=
  s.modHost p (fun h =>
    let e := mgetD h.clients i ⟨0, 0⟩
    { h with clients := mset h.clients i (if w = 0 then { e with w0 := v &&& 0xfffff0f800003fff } else { e with w1 := v }) })

/-- The journal unit's control register (16 R361, R362): Enable is set, and Partner is written; pairing begins with a
partner that a port reaches and accepts; one that none reaches is named, and leaves the pair reassigning. -/
def State.journalControl (s : State) (v : Word) : State :=
  let chip := bitsAt v.toNat 52 12
  let t := { s with journal := { s.journal with enable := v.setWidth 16 } }
  match (if chip = s.chip.toNat then none else s.incarnationOf chip) with
  | some inc => t.partnerTo chip inc
  | none =>
    let u := t.journal
    { t with journal := { u with partner := chip, state := if u.state = 1 ∧ chip ≠ u.partner then 2 else u.state
                                 target := if chip ≠ u.partner then 0 else u.target } }

/-- A ring-table entry (16 R361): a ring that is newly assigned holds no records; ring 15 has no source chip. -/
def State.setRing (s : State) (n : Nat) (v : Word) : State :=
  let chip := if n = 15 then 0 else bitsAt v.toNat 52 12
  let inc := bitsAt v.toNat 44 8
  s.modRing n (fun r =>
    if r.valid && v.getLsbD 0 && decide (r.chip = chip) && decide (r.inc = inc) then r
    else { JRing.reset with chip := chip, inc := inc, valid := v.getLsbD 0, slots := if n = 15 then r.slots else [] })

/-- A replay-table word (16 R370). -/
def State.setReplay (s : State) (i w : Nat) (v : Word) : State :=
  let e := mgetD s.replays i Replay.reset
  { s with replays := mset s.replays i (if w = 0 then
      { e with seq := bitsAt v.toNat 16 48, part := bitsAt v.toNat 12 4, valid := v.getLsbD 0 }
    else { e with count := bitsAt v.toNat 32 32, slot := bitsAt v.toNat 0 25 }) }

/-- A write of the 8-byte register at an aligned offset of space 3: read-only registers ignore it (00 R7). -/
def State.deviceWrite (s : State) (off : Nat) (v : Word) : State :=
  let at' (base n : Nat) : Bool := decide (base ≤ off) && decide (off < base + n)
  if at' 0x10000 0x200 then
    (if off % 64 = 8 then s.modStrait ((off - 0x10000) / 64) (fun t => { t with stale := v.toNat }) else s)
  else if at' 0x20000 0x4000 then s.setRange ((off - 0x20000) / 16) (off % 16 / 8) v
  else if off = 0x30000 then { s with logBase := v }
  else if off = 0x40000 then s.journalControl v
  else if at' 0x40108 0x78 then s.setRing ((off - 0x40100) / 8) v
  else if at' 0x41000 0x10000 then s.setReplay ((off - 0x41000) / 16) (off % 16 / 8) v
  else if at' 0x90000 0x80 then
    (if v.getLsbD 63 then s.tryFreeze ((off - 0x90000) / 8) v else s.tryRestore ((off - 0x90000) / 8) v)
  else if at' 0xa0000 0x2000 then s.powerRequest ((off - 0xa0000) / 8) v.toNat
  else if at' 0x300000 0x2000 then s.setClient ((off - 0x300000) / 0x1000) (off % 0x1000 / 16) (off % 16 / 8) v
  else if at' 0x310000 0x200 then s.modIsland ((off - 0x310000) / 8) (fun i => { i with request := min (v.toNat % 16) 5 })
  else if off = 0x320000 then { s with cap := min (v.toNat % 65536) 1900 }
  else if at' 0x400000 0x20000 then
    s.action ((off - 0x400000) / 0x80) (off % 0x80 / 8) (bitsAt v.toNat 8 8) (bitsAt v.toNat 1 3)
  else if 2 ^ 40 ≤ off then s.configWrite off v
  else s

/-- DEVICE_REGISTER_WRITE (18 R418): only supervisor cores and Lemnani reach these registers. -/
def execDeviceRegisterWrite (offset : Nat) (value : Word) (s : State) : Host.Outcome State Fault Refusal :=
  .next (s.deviceWrite (offset / 8 * 8) value)

end Sys2Proof.Machine
end

