-- ==== Sys2Proof/Machine/MatrixInsns.lean ====
section
/-!
DEFINITION. Matrix instructions as they issue: majors 0x38 and 0x39 (07 R175-R184). The unit runs the commands
(Machine/MatrixUnit.lean).
-/

namespace Sys2Proof.Machine

/-! ### Geometry (07 R177) -/

/-- Bits of an element in a store operand: K3 and K2 take a byte, four-bit formats half a byte. -/
def storeBits (t : Fmt) : Nat := laneBits t

/-- Bytes of a row of `cols` elements of `bits` bits. -/
def rowBytes (bits cols : Nat) : Nat := (cols * bits + 7) / 8

/-- The byte offset of row r from the base. -/
def Geo.rowOff (g : Geo) (r : Nat) : Nat :=
  r / 16 * (if g.band = 0 then 16 * g.pitch else 32 * g.band) + r % 16 * g.pitch + r % 16 * g.rot % 32 * 32

/-- Bytes from the base, which is the lowest byte, to the highest byte of rows of `n` bytes. -/
def Geo.span (g : Geo) (n : Nat) : Nat := ((List.range g.rows).map (fun r => g.rowOff r + n)).foldl max 0

/-- The rows of an operand, `n` bytes each, at slice offset `base`: offset and length (11 R277). -/
def Geo.rowRanges (g : Geo) (base n : Nat) : List (Nat × Nat) := (List.range g.rows).map (fun r => (base + g.rowOff r, n))

/-- The geometry word's fields; base, scale and rounding are filled in by the command. -/
def Geo.ofWord (w : Word) : Geo :=
  let x := w.toNat
  { base := 0, pitch := bitsAt x 48 16, band := bitsAt x 32 16, rot := bitsAt x 29 3, rows := bitsAt x 8 8 + 1,
    cols := bitsAt x 0 8 + 1, scale := 0, rm := .rne }

/-- Reserved bits are 0, and F and I only where the command uses them. -/
def geoOk (w : Word) (useF useI : Bool) : Bool :=
  let x := w.toNat
  decide (bitsAt x 16 6 = 0) && (useF || decide (bitsAt x 23 1 = 0)) && (useI || decide (bitsAt x 22 1 = 0))

/-- Reads a store operand: base, geometry word, checks (operand-range, access-kind), channel (10 R263, R264). -/
def readGeo (base g : Word) (bits : Nat) (useF useI : Bool) : M Geo := do
  require (geoOk g useF useI) .operandRange g
  let s ← get
  let geo := Geo.ofWord g
  match s.ownSlice s.cur base (geo.span (rowBytes bits geo.cols)) with
  | none => fault .accessKind base
  | some off =>
    let cl := s.cl (clusterOf s.cur)
    let ch := cl.getChan (bitsAt g.toNat 24 5)
    pure { geo with base := off, scale := cl.getZ ch.scale, rm := ch.rm }

/-- A store operand named by a register pair. -/
def readGeoPair (r : Reg) (bits : Nat) (useF useI : Bool) : M (Word × Word × Geo) := do
  let base ← readX r
  let g ← readX (r + 1)
  let geo ← readGeo base g bits useF useI
  pure (base, g, geo)

/-! ### Tiles (07 R176, 11 R274, R275) -/

/-- The tile that handle `r` is bound to. -/
def State.tileOf (s : State) (c : Nat) (r : Reg) : Option (Nat × Tile) :=
  match mget (s.core c).a r.toNat with
  | none => none
  | some t => match mget (s.cl (clusterOf c)).tiles t with | some k => some (t, k) | none => none

/-- Accumulator rows of a shape. -/
def tileRows (m n : Nat) : Nat := m * ((n + 31) / 32)

/-- The `n` lowest-numbered free rows, or none. -/
def Cluster.takeRows (k : Cluster) (clk n : Nat) : Option (List Nat) :=
  let free := (k.freeRows clk).take n
  if free.length = n then some free else none

/-- Rows made zero. -/
def Cluster.zeroRows (k : Cluster) (rows : List Nat) : Cluster := { k with acc := rows.foldl (fun m r => mset m r 0) k.acc }

/-- Removes a tile and frees its rows. -/
def Cluster.freeTile (k : Cluster) (t clk : Nat) : Cluster :=
  match mget k.tiles t with
  | some tl => { k with tiles := mdel k.tiles t, freed := tl.rows.foldl (fun m r => mset m r clk) k.freed }
  | none => k

/-- The kind of a format's products. -/
def tileKindOf (t : Fmt) : TileKind := if t.isFloat then .float else .int

/-- A conversion to T suits a tile's kind (07 R181). -/
def storeFmtOk (k : TileKind) (t : Fmt) : Bool := decide (k ≠ .int) || decide (t = .f32) || !t.isFloat

/-! ### Entry into the command queue (07 R175) -/

/-- Enters a command: stalls while the core's four-entry queue, the token or the footprint table is full. -/
def enterMatrix (kind : MatKind) (tile : Nat) (rows : List Nat) (tm tn : Nat) (tkind : TileKind) (token : Reg3)
    (reads writes : List (Nat × Nat)) : M Unit := do
  let s ← get
  let n := s.cur % 8
  let q := mgetD (s.cl (clusterOf s.cur)).mat.queues n []
  await (decide ((q.filter (fun c => c.doneAt.isNone)).length < 4))
  let id ← enterAsync token.toNat true true reads writes
  let cmd : MatCmd := { id := id, kind := kind, tile := tile, rows := rows, tm := tm, tn := tn, tkind := tkind,
                        token := token.toNat, prio := (s.core s.cur).mprio, pass := 0, fetched := false, aBuf := [],
                        bBuf := [], checked := false, lastFetched := false, lines := none, stage := [], since := s.clk, doneAt := none,
                        word := s.issue.word }
  modClHere (fun k => { k with mat := { k.mat with queues := mset k.mat.queues n (mgetD k.mat.queues n [] ++ [cmd]) } })

/-- Binds a handle to a new tile of the activation and gives its number. -/
def bindTile (r : Reg) (t : Tile) : M Nat := do
  let s ← get
  let n := (s.cl (clusterOf s.cur)).nextTile
  modClHere (fun k => { k with tiles := mset k.tiles n t, nextTile := n + 1 })
  modHere (fun k => { k with a := mset k.a r.toNat n })
  pure n

/-- A footprint extent of a store operand. -/
def geoRange (base : Word) (g : Geo) (bits : Nat) : Nat × Nat := (base.toNat, g.span (rowBytes bits g.cols))

/-! ### The instructions -/

/-- MZERO: a fresh tile at issue; the old one is released at completion (07 R178, 11 R275). -/
def opMzero (ad : Reg) (k : Reg3) : M Unit := do
  let s ← get
  let old := (s.tileOf s.cur ad).map (fun t => t.1)
  let n ← bindTile ad ⟨[], 0, 0, .none, 0, (s.core s.cur).owner⟩
  enterMatrix (.mzero old) n [] 0 0 .none k [] []

/-- MSTOR (07 R178, R181). -/
def opMstor (aa b : Reg) (t : Fmt) (k : Reg3) : M Unit := do
  let s ← get
  match s.tileOf s.cur aa with
  | none => fault .tileState (BitVec.ofNat 64 aa.toNat)
  | some (n, tl) => do
    let (base, gw, g) ← readGeoPair b (storeBits t) true false
    require (storeFmtOk tl.kind t) .tileState (BitVec.ofNat 64 aa.toNat)
    let free := gw.getLsbD 23
    enterMatrix (.mstor t g free) n tl.rows tl.m tl.n tl.kind k [] [geoRange base g (storeBits t)]
    if free then modHere (fun c => { c with a := mdel c.a aa.toNat }) else pure ()

/-- MLOAD: shape and rows at issue (07 R183, 11 R275). -/
def opMload (ad b : Reg) (k : Reg3) : M Unit := do
  let (base, gw, g) ← readGeoPair b 32 false true
  let s ← get
  let cl := s.cl (clusterOf s.cur)
  let old := s.tileOf s.cur ad
  let held := (old.map (fun t => t.2.rows)).getD []
  let need := tileRows g.rows g.cols
  match cl.takeRows s.clk (need - held.length) with
  | none => fault .tileSpace (BitVec.ofNat 64 ad.toNat)
  | some more => do
    let rows := sortOn id (held.take need ++ more)
    let kind : TileKind := if gw.getLsbD 22 then .int else .float
    match old with
    | some (o, tl) => modClHere (fun c => { c with tiles := mset c.tiles o { tl with rows := held.drop need } })
    | none => pure ()
    let n ← bindTile ad ⟨rows, g.rows, g.cols, kind, 0, (s.core s.cur).owner⟩
    enterMatrix (.mload g (old.map (fun t => t.1))) n rows g.rows g.cols kind k [geoRange base g 32] []

/-- One operand of MMAC: a register panel, or a store operand with its range. -/
def readPanel (r : Reg) (store : Bool) (t : Fmt) : M (Option Vec × Option Geo × List (Nat × Nat) × Word) :=
  if store then do
    let (base, gw, g) ← readGeoPair r (storeBits t) false false
    pure (none, some { g with scale := if t.isFloat then g.scale else 0 }, [geoRange base g (storeBits t)], gw)
  else do
    let v ← readV r
    pure (some v, none, [], 0)

/-- MMAC's checks in the order of 07 R179, and its issue. -/
def opMmac (ad a b : Reg) (t : Fmt) (aSt bSt sat : Bool) (k : Reg3) : M Unit := do
  let s ← get
  let handle := BitVec.ofNat 64 ad.toNat
  match s.tileOf s.cur ad with
  | none => fault .tileState handle
  | some (n, tl) => do
    require (decide (tl.kind = .none) || decide (tl.kind = tileKindOf t)) .tileState handle
    let (va, ga, ra, _) ← readPanel a aSt t
    let (vb, gb, rb, wb) ← readPanel b bSt t
    let q := laneCount t / 4
    let (m, ka) := match ga with | some g => (g.rows, g.cols) | none => (4, q)
    let (kb, nn) := match gb with | some g => (g.rows, g.cols) | none => (q, 4)
    require (decide (ka = kb)) .operandRange wb
    require (decide (tl.m = 0) || (decide (tl.m = m) && decide (tl.n = nn))) .operandRange wb
    let mk := MatKind.mmac t sat va vb ga gb m nn ka
    if tl.m = 0 then
      match (s.cl (clusterOf s.cur)).takeRows s.clk (tileRows m nn) with
      | none => fault .tileSpace handle
      | some rows => do
        modClHere (fun c => { c.zeroRows rows with tiles := mset c.tiles n { tl with rows := rows, m := m, n := nn, kind := tileKindOf t } })
        enterMatrix mk n rows m nn (tileKindOf t) k (ra ++ rb) []
    else enterMatrix mk n tl.rows tl.m tl.n (tileKindOf t) k (ra ++ rb) []

/-- The clusters that a set of MSPAN names, as cluster offsets of the region, without the issuer's (07 R183). -/
def Span.others (sp : Span) (k : Cluster) (cl set : Nat) : List Nat :=
  let all := (List.range sp.rows).flatMap (fun r => (List.range sp.cols).map (fun c => (sp.orow + r, sp.ocol + c)))
  let mine := all.filter (fun p => decide (p.1 * 32 + p.2 ≠ cl) &&
    (decide (set = 2) || (decide (set = 0) && decide (p.1 = cl / 32)) || (decide (set = 1) && decide (p.2 = cl % 32))))
  mine.map (fun p => (p.1 - k.row0) * 32 + (p.2 - k.col0))

/-- The window address of byte `off` in the slice that a cluster offset names. -/
def offsetVa (o off : Nat) : Nat := 0x10000000000 + o / 32 * 2 ^ 25 + o % 32 * 2 ^ 20 + off

/-- The range from the lowest to the highest byte of ranges. -/
def hull (l : List (Nat × Nat)) : List (Nat × Nat) :=
  match l with
  | [] => []
  | r :: rest =>
    let lo := rest.foldl (fun a x => min a x.1) r.1
    let hi := rest.foldl (fun a x => max a (x.1 + x.2)) (r.1 + r.2)
    [(lo, hi - lo)]

/-- MSPAN (07 R183). -/
def opMspan (a : Reg) (k : Reg3) : M Unit := do
  let s ← get
  match (s.running s.cur).filter (fun x => decide (x.kind = 4)) |>.bind (fun x => x.span) |>.bind (fun id => mget s.spans id) with
  | none => fault .spanState
  | some sp => do
    let va ← readX a
    let ws ← readLocal va 32 4
    let src := nth ws 0 0
    let gw := nth ws 1 0
    let w2 := nth ws 2 0
    require (decide (bitsAt gw.toNat 24 5 = 0)) .operandRange gw
    let set := bitsAt w2.toNat 62 2
    require (decide (set ≠ 3) && decide (bitsAt w2.toNat 20 42 = 0)) .operandRange w2
    require (decide (nth ws 3 0 = 0)) .operandRange (nth ws 3 0)
    let g ← readGeo src gw 256 false false
    let n := g.span (rowBytes 256 g.cols)
    let off := bitsAt w2.toNat 0 20
    require (decide (off + n ≤ 2 ^ 20)) .operandRange w2
    let targets := sp.others (s.cl (clusterOf s.cur)) (clusterOf s.cur) set
    enterMatrix (.mspan g off targets) 0 [] 0 0 .none k [(src.toNat, n)] (hull (targets.map (fun o => (offsetVa o off, n))))

/-- MPRI, for commands issued after it (07 R178). -/
def opMpri (a : Reg) : M Unit := do
  let v ← readX a
  require (decide (v.toNat ≤ 31)) .operandRange v
  let s ← get
  modHere (fun k => { k with mprio := min v.toNat (s.cl (clusterOf s.cur)).yceil.toNat })

/-! ### Elements (07 R176, R181) -/

/-- Element (i, j) of a tile given by its rows and shape; 0 outside. -/
def Cluster.element (k : Cluster) (rows : List Nat) (m n i j : Nat) : Nat :=
  if i < m ∧ j < n then bitsAt (mgetD k.acc (nth rows (i * ((n + 31) / 32) + j / 32) 0) 0).toNat (32 * (j % 32)) 32 else 0

/-- Conversion targets of MSTOR that saturate (07 R181). -/
def storeSat : Fmt → Bool
  | .e4 => true
  | .k3 => true
  | .k2 => true
  | .q2 => true
  | t => !t.isFloat

/-- A tile element converted as MSTOR converts it (07 R181): raw or saturated for an integer tile, scaled and
rounded for a float one. -/
def storeElem (kind : TileKind) (t : Fmt) (scale : Int) (rm : RMode) (x : Nat) : Nat × BitVec 6 :=
  match kind with
  | .int =>
    if t = .f32 then (x, 0)
    else
      let i : Int := if x < 2 ^ 31 then x else (x : Int) - 2 ^ 32
      convertVal t rm true (.fin (decide (i < 0)) i.natAbs 0)
  | _ => convertVal t rm (storeSat t) (scaleVal (floatVal .f32 x) scale)

/-- MREAD (07 R182): waits for every earlier matrix command of the core. -/
def opMread (vd aa b : Reg) (t : Fmt) : M Unit := do
  let s ← get
  match s.tileOf s.cur aa with
  | none => fault .tileState (BitVec.ofNat 64 aa.toNat)
  | some (_, tl) => do
    let sel ← readX b
    require (decide (bitsAt sel.toNat 21 42 = 0) && (!sel.getLsbD 63 || decide (t = .f32))) .operandRange sel
    require (sel.getLsbD 63 || storeFmtOk tl.kind t) .tileState (BitVec.ofNat 64 aa.toNat)
    let cl := s.cl (clusterOf s.cur)
    await (mgetD cl.mat.queues (s.cur % 8) []).isEmpty
    if sel.getLsbD 63 then writeV vd (tl.flags.setWidth 1024) 0 4
    else
      let ch := cl.getChan (bitsAt sel.toNat 16 5)
      let r := sel.toNat % 256
      let c0 := bitsAt sel.toNat 8 8
      let rs := (List.range (laneCount t)).map (fun l =>
        storeElem tl.kind t (cl.getZ ch.scale) ch.rm (cl.element tl.rows tl.m tl.n r (c0 + l)))
      writeV vd (ofLanes t (rs.map (fun p => p.1))) (orFlags (rs.map (fun p => p.2))) 4

/-! ### Issue -/

/-- Issues MZERO. -/
def execMzero (ad : Reg) (k : Reg3) (s : State) : Host.Outcome State Fault Refusal := issueHalf (opMzero ad k) s

/-- Issues MSTOR. -/
def execMstor (aa b : Reg) (t : Fmt) (k : Reg3) (s : State) : Host.Outcome State Fault Refusal := issueHalf (opMstor aa b t k) s

/-- Issues MLOAD. -/
def execMload (ad b : Reg) (k : Reg3) (s : State) : Host.Outcome State Fault Refusal := issueHalf (opMload ad b k) s

/-- Issues MMAC. -/
def execMmac (ad a b : Reg) (t : Fmt) (aSt bSt sat : Bool) (k : Reg3) (s : State) : Host.Outcome State Fault Refusal := issueHalf (opMmac ad a b t aSt bSt sat k) s

/-- Issues MSPAN. -/
def execMspan (a : Reg) (k : Reg3) (s : State) : Host.Outcome State Fault Refusal := issueHalf (opMspan a k) s

/-- Issues MPRI. -/
def execMpri (a : Reg) (s : State) : Host.Outcome State Fault Refusal := issueHalf (opMpri a) s

/-- Issues MREAD. -/
def execMread (vd aa b : Reg) (t : Fmt) (s : State) : Host.Outcome State Fault Refusal := issueHalf (opMread vd aa b t) s

end Sys2Proof.Machine
end

