-- ==== Sys2Proof/Machine/MatrixUnit.lean ====
section
/-!
DEFINITION. The matrix unit at work: operand fetch, arbitration, overtaking, passes and completion
(07 R180-R184, 11 R265-R278).
-/

namespace Sys2Proof.Machine

/-! ### Commands and passes (11 R265, R266) -/

/-- Values of k that a k-step covers. -/
def kStepOf (t : Fmt) : Nat :=
  match laneBits t with | 32 => 2 | 16 => 8 | 8 => 32 | _ => 64

/-- Values of k that one rounding covers (07 R180). -/
def kGroup (t : Fmt) : Nat := match laneBits t with | 32 => 1 | 16 => 8 | _ => 32

/-- Quotient rounded up. -/
def ceilDiv (a b : Nat) : Nat := (a + b - 1) / b

/-- Bytes of one row that a data command moves. -/
def MatKind.rowLen : MatKind → Nat
  | .mstor t g _ => rowBytes (storeBits t) g.cols
  | .mload g _ => 4 * g.cols
  | .mspan g _ _ => 32 * g.cols
  | _ => 0

/-- Bytes that a data command moves, to one target. -/
def MatKind.bytes : MatKind → Nat
  | .mstor t g _ => g.rows * rowBytes (storeBits t) g.cols
  | .mload g _ => g.rows * (4 * g.cols)
  | .mspan g _ _ => g.rows * (32 * g.cols)
  | _ => 0

/-- Passes of a command. -/
def MatKind.passes (c : MatKind) : Nat :=
  match c with
  | .mmac _ _ _ _ _ _ m n _ => ceilDiv m 16 * ceilDiv n 16
  | .mzero _ => 1
  | .mspan _ _ ts => ceilDiv c.bytes 1024 * ts.length
  | _ => ceilDiv c.bytes 2048

/-- Clk of a pass. -/
def MatKind.steps (c : MatKind) (p : Nat) : Nat :=
  match c with
  | .mmac t _ _ _ _ _ _ _ k => ceilDiv k (kStepOf t)
  | .mzero _ => 1
  | .mspan _ _ _ => ceilDiv (min 1024 (c.bytes - p % ceilDiv c.bytes 1024 * 1024)) 64
  | _ => ceilDiv (min 2048 (c.bytes - p * 2048)) 128

/-- Row and column of the block of an MMAC's pass. -/
def blockOf (m p : Nat) : Nat × Nat := (p % ceilDiv m 16 * 16, p / ceilDiv m 16 * 16)

/-- The head command of a core: the first with steps still to run. -/
def Matrix.head (x : Matrix) (n : Nat) : Option MatCmd := (mgetD x.queues n []).find? (fun c => c.doneAt.isNone)

/-- The command of a core that the fetcher works for: the first with a pass not yet granted, so that while a command's
last pass runs the fetcher is one pass ahead with the next command (11 R267 and its trace of R272). -/
def Matrix.fetchHead (x : Matrix) (n : Nat) : Option MatCmd :=
  (mgetD x.queues n []).find? (fun c => c.doneAt.isNone && decide (c.pass < c.kind.passes))

/-- Changes a command of a core's queue. -/
def State.modMat (s : State) (cl n id : Nat) (f : MatCmd → MatCmd) : State :=
  s.modCl cl (fun k => { k with mat := { k.mat with
    queues := mset k.mat.queues n ((mgetD k.mat.queues n []).map (fun c => if c.id = id then f c else c)) } })

/-- Removes a command of a core's queue; the next one reaches the head in this clk. -/
def State.dropMat (s : State) (cl n id : Nat) : State :=
  s.modCl cl (fun k => { k with mat := { k.mat with
    queues := mset k.mat.queues n ((mgetD k.mat.queues n []).filter (fun c => decide (c.id ≠ id))) } })

/-- The command that is now at the head starts to wait (11 R270). -/
def State.headSince (s : State) (cl n : Nat) : State :=
  match (s.cl cl).mat.head n with
  | some c => s.modMat cl n c.id (fun c => { c with since := s.clk })
  | none => s

/-- A command ends by R142 (05). -/
def State.failMat (s : State) (cl n : Nat) (c : MatCmd) (status off : Nat) : State :=
  ((s.dropMat cl n c.id).headSince cl n).modCore (cl * 8 + n) (fun k =>
    k.failCommand c.id c.token status (BitVec.ofNat 64 ((s.cl cl).sliceVa cl off)) c.word)

/-- The command is the oldest of its core's queue, the ones that only wait to complete included. -/
def Matrix.isFirst (x : Matrix) (n id : Nat) : Bool := ((mgetD x.queues n []).head?.map (fun c => c.id)) == some id

/-! ### Rights and order (07 R181, R183; 11 R273, R277) -/

/-- Rows of store that a command reads in its own slice: offset and length. -/
def MatCmd.reads (c : MatCmd) : List (Nat × Nat) :=
  match c.kind with
  | .mmac t _ _ _ ga gb _ _ _ =>
    ([ga, gb].filterMap (fun x => x)).flatMap (fun g => g.rowRanges g.base (rowBytes (storeBits t) g.cols))
  | .mload g _ => g.rowRanges g.base (4 * g.cols)
  | .mspan g _ _ => g.rowRanges g.base (32 * g.cols)
  | _ => []

/-- Rows of store that a command of cluster `cl` writes: cluster, offset and length; none where a target lies outside the
region. -/
def MatCmd.writes (c : MatCmd) (k : Cluster) (cl : Nat) : List (Option Nat × Nat × Nat) :=
  match c.kind with
  | .mstor t g _ => (g.rowRanges g.base (rowBytes (storeBits t) g.cols)).map (fun r => (some cl, r))
  | .mspan g off ts => ts.flatMap (fun o => (g.rowRanges off (32 * g.cols)).map (fun r => (k.offsetCluster o, r)))
  | _ => []

/-- Every 64 KiB unit of a range of a slice gives a right. -/
def State.unitsOk (s : State) (cl : Nat) (needR needW : Bool) (r : Nat × Nat) : Bool :=
  (List.range ((r.1 + r.2 - 1) / 65536 - r.1 / 65536 + 1)).all (fun i =>
    let e := mgetD (s.cl cl).slice (r.1 / 65536 + i) SliceMap.none
    rightsOk false e.s e.r e.w needR needW)

/-- The rights that a command checks before it starts. -/
def State.matRights (s : State) (cl : Nat) (c : MatCmd) : Bool :=
  c.reads.all (s.unitsOk cl true false) && (c.writes (s.cl cl) cl).all (fun w => match w.1 with
    | some t => s.unitsOk t false true w.2
    | none => false)

/-- A command may start: no earlier command's extents overlap its own, and no earlier access of its core waits on its
bytes or acquires. -/
def State.matFree (s : State) (cl n : Nat) (c : MatCmd) : Bool :=
  let k := s.core (cl * 8 + n)
  let mine := k.foot.filter (fun f => decide (f.id = c.id))
  !k.footBlocked c.id (mine.flatMap (fun f => f.reads)) (mine.flatMap (fun f => f.writes)) &&
    !s.accessHeld (cl * 8 + n) c.id false (c.reads.map (fun r => (sliceKey cl r.1, r.2))) &&
    !s.accessHeld (cl * 8 + n) c.id true
      ((c.writes (s.cl cl) cl).filterMap (fun w => w.1.map (fun t => (sliceKey t w.2.1, w.2.2))))

/-- A command may make its first access: it is free and has its rights. -/
def State.matStarts (s : State) (cl n : Nat) (c : MatCmd) : Bool := s.matFree cl n c && s.matRights cl c

/-! ### Operand fetch (11 R267) -/

/-- A command that fetches: an MMAC with a store operand. -/
def MatKind.fetches : MatKind → Bool
  | .mmac _ _ _ _ ga gb _ _ _ => ga.isSome || gb.isSome
  | _ => false

/-- A row of a store operand as elements c0 on, `n` of them; columns outside it are 0. -/
def State.geoRow (s : State) (cl core : Nat) (t : Fmt) (g : Geo) (r c0 n : Nat) : List Nat :=
  if g.rows ≤ r then List.replicate n 0
  else
    let v := ofBytes (s.readOwn core (sliceKey cl (g.base + g.rowOff r)) (rowBytes (storeBits t) g.cols))
    (List.range n).map (fun i => if c0 + i < g.cols then bitsAt v (storeBits t * (c0 + i)) (fmtBits t) else 0)

/-- Rows of A over all k, for block row i0: from its register panel or from store. -/
def State.fetchA (s : State) (cl core : Nat) (t : Fmt) (reg : Option Vec) (g : Option Geo) (k i0 : Nat) : List (List Nat) :=
  (List.range 16).map (fun i => match reg, g with
    | some v, _ => (List.range k).map (fun j => if i0 + i < 4 then laneOf t v ((i0 + i) * k + j) else 0)
    | _, some g => s.geoRow cl core t g (i0 + i) 0 k
    | _, _ => [])

/-- Rows of B for block column j0. -/
def State.fetchB (s : State) (cl core : Nat) (t : Fmt) (reg : Option Vec) (g : Option Geo) (k j0 : Nat) : List (List Nat) :=
  (List.range k).map (fun r => match reg, g with
    | some v, _ => (List.range 16).map (fun j => if j0 + j < 4 then laneOf t v (4 * r + (j0 + j)) else 0)
    | _, some g => s.geoRow cl core t g r j0 16
    | _, _ => [])

/-- The rows of store that a pass fetches: offset and length. -/
def fetchRanges (t : Fmt) (ga gb : Option Geo) (i0 j0 k : Nat) : List (Nat × Nat) :=
  let bits := storeBits t
  (match ga with
   | some g => ((List.range 16).filter (fun i => decide (i0 + i < g.rows))).map (fun i => (g.base + g.rowOff (i0 + i), rowBytes bits g.cols))
   | none => []) ++
  (match gb with
   | some g => (List.range k).map (fun r => (g.base + g.rowOff r + j0 * bits / 8, rowBytes bits (min 16 (g.cols - j0))))
   | none => [])

/-- The lines of ranges of a slice, each once (11 R267). -/
def linesOf (rs : List (Nat × Nat)) : List Nat :=
  (rs.flatMap (fun r => (List.range ((r.1 + r.2 + 31) / 32 - r.1 / 32)).map (fun i => r.1 / 32 + i))).foldl
    (fun l x => if l.contains x then l else l ++ [x]) []

/-- Lines read in this clk, at most one from each bank that is free: the lines left over and the banks now used. -/
def fetchLines (used : List Nat) (lines : List Nat) : List Nat × List Nat :=
  lines.foldl (fun x l => if x.2.contains (l % 32) then (x.1 ++ [l], x.2) else (x.1, (l % 32) :: x.2)) ([], used)

/-- Banks that the unit has used in a clk. -/
def Matrix.used (x : Matrix) (clk : Nat) : List Nat := if x.bankClk = clk then x.banks else []

/-- Uses banks in this clk. -/
def State.useBanks (s : State) (cl : Nat) (used : List Nat) : State :=
  s.modCl cl (fun k => { k with mat := { k.mat with banks := used, bankClk := s.clk } })

/-- The core's pass is the one that runs, or is overtaken. -/
def Matrix.busyWith (x : Matrix) (n : Nat) : Bool :=
  (match x.running with | some p => decide (p.core = n) | none => false) ||
    (match x.overtaken with | some p => decide (p.core = n) | none => false)

/-- OPERAND_FETCH (11 R267, R277): lines of the operands of the head command's next pass, at most one from a bank in a
clk; the B lines of one column block are read once. A command that is not yet at the head fetches only with its rights, which
are checked again as it reaches the head (log 15). -/
def execOperandFetch (cluster core : Nat) (s : State) : Host.Outcome State Fault Refusal :=
  if !(s.cl cluster).awake then .next s else
  let n := core % 8
  let c := cluster * 8 + n
  match (s.cl cluster).mat.fetchHead n with
  | none => .next s
  | some cmd =>
    match cmd.kind with
    | .mmac t _ va vb ga gb m _ k =>
      let (i0, j0) := blockOf m cmd.pass
      let ready := cmd.kind.fetches && !cmd.fetched && decide (cmd.pass < cmd.kind.passes) &&
        (decide (cmd.pass ≠ 0) || cmd.checked || s.matStarts cluster n cmd)
      let mayFail := (s.cl cluster).mat.isFirst n cmd.id && !(s.cl cluster).mat.busyWith n
      let check := cmd.checked || ((s.cl cluster).mat.head n).map (fun h => h.id) == some cmd.id
      if !ready then .next s
      else match (fetchRanges t ga gb i0 j0 k).find? (fun r => s.isPoisoned (sliceKey cluster r.1) r.2) with
        | some r => whenOk mayFail s (s.failMat cluster n cmd 13 r.1)
        | none =>
          let keepB := decide (cmd.pass ≠ 0) && decide ((blockOf m (cmd.pass - 1)).2 = j0)
          let all := linesOf (fetchRanges t ga (if keepB then none else gb) i0 j0 k)
          let (left, used) := fetchLines ((s.cl cluster).mat.used s.clk) (cmd.lines.getD all)
          let s := s.useBanks cluster used
          if !left.isEmpty then .next (s.modMat cluster n cmd.id (fun x => { x with checked := check, lines := some left }))
          else
          let bs := if keepB then cmd.bBuf else s.fetchB cluster c t vb gb k j0
          let as := s.fetchA cluster c t va ga k i0
          .next (s.modMat cluster n cmd.id (fun x => { x with
            fetched := true, checked := check, lines := none, aBuf := as, bBuf := bs
            lastFetched := decide (cmd.pass + 1 = cmd.kind.passes) }))
    | _ => .next s

/-! ### Choosing between cores (11 R270-R272) -/

/-- A core is ready: its head command has a pass to run whose operands are at hand, and may start. -/
def State.matReady (s : State) (cl n : Nat) : Bool :=
  let x := (s.cl cl).mat
  match x.head n with
  | none => false
  | some c =>
    decide (c.pass < c.kind.passes) && !x.busyWith n && (!c.kind.fetches || c.fetched) &&
      (decide (c.pass ≠ 0) || c.checked || s.matStarts cl n c)

/-- The effective priority of a core's head command. -/
def State.matEff (s : State) (cl n : Nat) : Nat :=
  match (s.cl cl).mat.head n with
  | some c => effective c.prio (s.clk - c.since) (s.cl cl)
  | none => 0

/-- The weight of a core. -/
def State.matWeight (s : State) (cl n : Nat) : Nat := 1 + s.matEff cl n / 8

/-- Cores that are ready. -/
def State.readyCores (s : State) (cl : Nat) : List Nat := (List.range 8).filter (s.matReady cl)

/-- Counts of a round, with one for each core that has become ready in it. -/
def State.withCounts (s : State) (cl : Nat) (g : FMap Nat) : FMap Nat :=
  (s.readyCores cl).foldl (fun g n => if (mget g n).isSome then g else mset g n (s.matWeight cl n)) g

/-- The core that the arbiter picks, and the counts with which it does so: this round's, or a new round's. -/
def State.matPick (s : State) (cl : Nat) : Option (Nat × FMap Nat) :=
  let g := s.withCounts cl (s.cl cl).mat.grants
  let can (g : FMap Nat) (lo n : Nat) : Bool := decide (lo ≤ n) && decide (0 < mgetD g n 0)
  match (s.readyCores cl).find? (can g (s.cl cl).mat.ptr) with
  | some n => some (n, g)
  | none =>
    let g := s.withCounts cl []
    ((s.readyCores cl).find? (can g 0)).map (fun n => (n, g))

/-- Puts a core's next pass into the unit. A command's first pass makes an MLOAD's rows zero (07 R183). -/
def State.startPass (s : State) (cl n : Nat) (overtaking : Bool) (g : FMap Nat) (ptr : Nat) : State :=
  match (s.cl cl).mat.head n with
  | none => s
  | some c =>
    let (as, bs) := match c.kind with
      | .mmac t _ va vb ga gb m _ k =>
        if c.kind.fetches then (c.aBuf, c.bBuf)
        else (s.fetchA cl (cl * 8 + n) t va ga k (blockOf m c.pass).1, s.fetchB cl (cl * 8 + n) t vb gb k (blockOf m c.pass).2)
      | _ => ([], [])
    let p : Pass := { core := n, num := c.pass, kPos := 0, steps := c.kind.steps c.pass, taken := 0, overtaking := overtaking,
                      eff := s.matEff cl n, aBuf := as, bBuf := bs, sums := [] }
    let t := s.modMat cl n c.id (fun c => { c with pass := c.pass + 1, fetched := false, checked := true })
    t.modCl cl (fun k =>
      let k := if c.pass = 0 then (match c.kind with | .mload _ _ => k.zeroRows c.rows | _ => k) else k
      { k with mat := { k.mat with
        overtaken := if overtaking then k.mat.running else k.mat.overtaken, running := some p
        grants := mset g n (mgetD g n 0 - 1), ptr := ptr } })

/-- The command of a core is an MMAC. -/
def Matrix.isMmac (x : Matrix) (n : Nat) : Bool :=
  match x.head n with | some c => (match c.kind with | .mmac _ _ _ _ _ _ _ _ _ => true | _ => false) | none => false

/-- The core that overtakes the running pass, if one may (11 R272). -/
def State.overtaker (s : State) (cl : Nat) (p : Pass) : Option Nat :=
  let x := (s.cl cl).mat
  if p.overtaking || decide (p.taken = 0) || !x.isMmac p.core then none
  else
    ((s.readyCores cl).filter (fun n => x.isMmac n && decide (p.eff + 16 ≤ s.matEff cl n))).foldl
      (fun best n => match best with
        | none => some n
        | some b => if s.matEff cl b < s.matEff cl n then some n else some b) none

/-- A head command that has no pass, an MSPAN without a target, ends; one that lacks a right ends before its first pass, an
MLOAD leaving zero contents (07 R181, R183; 11 R277). -/
def State.settleHead (s : State) (cl n : Nat) : State :=
  match (s.cl cl).mat.head n with
  | none => s
  | some c =>
    if c.pass ≠ 0 ∨ c.checked ∨ !s.matFree cl n c then s
    else if !s.matRights cl c then
      if !(s.cl cl).mat.isFirst n c.id then s
      else
        let t := s.modCl cl (fun k => match c.kind with | .mload _ _ => k.zeroRows c.rows | _ => k)
        t.failMat cl n c 4 (((c.reads ++ (c.writes (s.cl cl) cl).map (fun w => w.2)).head?.map (fun r => r.1)).getD 0)
    else if c.kind.passes = 0 then (s.modMat cl n c.id (fun c => { c with doneAt := some s.clk })).headSince cl n
    else s

/-- MATRIX_PASS_GRANT (11 R271, R272): the heads that have no pass to run end; a core that has become ready takes its count of
the round; and a pass is granted to a free unit, or overtakes the running one. -/
def execMatrixPassGrant (cluster : Nat) (s : State) : Host.Outcome State Fault Refusal :=
  if !(s.cl cluster).awake then .next s else
  let s := (List.range 8).foldl (fun s n => s.settleHead cluster n) s
  let g := s.withCounts cluster (s.cl cluster).mat.grants
  let s := s.modCl cluster (fun k => { k with mat := { k.mat with grants := g } })
  let x := (s.cl cluster).mat
  match x.running with
  | some p => match s.overtaker cluster p with
    | some n => .next (s.startPass cluster n true g x.ptr)
    | none => .next s
  | none =>
    if x.overtaken.isSome then .next s
    else match s.matPick cluster with
      | some (n, g) => .next (s.startPass cluster n false g n)
      | none => .next s

/-! ### Arithmetic (07 R180, 11 R276) -/

/-- One rounding of a float element: C plus a group of products; only NV and OF are recorded. -/
def macGroup (c : Nat) (ps : List Val) : Nat × BitVec 6 :=
  let v := floatVal .f32 c
  let sum := match ps with | [] => Val.fin false 0 0 | p :: r => r.foldl addVal p
  let clash := match v, sum with | .inf a, .inf b => a != b | _, _ => false
  if sum.isNan || clash then (0x7fc00000, fNV)
  else if v.isNan then (0x7fc00000, 0)
  else
    let r := resultFloat .f32 (addVal v sum) false false
    (r.1, r.2 &&& fOF)

/-- A float element over the values of k of one step, in groups. -/
def macGroups (t : Fmt) : Nat → Nat → List Val → Nat × BitVec 6
  | 0, c, _ => (c, 0)
  | f + 1, c, ps =>
    if ps.isEmpty then (c, 0)
    else
      let r := macGroup c (ps.take (kGroup t))
      let q := macGroups t f r.1 (ps.drop (kGroup t))
      (q.1, r.2 ||| q.2)

/-- An integer element's end: wrap, or saturation with OF (11 R276). -/
def macInt (sat : Bool) (c : Nat) (sum : Int) : Nat × BitVec 6 :=
  let x := (if c < 2 ^ 31 then (c : Int) else (c : Int) - 2 ^ 32) + sum
  let wrap (i : Int) : Nat := (i % (2 ^ 32 : Nat)).toNat
  if sat && decide (2 ^ 31 ≤ x) then (2 ^ 31 - 1, fOF)
  else if sat && decide (x < -(2 ^ 31)) then (2 ^ 31, fOF)
  else (wrap x, 0)

/-- Replaces bits of a number. -/
def putBits (v lo n x : Nat) : Nat := v - bitsAt v lo n * 2 ^ lo + x % 2 ^ n * 2 ^ lo

/-- Sets element (i, j) of a tile of `n` columns. -/
def Cluster.setElement (k : Cluster) (rows : List Nat) (n i j x : Nat) : Cluster :=
  let r := nth rows (i * ceilDiv n 32 + j / 32) 0
  { k with acc := mset k.acc r (BitVec.ofNat 1024 (putBits (mgetD k.acc r 0).toNat (32 * (j % 32)) 32 x)) }

/-- Sets byte b of element (i, j) of a tile of `n` columns. -/
def Cluster.setElementByte (k : Cluster) (rows : List Nat) (n i j b x : Nat) : Cluster :=
  let r := nth rows (i * ceilDiv n 32 + j / 32) 0
  { k with acc := mset k.acc r (BitVec.ofNat 1024 (putBits (mgetD k.acc r 0).toNat (32 * (j % 32) + 8 * b) 8 x)) }

/-- ORs flags into a tile that still exists. -/
def Cluster.tileFlags (k : Cluster) (t : Nat) (f : BitVec 6) : Cluster :=
  match mget k.tiles t with
  | some tl => { k with tiles := mset k.tiles t { tl with flags := tl.flags ||| f } }
  | none => k

/-- One element of a k-step: the products of its values of k from k0 on, `d` of them. -/
def Pass.products (p : Pass) (t : Fmt) (e : Int) (i j k0 d kAll : Nat) : List Val :=
  ((List.range d).filter (fun q => decide (k0 + q < kAll))).map (fun q =>
    scaleVal (mulVal (elemVal t (nth (nth p.aBuf i []) (k0 + q) 0)) (elemVal t (nth (nth p.bBuf (k0 + q) []) j 0))) e)

/-- The integer that products sum to. -/
def intSum (ps : List Val) : Int :=
  (ps.map (fun v => match v with
    | .fin neg m e => (if neg then -1 else 1) * ((m * 2 ^ e.toNat : Nat) : Int)
    | _ => 0)).foldl (fun a b => a + b) 0

/-- Element (i, j) of the running block advances by one k-step. -/
def macElement (c : MatCmd) (t : Fmt) (sat : Bool) (e : Int) (i0 j0 m n kAll i j : Nat) (x : Cluster × Pass) : Cluster × Pass :=
  let (k, p) := x
  if ¬(i0 + i < m ∧ j0 + j < n) then x
  else
    let d := kStepOf t
    let ps := p.products t e i j (p.kPos * d) d kAll
    if t.isFloat then
      let r := macGroups t (d + 1) (k.element c.rows m n (i0 + i) (j0 + j)) ps
      ((k.setElement c.rows n (i0 + i) (j0 + j) r.1).tileFlags c.tile r.2, p)
    else
      let sum := mgetD p.sums (16 * i + j) 0 + intSum ps
      if p.kPos + 1 < p.steps then (k, { p with sums := mset p.sums (16 * i + j) sum })
      else
        let r := macInt sat (k.element c.rows m n (i0 + i) (j0 + j)) sum
        ((k.setElement c.rows n (i0 + i) (j0 + j) r.1).tileFlags c.tile r.2, p)

/-- One k-step of an MMAC pass over its 16 × 16 block (11 R265). -/
def macStep (c : MatCmd) (t : Fmt) (sat : Bool) (e : Int) (m n kAll : Nat) (k : Cluster) (p : Pass) : Cluster × Pass :=
  let (i0, j0) := blockOf m p.num
  (List.range 256).foldl (fun x q => macElement c t sat e i0 j0 m n kAll (q / 16) (q % 16) x) (k, p)

/-! ### Data commands (07 R181, R183; 11 R266, R267) -/

/-- Row r of an operand of `len`-byte rows at `base` has bytes in bank line l. -/
def Geo.covers (g : Geo) (base len l r : Nat) : Bool :=
  decide (base + g.rowOff r < 32 * l + 32) && decide (32 * l < base + g.rowOff r + len)

/-- The bytes of an operand in bank line l, by row and place in the row, in row order. -/
def Geo.inLine (g : Geo) (base len l : Nat) : List (Nat × Nat) :=
  ((List.range g.rows).filter (g.covers base len l)).flatMap (fun r =>
    ((List.range 32).filter (fun i => decide (base + g.rowOff r ≤ 32 * l + i) && decide (32 * l + i < base + g.rowOff r + len))).map
      (fun i => (r, 32 * l + i - (base + g.rowOff r))))

/-- Where in the stream of rows the first byte of bank line l stands; none, where the operand has no byte in it. -/
def Geo.firstOf (g : Geo) (base len l : Nat) : Option Nat :=
  ((List.range g.rows).find? (g.covers base len l)).map (fun r => r * len + (32 * l - (base + g.rowOff r)))

/-- The bank lines of an operand whose first byte is among stream bytes lo to lo + n - 1: each line is accessed once, whole
(11 R273). -/
def Geo.newLines (g : Geo) (base len lo n : Nat) : List Nat :=
  ((List.range ((lo + n - 1) / len + 1 - lo / len)).flatMap (fun i =>
    let r := lo / len + i
    let a := base + g.rowOff r + (lo - r * len)
    let b := base + g.rowOff r + min len (lo + n - r * len)
    (List.range ((b + 31) / 32 - a / 32)).map (fun j => a / 32 + j))).eraseDups.filter (fun l => match g.firstOf base len l with
      | some p => decide (lo ≤ p) && decide (p < lo + n)
      | none => false)

/-- One byte of MSTOR's output, and the flags of the elements in it. -/
def storeByte (k : Cluster) (c : MatCmd) (t : Fmt) (g : Geo) (r b : Nat) : Byte × BitVec 6 :=
  let bits := storeBits t
  let elem (col : Nat) : Nat × BitVec 6 :=
    if col < g.cols then storeElem c.tkind t g.scale g.rm (k.element c.rows c.tm c.tn r col) else (0, 0)
  if bits < 8 then
    let x := elem (2 * b)
    let y := elem (2 * b + 1)
    (BitVec.ofNat 8 (x.1 % 16 + y.1 % 16 * 16), x.2 ||| y.2)
  else
    let x := elem (b / (bits / 8))
    (BitVec.ofNat 8 (bitsAt x.1 (8 * (b % (bits / 8))) 8), x.2)

/-- One clk of an MSTOR pass: bank lines written whole, a higher row's bytes over a lower one's (07 R181). -/
def State.mstorStep (s : State) (cl : Nat) (c : MatCmd) (t : Fmt) (g : Geo) (lines : List Nat) : State :=
  let bs := lines.flatMap (fun l => (g.inLine g.base c.kind.rowLen l).map (fun p =>
    (sliceKey cl (g.base + g.rowOff p.1 + p.2), storeByte (s.cl cl) c t g p.1 p.2)))
  (s.writeParts (bs.map (fun b => (b.1, [b.2.1])))).modCl cl (fun k => k.tileFlags c.tile (orFlags (bs.map (fun b => b.2.2))))

/-- The lowest offset of a poisoned byte that the operand has in bank lines. -/
def State.poisonedIn (s : State) (cl : Nat) (g : Geo) (len : Nat) (lines : List Nat) : Option Nat :=
  (lines.flatMap (fun l => (g.inLine g.base len l).map (fun p => g.base + g.rowOff p.1 + p.2))).find? (fun o =>
    s.isPoisoned (sliceKey cl o) 1)

/-- One clk of an MLOAD pass: the bytes of bank lines into their elements. -/
def State.mloadStep (s : State) (cl core : Nat) (c : MatCmd) (g : Geo) (lines : List Nat) : State :=
  let bs := lines.flatMap (fun l => (g.inLine g.base (4 * g.cols) l).map (fun p =>
    (p, ofBytes (s.readOwn core (sliceKey cl (g.base + g.rowOff p.1 + p.2)) 1))))
  s.modCl cl (fun k => bs.foldl (fun k b => k.setElementByte c.rows c.tn b.1.1 (b.1.2 / 4) (b.1.2 % 4) b.2) k)

/-- One clk of an MSPAN pass: bank lines of the source into the staging, and every line of the target of which all bytes have
been read out of it, whole. `upto` counts the stream bytes whose lines have been read. -/
def State.mspanStep (s : State) (cl core : Nat) (c : MatCmd) (g : Geo) (off target : Nat) (lines : List Nat) (upto : Nat) : State :=
  let len := 32 * g.cols
  let got := lines.flatMap (fun l => (g.inLine g.base len l).map (fun p =>
    (g.rowOff p.1 + p.2, s.readOwn core (sliceKey cl (g.base + g.rowOff p.1 + p.2)) 1)))
  let stage : FMap (List Byte) := got.foldl (fun m b => mset m b.1 b.2) c.stage
  let here (o : Nat) : Bool := match g.firstOf g.base len ((g.base + o) / 32) with
    | some p => decide (p < upto)
    | none => true
  let full := ((got.map (fun b => (off + b.1) / 32)).eraseDups).filter (fun l =>
    (g.inLine off len l).all (fun p => here (g.rowOff p.1 + p.2)))
  let out := stage.filter (fun b => full.contains ((off + b.1) / 32))
  let t := s.modMat cl (core % 8) c.id (fun c => { c with stage := stage.filter (fun b => !full.contains ((off + b.1) / 32)) })
  match (s.cl cl).offsetCluster target with
  | some k => t.writeParts (out.map (fun b => (sliceKey k (off + b.1), b.2)))
  | none => t

/-! ### K-steps and the end of a pass -/

/-- The pass ends: an overtaken pass resumes; a command whose last pass it was completes 6 clk after its last step, and the
next command reaches the head. -/
def State.endPass (s : State) (cl n : Nat) (c : MatCmd) : State :=
  let t := s.modCl cl (fun k => { k with mat := { k.mat with
    running := k.mat.overtaken.map (fun p => { p with taken := 0 }), overtaken := none } })
  if c.kind.passes ≤ c.pass then (t.modMat cl n c.id (fun c => { c with doneAt := some (s.clk + 6) })).headSince cl n
  else t.modMat cl n c.id (fun c => { c with since := s.clk })

/-- The unit drops the pass it runs, whose command has failed. -/
def State.failPass (s : State) (cl n : Nat) (c : MatCmd) (status off : Nat) : State :=
  (s.modCl cl (fun k => { k with mat := { k.mat with running := none } })).failMat cl n c status off

/-- K_STEP: one clk of the running pass (11 R265, R266). -/
def execKStep (cluster : Nat) (s : State) : Host.Outcome State Fault Refusal :=
  if !(s.cl cluster).awake then .next s else
  match (s.cl cluster).mat.running with
  | none => .next s
  | some p =>
    match (s.cl cluster).mat.head p.core with
    | none => .next s
    | some c =>
      let core := cluster * 8 + p.core
      let next (s : State) (p : Pass) : State :=
        let p := { p with kPos := p.kPos + 1, taken := p.taken + 1 }
        if p.kPos < p.steps then s.modCl cluster (fun k => { k with mat := { k.mat with running := some p } })
        else s.endPass cluster p.core c
      let total := c.kind.bytes
      let banks (lines : List Nat) : State := s.useBanks cluster (lines.map (fun l => l % 32))
      let isFirst := (s.cl cluster).mat.isFirst p.core c.id
      match c.kind with
      | .mmac t sat _ _ ga gb m n kAll =>
        let e := (ga.map (fun g => g.scale)).getD 0 + (gb.map (fun g => g.scale)).getD 0
        let (k, q) := macStep c t sat e m n kAll (s.cl cluster) p
        .next (next (s.setCl cluster k) q)
      | .mzero _ => .next (next s p)
      | .mstor t g _ =>
        let lo := p.num * 2048 + p.kPos * 128
        let lines := g.newLines g.base c.kind.rowLen lo (min 128 (total - lo))
        .next (next ((banks lines).mstorStep cluster c t g lines) p)
      | .mload g _ =>
        let lo := p.num * 2048 + p.kPos * 128
        let lines := g.newLines g.base c.kind.rowLen lo (min 128 (total - lo))
        (match s.poisonedIn cluster g c.kind.rowLen lines with
        | some off => whenOk isFirst s (s.failPass cluster p.core c 13 off)
        | none => .next (next ((banks lines).mloadStep cluster core c g lines) p))
      | .mspan g off ts =>
        let per := ceilDiv total 1024
        let lo := p.num % per * 1024 + p.kPos * 64
        let lines := g.newLines g.base c.kind.rowLen lo (min 64 (total - lo))
        match s.poisonedIn cluster g c.kind.rowLen lines with
        | some bad => whenOk isFirst s (s.failPass cluster p.core c 13 bad)
        | none => .next (next ((banks lines).mspanStep cluster core c g off (nth ts (p.num / per) 0) lines (lo + 64)) p)

/-- MATRIX_COMMAND_COMPLETE (07 R175, R184; 11 R275): the oldest command of a core completes, and the rows it gives up
become free. -/
def execMatrixCommandComplete (cluster core : Nat) (s : State) : Host.Outcome State Fault Refusal :=
  if !(s.cl cluster).awake then .next s else
  let n := core % 8
  match mgetD (s.cl cluster).mat.queues n [] with
  | [] => .next s
  | c :: _ =>
    let due := match c.doneAt with | some t => decide (t ≤ s.clk) | none => false
    let freed : Option Nat := match c.kind with
      | .mzero old => old
      | .mload _ old => old
      | .mstor _ _ free => if free then some c.tile else none
      | _ => none
    let t := (s.dropMat cluster n c.id).modCore (cluster * 8 + n) (fun k => k.finish c.id c.token true)
    whenOk due s (match freed with | some o => t.modCl cluster (fun k => k.freeTile o s.clk) | none => t)

end Sys2Proof.Machine
end

