-- ==== Sys2Proof/Machine/Park.lean ====
section
/-!
DEFINITION. Bit transposes and parking: major 0x37, f 4-7 (06 R172-R174).
-/

namespace Sys2Proof.Machine

/-- Element width b of a slice format (06 R172). -/
def sliceBits (t : Fmt) : Nat := fmtBits t

/-- VTRB's result: bit 64j + i is bit j of lane i (06 R172). -/
def bitSlices (t : Fmt) (v : Vec) : Vec :=
  BitVec.ofNat 1024 (packLanes 64 ((List.range (sliceBits t)).map (fun j =>
    packLanes 1 ((List.range 64).map (fun i => bitsAt (laneOf t v i) j 1)))))

/-- VTRBI's result: bit j of lane i is bit 64j + i (06 R172). -/
def unslice (t : Fmt) (v : Vec) : Vec :=
  ofLanes t ((List.range 64).map (fun i => packLanes 1 ((List.range (sliceBits t)).map (fun j => bitsAt v.toNat (64 * j + i) 1))))

/-- VTRB. -/
def opVtrb (vd va : Reg) (t : Fmt) : M Unit := do
  let v ← readV va
  writeV vd (bitSlices t v) 0 4

/-- VTRBI. -/
def opVtrbi (vd va : Reg) (t : Fmt) : M Unit := do
  let v ← readV va
  writeV vd (unslice t v) 0 4

/-- VPARK (06 R174): a row freed in this clk is free from the next (11 R275). -/
def opVpark (xd va : Reg) : M Unit := do
  let v ← readV va
  claimX xd
  let s ← get
  let cl := s.cl (clusterOf s.cur)
  let owner := (s.core s.cur).owner
  if (cl.parks.filter (fun p => decide (p.2 = owner))).length = 32 then writeXLate xd 0x20000 4 .vector
  else match firstFree (cl.rowUsed s.clk) 2048 0 with
    | none => writeXLate xd 0x10000 4 .vector
    | some r => do
      modClHere (fun k => { k with acc := mset k.acc r v, parks := mset k.parks r owner })
      writeXLate xd (0x8000 + BitVec.ofNat 64 r) 4 .vector

/-- VUNPK (06 R174): the handle must be one of this activation's. -/
def opVunpk (vd xa : Reg) : M Unit := do
  let h ← readX xa
  let s ← get
  let cl := s.cl (clusterOf s.cur)
  let r := h.toNat - 0x8000
  require (decide (0x8000 ≤ h.toNat) && decide (h.toNat < 0x8800) && decide (mget cl.parks r = some (s.core s.cur).owner))
    .parkHandle h
  modClHere (fun k => { k with parks := mdel k.parks r, freed := mset k.freed r s.clk })
  writeV vd (mgetD cl.acc r 0) 0 4

/-! ### Issue -/

/-- Issues VTRB. -/
def execVtrb (vd va : Reg) (t : Fmt) (s : State) : Host.Outcome State Fault Refusal := issueHalf (opVtrb vd va t) s

/-- Issues VTRBI. -/
def execVtrbi (vd va : Reg) (t : Fmt) (s : State) : Host.Outcome State Fault Refusal := issueHalf (opVtrbi vd va t) s

/-- Issues VPARK. -/
def execVpark (xd va : Reg) (s : State) : Host.Outcome State Fault Refusal := issueHalf (opVpark xd va) s

/-- Issues VUNPK. -/
def execVunpk (vd xa : Reg) (s : State) : Host.Outcome State Fault Refusal := issueHalf (opVunpk vd xa) s

end Sys2Proof.Machine
end

