-- ==== Sys2Proof/Machine/QueueInsns.lean ====
section
/-!
DEFINITION. Queue instructions: major 0x20 (04 R99-R110).
-/

namespace Sys2Proof.Machine

/-- The port number of a port operand. -/
def portNum (p : Reg) : Nat := p.toNat - 24

/-- The binding of a port operand as it stands before the pair. -/
def portBinding (p : Reg) : M (Option Binding) := do
  let k ← source
  pure (mget k.ports (portNum p))

/-- The binding, if it is open, with its queue (04 R101 status 2 otherwise). -/
def openBinding (p : Reg) : M (Option (Binding × Queue)) := do
  let b ← portBinding p
  let s ← get
  match b with
  | none => pure none
  | some b =>
    match mget s.queues (s.bindKey b) with
    | some q => pure (if q.isOpen then some (b, q) else none)
    | none => pure none

/-- A fault that names a port. -/
def portFault {α : Type} (c : Cause) (p : Reg) : M α := fault c (BitVec.ofNat 64 (portNum p))

/-- QPUSH (04 R105). -/
def opQpush (p b : Reg) : M Unit := do
  match ← openBinding p with
  | none => portFault .queueUnbound p
  | some (bd, q) => do
    require bd.output .queueDirection (BitVec.ofNat 64 (portNum p))
    checkRun b q.words
    let ws ← readAll (runRegs b q.words)
    pushPort (portNum p) bd ws false

/-- QPUSH.NB (04 R105). -/
def opQpushNb (d p b : Reg) : M Unit := do
  match ← openBinding p with
  | none => writeX d 2
  | some (bd, q) => do
    require bd.output .queueDirection (BitVec.ofNat 64 (portNum p))
    checkRun b q.words
    let s ← get
    if q.creditsOf (.core s.cur (portNum p)) = 0 then writeX d 1
    else do
      let ws ← readAll (runRegs b q.words)
      pushPort (portNum p) bd ws false
      writeX d 0

/-- The run that a pop writes, recorded for the pair's conflict check (04 R100). -/
def noteRun (d : Reg) (n : Nat) : M Unit :=
  modIssue (fun i => { i with runs := i.runs ++ ((runRegs d n).map (fun r => r.toNat)).filter (fun r => decide (r ≠ 0)) })

/-- Writes a popped or peeked item into its run. -/
def writeRun (d : Reg) (n : Nat) (ws : List Word) : M Unit := writeAll ((runRegs d n).zip (padWords n ws))

/-- QPOP (04 R106). -/
def opQpop (d p : Reg) : M Unit := do
  match ← openBinding p with
  | none => portFault .queueUnbound p
  | some (bd, q) => do
    require (!bd.output) .queueDirection (BitVec.ofNat 64 (portNum p))
    checkRun d q.words
    noteRun d q.words
    let s ← get
    match s.headFor (s.bindKey bd) s.cur with
    | .marker => stall
    | .closed => portFault .queueClosed p
    | .empty => stall
    | .item ws => do
      modify (fun s => s.popFor (s.bindKey bd) s.cur)
      writeRun d q.words ws

/-- QTRY and QPEEK (04 R106, 09 R227): a QTRY of a closed keyed-merge queue reopens it. -/
def tryOp (pop : Bool) (d p b : Reg) : M Unit := do
  match ← openBinding p with
  | none => writeX b 2
  | some (bd, q) => do
    require (!bd.output) .queueDirection (BitVec.ofNat 64 (portNum p))
    checkRun d q.words
    require (!(runRegs d q.words).contains b) .operandRange (BitVec.ofNat 64 b.toNat)
    noteRun d q.words
    let s ← get
    match s.headFor (s.bindKey bd) s.cur with
    | .marker => writeX b 4
    | .closed => do
      if pop then modify (fun s => s.modQ (s.bindKey bd) Queue.reopen) else pure ()
      writeX b 3
    | .empty => writeX b 1
    | .item ws => do
      if pop then modify (fun s => s.popFor (s.bindKey bd) s.cur) else pure ()
      writeRun d q.words ws
      writeX b 0

/-- QTRY. -/
def opQtry (d p b : Reg) : M Unit := tryOp true d p b

/-- QPEEK. -/
def opQpeek (d p b : Reg) : M Unit := tryOp false d p b

/-- Ends a binding of a port (04 R108). -/
def State.unbind (s : State) (c p : Nat) : State :=
  match mget (s.core c).ports p with
  | none => s
  | some b =>
    (if b.output then s.modQ (s.bindKey b) (fun q => q.endBinding (.core c p)) else s).modCore c
      (fun k => { k with ports := mdel k.ports p })

/-- Binds a port; an output binding starts with the flow window's credits (09 R218), and is remembered for a cut
(08 R209). -/
def State.bind (s : State) (c p : Nat) (b : Binding) : State :=
  let s := if b.output then s.modQ (s.bindKey b) (fun q => q.setCredits (.core c p) q.window) else s
  s.modCore c (fun k =>
    { k with
      ports := mset k.ports p b
      cutState := if b.output && decide (b.chip = s.chip.toNat) then k.cutState.map (fun t => { t with outs := t.outs ++ [b.queue] }) else k.cutState })

/-- A pending result whose destination is the port holds QBIND and QUNB (04 R108). -/
def portSettled (p : Reg) : M Unit := do
  let k ← source
  await (!k.isPending (.x p.toNat))

/-- The partition's queue-identifier range holds a queue (17 R395). -/
def Partition.owns (p : Partition) (q : Nat) : Bool := decide (p.qLo ≤ q) && decide (q < p.qLo + p.qN)

/-- Queue identifiers as read by QBIND (04 R107). -/
def idChip (v : Word) : Nat := bitsAt v.toNat 52 12
def idQueue (v : Word) : Nat := bitsAt v.toNat 0 16
def idClean (v : Word) : Bool := decide (bitsAt v.toNat 16 36 = 0)

/-- QBIND.IN's conditions (04 R108). -/
def State.mayBindIn (s : State) (c p : Nat) (v : Word) : Bool :=
  let k := s.core c
  let q := idQueue v
  idClean v && decide (idChip v = s.chip.toNat) &&
    (match mget s.queues q with | some qu => (qu.branchOf c).isSome | none => false) &&
    (match s.part? (s.cl (clusterOf c)).part with | some pt => isSup c || pt.owns q | none => isSup c) &&
    !k.triggers.any (fun t => decide (t.queue = q)) &&
    !k.ports.any (fun b => decide (b.1 ≠ p) && !b.2.output && decide (b.2.queue = q))

/-- QBIND.OUT's conditions on this chip (04 R108, 09 R225). -/
def State.mayBindOut (s : State) (part : Nat) (sup : Bool) (v : Word) : Bool :=
  let q := idQueue v
  idClean v && (match mget s.queues q with | some qu => !qu.merge | none => false) &&
    (match s.part? part with | some pt => sup || pt.owns q || pt.permitted.any (fun t => decide (t.1 = s.chip.toNat) && decide (t.2 = q)) | none => sup)

/-- QBIND.IN (04 R108). -/
def opQbindIn (p b : Reg) : M Unit := do
  portSettled p
  let v ← readX b
  let s ← get
  let t := s.unbind s.cur (portNum p)
  if t.mayBindIn s.cur (portNum p) v then
    set (t.bind s.cur (portNum p) ⟨idQueue v, idChip v, false, 0⟩)
  else stopWith (.bindFailed (portNum p) v)

/-- The object that stands for another chip's queue: its attributes as the answer gave them. -/
def Queue.remote (attrs : List Nat) (chip router : Nat) : Queue :=
  { part := 0, region := none, words := nth attrs 0 1, log2 := nth attrs 1 1, window := nth attrs 2 1,
    chan := nth attrs 3 0, prio := nth attrs 4 0, cls := nth attrs 5 0, merge := decide (nth attrs 6 0 = 1),
    relays := [], branches := [⟨.chip chip, router, [], 0, 0⟩], subs := [], mprod := [], credits := [], entryQ := false,
    isOpen := true, named := [], flight := [], returns := [], order := [], beyond := [], farConsumers := nth attrs 7 1,
    farRelays := nth attrs 8 0 }

/-- QBIND.OUT (04 R108); one to another chip stalls until that chip answers. -/
def opQbindOut (p b : Reg) : M Unit := do
  portSettled p
  let v ← readX b
  let s ← get
  let c := s.cur
  let t := s.unbind c (portNum p)
  if idChip v = s.chip.toNat then
    if t.mayBindOut (s.cl (clusterOf c)).part (isSup c) v then
      set (t.bind c (portNum p) ⟨idQueue v, idChip v, true, 0⟩)
    else stopWith (.bindFailed (portNum p) v)
  else if !idClean v then stopWith (.bindFailed (portNum p) v)
  else match s.asks.find? (fun a => decide (a.core = c) && decide (a.port = portNum p) && decide (a.chip = idChip v) &&
      decide (a.queue = idQueue v)) with
    | some ⟨_, _, _, _, some (ok, attrs)⟩ =>
      if ok then
        let key := queueKey s.chip.toNat (idChip v) (idQueue v)
        let t := { t with
          asks := t.asks.filter (fun a => !(decide (a.core = c) && decide (a.port = portNum p)))
          queues := if (mget t.queues key).isSome then t.queues else mset t.queues key (Queue.remote attrs (idChip v) ((t.egressPort (idChip v)).elim 0 straitRouter)) }
        set (t.bind c (portNum p) ⟨idQueue v, idChip v, true, 0⟩)
      else stopWith (.bindFailed (portNum p) v)
    | _ => stall (.ask (portNum p) (idChip v) (idQueue v))

/-- QUNB (04 R108). -/
def opQunb (p : Reg) : M Unit := do
  portSettled p
  modify (fun s => s.unbind s.cur (portNum p))

/-- Items ahead of the first marker; an unreleased one is not counted (16 R364). -/
def itemsAhead (q : Queue) (l : List Elem) : Nat := ((q.visible l).takeWhile (fun e => !e.marker)).length

/-- QCNT's value (04 R109). -/
def State.countFor (s : State) (c p : Nat) (b : Binding) : Nat :=
  match mget s.queues (s.bindKey b) with
  | none => 0
  | some q =>
    if b.output then q.creditsOf (.core c p)
    else if q.merge then (q.subs.map (itemsAhead q)).sum
    else match q.branchOf c with
      | some i => (match q.branches[i]? with | some br => itemsAhead q br.store | none => 0)
      | none => 0

/-- QCNT (04 R109). -/
def opQcnt (d p : Reg) : M Unit := do
  let b ← portBinding p
  let s ← get
  writeX d (match b with | some b => BitVec.ofNat 64 (s.countFor s.cur (portNum p) b) | none => 0)

/-- Attributes by selector (04 R109). -/
def Queue.attribute (q : Queue) (b : Binding) (sel : Nat) : Nat :=
  match sel with
  | 0 => q.words * 8
  | 1 => q.capacity
  | 2 => q.window
  | 3 => q.chan
  | 4 => q.prio
  | 5 => q.cls
  | 6 => if q.merge then 1 else 0
  | 7 => (match q.branches with | [⟨.chip _, _, _, _, _⟩] => q.farConsumers | l => l.length)
  | 8 => (match q.branches with | [⟨.chip _, _, _, _, _⟩] => q.farRelays | _ => q.relays.length)
  | 9 => b.chip * 2 ^ 52 + b.queue
  | _ => if b.output then 2 else 1

/-- QATTR (04 R109). -/
def opQattr (d p b : Reg) : M Unit := do
  let sel ← readX b
  require (decide (sel.toNat ≤ 10)) .operandRange sel
  let bd ← portBinding p
  let s ← get
  writeX d (match bd with
    | some bd => (match mget s.queues (s.bindKey bd) with
      | some q => BitVec.ofNat 64 (q.attribute bd sel.toNat)
      | none => 0)
    | none => 0)

/-- QMARK (04 R110). -/
def opQmark (p : Reg) : M Unit := do
  let s ← get
  require (isSup s.cur) .privilege
  match ← openBinding p with
  | none => portFault .queueUnbound p
  | some (bd, _) => do
    require bd.output .queueDirection (BitVec.ofNat 64 (portNum p))
    pushPort (portNum p) bd [] true

/-! ### Issue -/

/-- Issues QPUSH. -/
def execQpush (p b : Reg) (s : State) : Host.Outcome State Fault Refusal := issueHalf (opQpush p b) s

/-- Issues QPUSHNB. -/
def execQpushNb (d p b : Reg) (s : State) : Host.Outcome State Fault Refusal := issueHalf (opQpushNb d p b) s

/-- Issues QPOP. -/
def execQpop (d p : Reg) (s : State) : Host.Outcome State Fault Refusal := issueHalf (opQpop d p) s

/-- Issues QTRY. -/
def execQtry (d p b : Reg) (s : State) : Host.Outcome State Fault Refusal := issueHalf (opQtry d p b) s

/-- Issues QPEEK. -/
def execQpeek (d p b : Reg) (s : State) : Host.Outcome State Fault Refusal := issueHalf (opQpeek d p b) s

/-- Issues QBINDIN. -/
def execQbindIn (p b : Reg) (s : State) : Host.Outcome State Fault Refusal := issueHalf (opQbindIn p b) s

/-- Issues QBINDOUT. -/
def execQbindOut (p b : Reg) (s : State) : Host.Outcome State Fault Refusal := issueHalf (opQbindOut p b) s

/-- Issues QUNB. -/
def execQunb (p : Reg) (s : State) : Host.Outcome State Fault Refusal := issueHalf (opQunb p) s

/-- Issues QCNT. -/
def execQcnt (d p : Reg) (s : State) : Host.Outcome State Fault Refusal := issueHalf (opQcnt d p) s

/-- Issues QATTR. -/
def execQattr (d p b : Reg) (s : State) : Host.Outcome State Fault Refusal := issueHalf (opQattr d p b) s

/-- Issues QMARK. -/
def execQmark (p : Reg) (s : State) : Host.Outcome State Fault Refusal := issueHalf (opQmark p) s

end Sys2Proof.Machine
end

