-- ==== Sys2Proof/Machine/Scalar.lean ====
section
/-!
DEFINITION. Scalar arithmetic: majors 0x01-0x0c (03 R72-R78). Every result wraps modulo 2^64; none faults but
through a port register (R77).
-/

namespace Sys2Proof.Machine

/-! ### Results -/

/-- 1 or 0. -/
def boolWord (b : Bool) : Word := if b then 1 else 0

/-- Signed less-than. -/
def slt (a b : Word) : Bool := a.slt b

/-- Unsigned less-than. -/
def ult (a b : Word) : Bool := a.ult b

/-- DIV (R73): quotient toward zero; -1 for a zero divisor; -2^63 / -1 is -2^63. -/
def divSigned (a b : Word) : Word := if b = 0 then BitVec.allOnes 64 else a.sdiv b

/-- DIVU (R73). -/
def divUnsigned (a b : Word) : Word := if b = 0 then BitVec.allOnes 64 else a.udiv b

/-- REM (R73): the sign of a, or 0; a for a zero divisor. -/
def remSigned (a b : Word) : Word := if b = 0 then a else a.srem b

/-- REMU (R73). -/
def remUnsigned (a b : Word) : Word := if b = 0 then a else a.umod b

/-- Zero bits above the most significant 1, of the low `n` bits. -/
def leadingZeros : Nat → Word → Nat
  | 0, _ => 0
  | n + 1, a => if a.getLsbD n then 0 else 1 + leadingZeros n a

/-- Zero bits below the least significant 1, looking at `n` bits from bit `i`. -/
def trailingZeros : Nat → Nat → Word → Nat
  | 0, _, _ => 0
  | n + 1, i, a => if a.getLsbD i then 0 else 1 + trailingZeros n (i + 1) a

/-- 1 bits among the low `n`. -/
def ones : Nat → Word → Nat
  | 0, _ => 0
  | n + 1, a => (if a.getLsbD n then 1 else 0) + ones n a

/-- The high half of a signed product. -/
def mulHighSigned (a b : Word) : Word := ((a.signExtend 128 * b.signExtend 128) >>> 64).setWidth 64

/-- The high half of an unsigned product. -/
def mulHighUnsigned (a b : Word) : Word := ((a.setWidth 128 * b.setWidth 128) >>> 64).setWidth 64

/-! ### Operand forms -/

/-- `op xd, xa, xb`, usable at t + 1 (R72, R78). -/
def regOp (f : Word → Word → Word) (d a b : Reg) : M Unit := do
  let va ← readX a
  let vb ← readX b
  writeX d (f va vb)

/-- `op xd, xa`. -/
def unaryOp (f : Word → Word) (d a : Reg) : M Unit := do
  let va ← readX a
  writeX d (f va)

/-- `op xd, xa, imm`, with the immediate sign-extended (R74). -/
def immOp (f : Word → Word → Word) (d a : Reg) (imm : BitVec 15) : M Unit := do
  let va ← readX a
  writeX d (f va (imm.signExtend 64))

/-- `op xd, xa, sh` (R75). -/
def shiftOp (f : Word → Nat → Word) (d a : Reg) (sh : BitVec 6) : M Unit := do
  let va ← readX a
  writeX d (f va sh.toNat)

/-- `mulh`, `mulhu`: usable at t + 2 (R78). -/
def mulHighOp (f : Word → Word → Word) (d a b : Reg) : M Unit := do
  let va ← readX a
  let vb ← readX b
  writeXLate d (f va vb) 2

/-- Divisions: usable at t + 12, one in flight a core; a zero divisor sets IDZ at issue (R73, R78). -/
def divOp (f : Word → Word → Word) (d a b : Reg) : M Unit := do
  let k ← here
  await (!k.pending.any (fun p => p.divider))
  let va ← readX a
  let vb ← readX b
  raiseFlags (if vb = 0 then 0x20 else 0)
  writeXLate d (f va vb) 12 .divider

/-! ### Meanings -/

/-- ADD (R72). -/
def opAdd (d a b : Reg) : M Unit := regOp (fun x y => x + y) d a b

/-- Issues ADD. -/
def execAdd (d a b : Reg) (s : State) : Host.Outcome State Fault Refusal := issueHalf (opAdd d a b) s

/-- SUB (R72). -/
def opSub (d a b : Reg) : M Unit := regOp (fun x y => x - y) d a b

/-- Issues SUB. -/
def execSub (d a b : Reg) (s : State) : Host.Outcome State Fault Refusal := issueHalf (opSub d a b) s

/-- AND (R72). -/
def opAnd (d a b : Reg) : M Unit := regOp (fun x y => x &&& y) d a b

/-- Issues AND. -/
def execAnd (d a b : Reg) (s : State) : Host.Outcome State Fault Refusal := issueHalf (opAnd d a b) s

/-- OR (R72). -/
def opOr (d a b : Reg) : M Unit := regOp (fun x y => x ||| y) d a b

/-- Issues OR. -/
def execOr (d a b : Reg) (s : State) : Host.Outcome State Fault Refusal := issueHalf (opOr d a b) s

/-- XOR (R72). -/
def opXor (d a b : Reg) : M Unit := regOp (fun x y => x ^^^ y) d a b

/-- Issues XOR. -/
def execXor (d a b : Reg) (s : State) : Host.Outcome State Fault Refusal := issueHalf (opXor d a b) s

/-- ANDN (R72). -/
def opAndn (d a b : Reg) : M Unit := regOp (fun x y => x &&& ~~~y) d a b

/-- Issues ANDN. -/
def execAndn (d a b : Reg) (s : State) : Host.Outcome State Fault Refusal := issueHalf (opAndn d a b) s

/-- SLL (R72). -/
def opSll (d a b : Reg) : M Unit := regOp (fun x y => x <<< (y.toNat % 64)) d a b

/-- Issues SLL. -/
def execSll (d a b : Reg) (s : State) : Host.Outcome State Fault Refusal := issueHalf (opSll d a b) s

/-- SRL (R72). -/
def opSrl (d a b : Reg) : M Unit := regOp (fun x y => x >>> (y.toNat % 64)) d a b

/-- Issues SRL. -/
def execSrl (d a b : Reg) (s : State) : Host.Outcome State Fault Refusal := issueHalf (opSrl d a b) s

/-- SRA (R72). -/
def opSra (d a b : Reg) : M Unit := regOp (fun x y => x.sshiftRight (y.toNat % 64)) d a b

/-- Issues SRA. -/
def execSra (d a b : Reg) (s : State) : Host.Outcome State Fault Refusal := issueHalf (opSra d a b) s

/-- ROR (R72). -/
def opRor (d a b : Reg) : M Unit := regOp (fun x y => x.rotateRight (y.toNat % 64)) d a b

/-- Issues ROR. -/
def execRor (d a b : Reg) (s : State) : Host.Outcome State Fault Refusal := issueHalf (opRor d a b) s

/-- SLT (R72). -/
def opSlt (d a b : Reg) : M Unit := regOp (fun x y => boolWord (slt x y)) d a b

/-- Issues SLT. -/
def execSlt (d a b : Reg) (s : State) : Host.Outcome State Fault Refusal := issueHalf (opSlt d a b) s

/-- SLTU (R72). -/
def opSltu (d a b : Reg) : M Unit := regOp (fun x y => boolWord (ult x y)) d a b

/-- Issues SLTU. -/
def execSltu (d a b : Reg) (s : State) : Host.Outcome State Fault Refusal := issueHalf (opSltu d a b) s

/-- MIN (R72). -/
def opMin (d a b : Reg) : M Unit := regOp (fun x y => if slt x y then x else y) d a b

/-- Issues MIN. -/
def execMin (d a b : Reg) (s : State) : Host.Outcome State Fault Refusal := issueHalf (opMin d a b) s

/-- MAX (R72). -/
def opMax (d a b : Reg) : M Unit := regOp (fun x y => if slt x y then y else x) d a b

/-- Issues MAX. -/
def execMax (d a b : Reg) (s : State) : Host.Outcome State Fault Refusal := issueHalf (opMax d a b) s

/-- MINU (R72). -/
def opMinu (d a b : Reg) : M Unit := regOp (fun x y => if ult x y then x else y) d a b

/-- Issues MINU. -/
def execMinu (d a b : Reg) (s : State) : Host.Outcome State Fault Refusal := issueHalf (opMinu d a b) s

/-- MAXU (R72). -/
def opMaxu (d a b : Reg) : M Unit := regOp (fun x y => if ult x y then y else x) d a b

/-- Issues MAXU. -/
def execMaxu (d a b : Reg) (s : State) : Host.Outcome State Fault Refusal := issueHalf (opMaxu d a b) s

/-- MUL (R72). -/
def opMul (d a b : Reg) : M Unit := regOp (fun x y => x * y) d a b

/-- Issues MUL. -/
def execMul (d a b : Reg) (s : State) : Host.Outcome State Fault Refusal := issueHalf (opMul d a b) s

/-- MULH (R72). -/
def opMulh (d a b : Reg) : M Unit := mulHighOp mulHighSigned d a b

/-- Issues MULH. -/
def execMulh (d a b : Reg) (s : State) : Host.Outcome State Fault Refusal := issueHalf (opMulh d a b) s

/-- MULHU (R72). -/
def opMulhu (d a b : Reg) : M Unit := mulHighOp mulHighUnsigned d a b

/-- Issues MULHU. -/
def execMulhu (d a b : Reg) (s : State) : Host.Outcome State Fault Refusal := issueHalf (opMulhu d a b) s

/-- DIV (R73). -/
def opDiv (d a b : Reg) : M Unit := divOp divSigned d a b

/-- Issues DIV. -/
def execDiv (d a b : Reg) (s : State) : Host.Outcome State Fault Refusal := issueHalf (opDiv d a b) s

/-- DIVU (R73). -/
def opDivu (d a b : Reg) : M Unit := divOp divUnsigned d a b

/-- Issues DIVU. -/
def execDivu (d a b : Reg) (s : State) : Host.Outcome State Fault Refusal := issueHalf (opDivu d a b) s

/-- REM (R73). -/
def opRem (d a b : Reg) : M Unit := divOp remSigned d a b

/-- Issues REM. -/
def execRem (d a b : Reg) (s : State) : Host.Outcome State Fault Refusal := issueHalf (opRem d a b) s

/-- REMU (R73). -/
def opRemu (d a b : Reg) : M Unit := divOp remUnsigned d a b

/-- Issues REMU. -/
def execRemu (d a b : Reg) (s : State) : Host.Outcome State Fault Refusal := issueHalf (opRemu d a b) s

/-- SH1ADD (R72). -/
def opSh1add (d a b : Reg) : M Unit := regOp (fun x y => (x <<< 1) + y) d a b

/-- Issues SH1ADD. -/
def execSh1add (d a b : Reg) (s : State) : Host.Outcome State Fault Refusal := issueHalf (opSh1add d a b) s

/-- SH2ADD (R72). -/
def opSh2add (d a b : Reg) : M Unit := regOp (fun x y => (x <<< 2) + y) d a b

/-- Issues SH2ADD. -/
def execSh2add (d a b : Reg) (s : State) : Host.Outcome State Fault Refusal := issueHalf (opSh2add d a b) s

/-- SH3ADD (R72). -/
def opSh3add (d a b : Reg) : M Unit := regOp (fun x y => (x <<< 3) + y) d a b

/-- Issues SH3ADD. -/
def execSh3add (d a b : Reg) (s : State) : Host.Outcome State Fault Refusal := issueHalf (opSh3add d a b) s

/-- CLZ (R72). -/
def opClz (d a : Reg) : M Unit := unaryOp (fun x => BitVec.ofNat 64 (leadingZeros 64 x)) d a

/-- Issues CLZ. -/
def execClz (d a : Reg) (s : State) : Host.Outcome State Fault Refusal := issueHalf (opClz d a) s

/-- CTZ (R72). -/
def opCtz (d a : Reg) : M Unit := unaryOp (fun x => BitVec.ofNat 64 (trailingZeros 64 0 x)) d a

/-- Issues CTZ. -/
def execCtz (d a : Reg) (s : State) : Host.Outcome State Fault Refusal := issueHalf (opCtz d a) s

/-- POPC (R72). -/
def opPopc (d a : Reg) : M Unit := unaryOp (fun x => BitVec.ofNat 64 (ones 64 x)) d a

/-- Issues POPC. -/
def execPopc (d a : Reg) (s : State) : Host.Outcome State Fault Refusal := issueHalf (opPopc d a) s

/-- ADDI (R74). -/
def opAddi (d a : Reg) (imm : BitVec 15) : M Unit := immOp (fun x i => x + i) d a imm

/-- Issues ADDI. -/
def execAddi (d a : Reg) (imm : BitVec 15) (s : State) : Host.Outcome State Fault Refusal := issueHalf (opAddi d a imm) s

/-- ANDI (R74). -/
def opAndi (d a : Reg) (imm : BitVec 15) : M Unit := immOp (fun x i => x &&& i) d a imm

/-- Issues ANDI. -/
def execAndi (d a : Reg) (imm : BitVec 15) (s : State) : Host.Outcome State Fault Refusal := issueHalf (opAndi d a imm) s

/-- ORI (R74). -/
def opOri (d a : Reg) (imm : BitVec 15) : M Unit := immOp (fun x i => x ||| i) d a imm

/-- Issues ORI. -/
def execOri (d a : Reg) (imm : BitVec 15) (s : State) : Host.Outcome State Fault Refusal := issueHalf (opOri d a imm) s

/-- MULI (R74). -/
def opMuli (d a : Reg) (imm : BitVec 15) : M Unit := immOp (fun x i => x * i) d a imm

/-- Issues MULI. -/
def execMuli (d a : Reg) (imm : BitVec 15) (s : State) : Host.Outcome State Fault Refusal := issueHalf (opMuli d a imm) s

/-- XORI (R74). -/
def opXori (d a : Reg) (imm : BitVec 15) : M Unit := immOp (fun x i => x ^^^ i) d a imm

/-- Issues XORI. -/
def execXori (d a : Reg) (imm : BitVec 15) (s : State) : Host.Outcome State Fault Refusal := issueHalf (opXori d a imm) s

/-- SLTI (R74). -/
def opSlti (d a : Reg) (imm : BitVec 15) : M Unit := immOp (fun x i => boolWord (slt x i)) d a imm

/-- Issues SLTI. -/
def execSlti (d a : Reg) (imm : BitVec 15) (s : State) : Host.Outcome State Fault Refusal := issueHalf (opSlti d a imm) s

/-- SLTIU (R74). -/
def opSltiu (d a : Reg) (imm : BitVec 15) : M Unit := immOp (fun x i => boolWord (ult x i)) d a imm

/-- Issues SLTIU. -/
def execSltiu (d a : Reg) (imm : BitVec 15) (s : State) : Host.Outcome State Fault Refusal := issueHalf (opSltiu d a imm) s

/-- SLLI (R75). -/
def opSlli (d a : Reg) (sh : BitVec 6) : M Unit := shiftOp (fun x n => x <<< n) d a sh

/-- Issues SLLI. -/
def execSlli (d a : Reg) (sh : BitVec 6) (s : State) : Host.Outcome State Fault Refusal := issueHalf (opSlli d a sh) s

/-- SRLI (R75). -/
def opSrli (d a : Reg) (sh : BitVec 6) : M Unit := shiftOp (fun x n => x >>> n) d a sh

/-- Issues SRLI. -/
def execSrli (d a : Reg) (sh : BitVec 6) (s : State) : Host.Outcome State Fault Refusal := issueHalf (opSrli d a sh) s

/-- SRAI (R75). -/
def opSrai (d a : Reg) (sh : BitVec 6) : M Unit := shiftOp (fun x n => x.sshiftRight n) d a sh

/-- Issues SRAI. -/
def execSrai (d a : Reg) (sh : BitVec 6) (s : State) : Host.Outcome State Fault Refusal := issueHalf (opSrai d a sh) s

/-- RORI (R75). -/
def opRori (d a : Reg) (sh : BitVec 6) : M Unit := shiftOp (fun x n => x.rotateRight n) d a sh

/-- Issues RORI. -/
def execRori (d a : Reg) (sh : BitVec 6) (s : State) : Host.Outcome State Fault Refusal := issueHalf (opRori d a sh) s

/-- LUI (R76). -/
def opLui (d : Reg) (imm : BitVec 20) : M Unit := writeX d (imm.signExtend 64 * 4096)

/-- Issues LUI. -/
def execLui (d : Reg) (imm : BitVec 20) (s : State) : Host.Outcome State Fault Refusal := issueHalf (opLui d imm) s

/-- ADDPC: P is the address of the lone word, or of the pair (R76). -/
def opAddpc (d : Reg) (imm : BitVec 20) : M Unit := do
  let k ← here
  writeX d (k.pc + imm.signExtend 64)

/-- Issues ADDPC. -/
def execAddpc (d : Reg) (imm : BitVec 20) (s : State) : Host.Outcome State Fault Refusal := issueHalf (opAddpc d imm) s

/-- LUH (R76). -/
def opLuh (d : Reg) (imm : BitVec 20) : M Unit := do
  let v ← readX d
  writeX d (v + (imm.signExtend 64 <<< 32))

/-- Issues LUH. -/
def execLuh (d : Reg) (imm : BitVec 20) (s : State) : Host.Outcome State Fault Refusal := issueHalf (opLuh d imm) s

end Sys2Proof.Machine
end

