-- ==== Sys2Proof/Machine/Sync.lean ====
section
/-!
DEFINITION. Barriers, rings and tokens: majors 0x22-0x24 (04 R120-R124).
-/

namespace Sys2Proof.Machine

/-! ### Barriers (04 R120, R121) -/

/-- The layout of a barrier word (04 R120). -/
def barWordOk (w : Word) : Bool :=
  let x := w.toNat
  decide (bitsAt x 15 49 = 0) && decide (bitsAt x 13 1 = 0) &&
    (decide (bitsAt x 14 1 = 0) || (decide (bitsAt x 10 3 = 0) && decide (x % 1024 < 16)))

/-- Reads a barrier word and checks that it names a barrier that the core may use (04 R120, 09 R240). -/
def readBar (a : Reg) : M Word := do
  let w ← readX a
  let s ← get
  let spanOk := match (s.running s.cur).bind (fun x => x.span) with | some id => (mget s.spans id).isSome | none => false
  require (barWordOk w && (decide (bitsAt w.toNat 14 1 = 0) || spanOk)) .barrierNumber w
  pure w

/-- The scope at which a barrier's arrival releases: cluster, or chip for a span barrier (04 R121). -/
def barScope (w : Word) : Scope := if bitsAt w.toNat 14 1 = 1 then .chip else .cl

/-- An arrival (04 R121); it releases, so it waits until the core's earlier accesses are performed at its scope (log 10). -/
def arrival (w : Word) : M Unit := do
  let s ← get
  require (decide ((s.barrier s.cur w).n ≠ 0)) .barrierState w
  journalGate
  await ((s.core s.cur).mem.all (fun o => o.shownAt (barScope w)))
  modify (fun s => s.arrive s.cur w)

/-- BAR: the arrival is made once, at the pair's first issue (04 R121). -/
def opBar (a : Reg) : M Unit := do
  let w ← readBar a
  let k ← here
  if k.barArrived then do
    let s ← get
    await (!(s.barrier s.cur w).holds s.cur)
  else do
    arrival w
    modIssue (fun i => { i with barWord := some w })
    let s ← get
    if (s.barrier s.cur w).holds s.cur then stall (.arrived w) else pure ()

/-- BARA (04 R121). -/
def opBara (a : Reg) : M Unit := do
  let w ← readBar a
  arrival w

/-- BARW (04 R121). -/
def opBarw (a : Reg) : M Unit := do
  let w ← readBar a
  let s ← get
  await (!(s.barrier s.cur w).holds s.cur)

/-- BINIT (04 R121). -/
def opBinit (a b : Reg) : M Unit := do
  let w ← readBar a
  let n ← readX b
  let s ← get
  let bar := s.barrier s.cur w
  require (decide (bar.a = 0)) .barrierState w
  require (decide (1 ≤ n.toNat) && decide (n.toNat ≤ (if bitsAt w.toNat 14 1 = 1 then 512 else 4096))) .operandRange n
  set (s.setBarrier s.cur w { bar with n := n.toNat })

/-! ### Rings (04 R122, R123) -/

/-- A geometry word that RSET accepts, without the base. -/
def ringWordOk (g : Word) : Bool :=
  let x := g.toNat
  decide (bitsAt x 24 8 = 0) && decide (bitsAt x 13 7 = 0) && decide (x % 8 = 0) &&
    decide (8 ≤ bitsAt x 0 13) && decide (bitsAt x 0 13 ≤ 4096) && decide (bitsAt x 20 4 ≤ 12)

/-- The handle that a base and a geometry word describe. -/
def RingH.ofWords (base g : Word) : RingH :=
  let x := g.toNat
  { valid := true, base := base, log2 := bitsAt x 20 4, slot := bitsAt x 0 13,
    wpos := BitVec.ofNat 32 (bitsAt x 32 32), rpos := BitVec.ofNat 32 (bitsAt x 32 32), resv := 0 }

/-- A byte range lies wholly inside the local-store window or the cluster-store window. -/
def insideWindow (base n : Nat) : Bool :=
  (decide (0x10000 ≤ base) && decide (base + n ≤ 0x20000)) ||
    (decide (0x10000000000 ≤ base) && decide (base + n ≤ 0x10040000000))

/-- An engine command of core `c` that named handle `h` has not completed (04 R122). -/
def State.ringInUse (s : State) (c h : Nat) : Bool :=
  let names (a : AtollCmd) : Bool := decide (a.core = c) && (match a.kind with
    | .lrun _ _ => decide (a.hIn = h) || decide (a.hOut = h)
    | .lflush => false
    | _ => decide (a.hIn = h))
  let t := (s.cl (clusterOf c)).atoll
  (s.core c).copies.any (fun k => decide (k.kind = .cpys) && decide (k.ring = h)) || (s.core c).atollQ.any names ||
    t.arrivals.any names || (match t.serving with | some v => names v.cmd | none => false)

/-- RSET (04 R122). -/
def opRset (hd a b : Reg) : M Unit := do
  let base ← readX a
  let g ← readX b
  let s ← get
  await (!s.ringInUse s.cur hd.toNat)
  let h := RingH.ofWords base g
  require (ringWordOk g && decide (base.toNat % 8 = 0) && insideWindow base.toNat h.extent) .ringGeometry
    (BitVec.ofNat 64 hd.toNat)
  modHere (fun k => k.setH hd.toNat h)

/-- A ring instruction's handle as it stands, and its count. -/
def readRing (hr b : Reg) : M (RingH × Word) := do
  let _ ← readH hr
  let c ← readX b
  let k ← here
  pure (k.getH hr.toNat, c)

/-- RADVW (04 R123). -/
def opRadvw (hr b : Reg) : M Unit := do
  let (h, c) ← readRing hr b
  require (decide (c.toNat ≤ h.room)) .ringOverrun c
  journalGate
  modHere (fun k => k.setH hr.toNat (h.advW c.toNat))

/-- RADVR (04 R123). -/
def opRadvr (hr b : Reg) : M Unit := do
  let (h, c) ← readRing hr b
  require (decide (c.toNat ≤ h.filled)) .ringUnderrun c
  journalGate
  modHere (fun k => k.setH hr.toNat (h.advR c.toNat))

/-- RWAITF (04 R123). -/
def opRwaitf (hr b : Reg) : M Unit := do
  let (h, c) ← readRing hr b
  require (decide (c.toNat ≤ h.slots)) .operandRange c
  await (decide (c.toNat ≤ h.filled))

/-- RWAITE (04 R123). -/
def opRwaite (hr b : Reg) : M Unit := do
  let (h, c) ← readRing hr b
  require (decide (c.toNat ≤ h.slots)) .operandRange c
  await (decide (c.toNat ≤ h.free))

/-- RPOS.W (04 R123). -/
def opRposW (d hr : Reg) : M Unit := do
  let h ← readH hr
  writeX d (h.wpos.setWidth 64)

/-- RPOS.R (04 R123). -/
def opRposR (d hr : Reg) : M Unit := do
  let h ← readH hr
  writeX d (h.rpos.setWidth 64)

/-! ### Tokens (04 R124) -/

/-- TWAIT: a failure recorded against a named token is raised first (04 R124, 05 R142). -/
def opTwait (a : Reg) : M Unit := do
  let m ← readX a
  let k ← here
  match k.fails.find? (fun f => m.getLsbD f.1) with
  | some (t, _) => stopWith (.failed t)
  | none => await ((List.range 8).all (fun t => !m.getLsbD t || decide (k.getK t = 0)))

/-- TPOLL (04 R124). -/
def opTpoll (d a : Reg) : M Unit := do
  let m ← readX a
  let k ← here
  writeX d (BitVec.ofNat 64 (((List.range 8).map (fun t => if m.getLsbD t ∧ k.getK t ≠ 0 then 2 ^ t else 0)).sum))

/-! ### Issue -/

/-- Issues BAR. -/
def execBar (a : Reg) (s : State) : Host.Outcome State Fault Refusal := issueHalf (opBar a) s

/-- Issues BARA. -/
def execBara (a : Reg) (s : State) : Host.Outcome State Fault Refusal := issueHalf (opBara a) s

/-- Issues BARW. -/
def execBarw (a : Reg) (s : State) : Host.Outcome State Fault Refusal := issueHalf (opBarw a) s

/-- Issues BINIT. -/
def execBinit (a b : Reg) (s : State) : Host.Outcome State Fault Refusal := issueHalf (opBinit a b) s

/-- Issues RSET. -/
def execRset (hd a b : Reg) (s : State) : Host.Outcome State Fault Refusal := issueHalf (opRset hd a b) s

/-- Issues RADVW. -/
def execRadvw (hr b : Reg) (s : State) : Host.Outcome State Fault Refusal := issueHalf (opRadvw hr b) s

/-- Issues RADVR. -/
def execRadvr (hr b : Reg) (s : State) : Host.Outcome State Fault Refusal := issueHalf (opRadvr hr b) s

/-- Issues RWAITF. -/
def execRwaitf (hr b : Reg) (s : State) : Host.Outcome State Fault Refusal := issueHalf (opRwaitf hr b) s

/-- Issues RWAITE. -/
def execRwaite (hr b : Reg) (s : State) : Host.Outcome State Fault Refusal := issueHalf (opRwaite hr b) s

/-- Issues RPOSW. -/
def execRposW (d hr : Reg) (s : State) : Host.Outcome State Fault Refusal := issueHalf (opRposW d hr) s

/-- Issues RPOSR. -/
def execRposR (d hr : Reg) (s : State) : Host.Outcome State Fault Refusal := issueHalf (opRposR d hr) s

/-- Issues TWAIT. -/
def execTwait (a : Reg) (s : State) : Host.Outcome State Fault Refusal := issueHalf (opTwait a) s

/-- Issues TPOLL. -/
def execTpoll (d a : Reg) (s : State) : Host.Outcome State Fault Refusal := issueHalf (opTpoll d a) s

end Sys2Proof.Machine
end

