-- ==== Sys2Proof/Machine/Vector.lean ====
section
/-!
DEFINITION. The vector engine: majors 0x30-0x36 (06 R155-R168). Latencies are those of R158.
-/

namespace Sys2Proof.Machine

/-! ### Shared forms -/

/-- One result and flags for each lane: active lanes take `f`, others the fallback. -/
def laneMap (t : Fmt) (m : MaskWord) (f : Nat → Nat × BitVec 6) (other : Nat → Nat) : Vec × BitVec 6 :=
  let n := laneCount t
  let rs := (List.range n).map (fun i => if laneActive n m i then f i else (other i, 0))
  (ofLanes t (rs.map (fun r => r.1)), orFlags (rs.map (fun r => r.2)))

/-- Latency of majors 0x30-0x32: t + 4 for floating formats, t + 2 for integers (R158). -/
def arithLat (t : Fmt) : Nat := if t.isFloat then 4 else 2

/-- A lanewise operation on va and vb; inactive lanes become zero (R156). -/
def lane2 (f : Nat → Nat → Nat × BitVec 6) (lat : Nat) (d a b : Reg) (t : Fmt) (m : Reg3) : M Unit := do
  let va ← readV a
  let vb ← readV b
  let mk ← readM m.toNat
  let r := laneMap t mk (fun i => f (laneOf t va i) (laneOf t vb i)) (fun _ => 0)
  writeV d r.1 r.2 lat

/-- A lanewise operation on va. -/
def lane1 (f : Nat → Nat × BitVec 6) (lat : Nat) (d a : Reg) (t : Fmt) (m : Reg3) : M Unit := do
  let va ← readV a
  let mk ← readM m.toNat
  let r := laneMap t mk (fun i => f (laneOf t va i)) (fun _ => 0)
  writeV d r.1 r.2 lat

/-- A fused form: vd is a third source, and inactive lanes keep it (R156). -/
def lane3 (f : Nat → Nat → Nat → Nat × BitVec 6) (d a b : Reg) (t : Fmt) (m : Reg3) : M Unit := do
  let va ← readV a
  let vb ← readV b
  let vd ← readV d
  let mk ← readM m.toNat
  let r := laneMap t mk (fun i => f (laneOf t va i) (laneOf t vb i) (laneOf t vd i)) (laneOf t vd)
  writeV d r.1 r.2 4

/-- A comparison: one mask bit a lane, every other bit 0 (R161). -/
def compareOp (f : Nat → Nat → Bool × BitVec 6) (d a b : Reg) (t : Fmt) (m : Reg3) : M Unit := do
  let va ← readV a
  let vb ← readV b
  let mk ← readM m.toNat
  let n := laneCount t
  let rs := (List.range n).map (fun i =>
    if laneActive n mk i then f (laneOf t va i) (laneOf t vb i) else (false, 0))
  writeM d (BitVec.ofNat 128 (packLanes 1 (rs.map (fun r => if r.1 then 1 else 0)))) (orFlags (rs.map (fun r => r.2))) 2

/-- A move: a result lane for each active lane, usable at t + 1 (R163). -/
def moveOp (f : Vec → Vec → Nat → Nat) (d a b : Reg) (t : Fmt) (m : Reg3) : M Unit := do
  let va ← readV a
  let vb ← readV b
  let mk ← readM m.toNat
  writeV d (laneMap t mk (fun i => (f va vb i, 0)) (fun _ => 0)).1 0 1

/-! ### Lane results -/

/-- vadd, vsub, vmul (R160). -/
def laneAdd (t : Fmt) (a b : Nat) : Nat × BitVec 6 :=
  if t.isFloat then fAdd t (floatVal t a) (floatVal t b) else ((a + b) % 256, 0)
/-- A difference is a sum with the sign of b changed. -/
def laneSub (t : Fmt) (a b : Nat) : Nat × BitVec 6 :=
  if t.isFloat then fAdd t (floatVal t a) (negVal (floatVal t b)) else ((a + 256 - b) % 256, 0)
/-- A product; for integers its low 8 bits. -/
def laneMul (t : Fmt) (a b : Nat) : Nat × BitVec 6 :=
  if t.isFloat then fMul t (floatVal t a) (floatVal t b) else (a * b % 256, 0)
/-- a × b + d (R160). -/
def laneFma (t : Fmt) (a b d : Nat) : Nat × BitVec 6 := fFma t (floatVal t a) (floatVal t b) (floatVal t d)
/-- d − a × b (R160). -/
def laneFnma (t : Fmt) (a b d : Nat) : Nat × BitVec 6 := fFma t (negVal (floatVal t a)) (floatVal t b) (floatVal t d)
/-- vmin, vmax (R160). -/
def laneMinMax (t : Fmt) (isMax : Bool) (a b : Nat) : Nat × BitVec 6 :=
  if t.isFloat then fMinMax t isMax a b
  else if (if isMax then decide (intVal t a < intVal t b) else decide (intVal t b < intVal t a)) then (b, 0) else (a, 0)
/-- vabs (R160): a float's sign bit cleared; I8 modulo 2^8. -/
def laneAbs (t : Fmt) (a : Nat) : Nat × BitVec 6 :=
  if t.isFloat then (a % 2 ^ (fmtBits t - 1), 0) else (intBits t (intVal t a).natAbs, 0)

/-- Comparison of two lanes (R161): equal, less; NV for a signalling NaN, or any NaN in an ordered form. -/
def laneEq (t : Fmt) (a b : Nat) : Bool × BitVec 6 :=
  if t.isFloat then
    (eqVal (floatVal t a) (floatVal t b), flagIf ((floatVal t a).isSnan || (floatVal t b).isSnan) fNV)
  else (a == b, 0)
/-- a < b. -/
def laneLt (t : Fmt) (a b : Nat) : Bool × BitVec 6 :=
  if t.isFloat then
    (ltVal false (floatVal t a) (floatVal t b), flagIf ((floatVal t a).isNan || (floatVal t b).isNan) fNV)
  else (decide (intVal t a < intVal t b), 0)
/-- a ≤ b. -/
def laneLe (t : Fmt) (a b : Nat) : Bool × BitVec 6 :=
  if t.isFloat then
    (ltVal false (floatVal t a) (floatVal t b) || eqVal (floatVal t a) (floatVal t b),
      flagIf ((floatVal t a).isNan || (floatVal t b).isNan) fNV)
  else (decide (intVal t a ≤ intVal t b), 0)

/-- Shifts of w-bit lanes by b mod w (R162). -/
def laneShl (t : Fmt) (a b : Nat) : Nat × BitVec 6 := (a * 2 ^ (b % fmtBits t) % 2 ^ fmtBits t, 0)
/-- Zeros enter. -/
def laneShr (t : Fmt) (a b : Nat) : Nat × BitVec 6 := (a / 2 ^ (b % fmtBits t), 0)
/-- Copies of bit w − 1 enter. -/
def laneSra (t : Fmt) (a b : Nat) : Nat × BitVec 6 :=
  let w := fmtBits t
  let s : Int := if 2 ^ (w - 1) ≤ a then (a : Int) - 2 ^ w else a
  ((s / (2 ^ (b % w) : Nat) % (2 ^ w : Nat)).toNat, 0)
/-- min(max(a, −|b|), |b|) (R162). -/
def laneClip (t : Fmt) (a b : Nat) : Nat × BitVec 6 :=
  if t.isFloat then
    let va := floatVal t a
    let vb := floatVal t b
    if va.isNan || vb.isNan then ((canonNan t).getD 0, flagIf (va.isSnan || vb.isSnan) fNV)
    else
      let hi := b % 2 ^ (fmtBits t - 1)
      let lo := hi + 2 ^ (fmtBits t - 1)
      let x := (fMinMax t true a lo).1
      (fMinMax t false x hi)
  else
    let hi : Int := (intVal t b).natAbs
    (intBits t (min (max (intVal t a) (-hi)) hi), 0)
/-- Round(T, RNE, a × 2^e) (R162). -/
def laneScale (t : Fmt) (e : Int) (a : Nat) : Nat × BitVec 6 :=
  let v := floatVal t a
  resultFloat t (scaleVal v e) v.isSnan false

/-! ### Reductions (R164) -/

/-- Adjacent pairs combined, the lower-numbered lane on the left. -/
def pairUp (f : Nat → Nat → Nat × BitVec 6) : List Nat → List (Nat × BitVec 6)
  | a :: b :: r => f a b :: pairUp f r
  | [a] => [(a, 0)]
  | [] => []

/-- The fixed tree: level after level until one value is left. -/
def reduceTree (f : Nat → Nat → Nat × BitVec 6) : Nat → List Nat → BitVec 6 → Nat × BitVec 6
  | 0, l, fl => (l.headD 0, fl)
  | n + 1, l, fl =>
    let r := pairUp f l
    reduceTree f n (r.map (fun p => p.1)) (fl ||| orFlags (r.map (fun p => p.2)))

/-- Terms of a reduction: active lanes, or the identity. -/
def reduceTerms (t : Fmt) (m : MaskWord) (term : Nat → Nat × BitVec 6) (identity : Nat) : List (Nat × BitVec 6) :=
  (List.range (laneCount t)).map (fun i => if laneActive (laneCount t) m i then term i else (identity, 0))

/-- A reduction of its terms. -/
def reduce (f : Nat → Nat → Nat × BitVec 6) (terms : List (Nat × BitVec 6)) : Nat × BitVec 6 :=
  reduceTree f 8 (terms.map (fun p => p.1)) (orFlags (terms.map (fun p => p.2)))

/-- F32 addition of two encodings. -/
def addF32 (x y : Nat) : Nat × BitVec 6 := fAdd .f32 (floatVal .f32 x) (floatVal .f32 y)

/-- A lane widened to F32; exact from F16 and B16. A NaN lane stays one: quiet or signalling as it was. -/
def widen (t : Fmt) (x : Nat) : Nat :=
  if t = .f32 then x
  else match floatVal t x with
    | .nan s => if s then 0x7f800001 else 0x7fc00000
    | .inf n => infBits .f32 n
    | .fin n m e => (roundFloat .f32 .rne false n m e).1

/-- VRSUM's term and VRDOT's term (R164). Integers are kept modulo 2^32. -/
def sumTerm (t : Fmt) (x : Nat) : Nat × BitVec 6 :=
  if t.isFloat then (widen t x, 0) else ((intVal t x % (2 ^ 32 : Nat)).toNat, 0)
/-- A product, rounded to F32; exact for integers. -/
def dotTerm (t : Fmt) (x y : Nat) : Nat × BitVec 6 :=
  if t.isFloat then fMul .f32 (floatVal t x) (floatVal t y)
  else ((intVal t x * intVal t y % (2 ^ 32 : Nat)).toNat, 0)
/-- The combination of sums. -/
def sumCombine (t : Fmt) (x y : Nat) : Nat × BitVec 6 := if t.isFloat then addF32 x y else ((x + y) % 2 ^ 32, 0)
/-- The identity of sums: −0, or 0. -/
def sumIdentity (t : Fmt) : Nat := if t.isFloat then 0x80000000 else 0
/-- The identity of maximum and minimum. -/
def extremeIdentity (t : Fmt) (isMax : Bool) : Nat :=
  if t.isFloat then infBits t isMax else intBits t (if isMax then (intRange t).1 else (intRange t).2)

/-- A reduction's result fills the low lane of vd; every other bit is 0. -/
def reduceOp (f : Nat → Nat → Nat × BitVec 6) (term : Vec → Vec → Nat → Nat × BitVec 6) (identity : Nat)
    (d a b : Reg) (t : Fmt) (m : Reg3) : M Unit := do
  let va ← readV a
  let vb ← readV b
  let mk ← readM m.toNat
  let r := reduce f (reduceTerms t mk (term va vb) identity)
  writeV d (BitVec.ofNat 1024 r.1) r.2 8

/-- A transcendental: at most one issues in any 4 clk (R158). -/
def transOp (f : Nat → Nat × BitVec 6) (d a : Reg) (m : Reg3) : M Unit := do
  let k ← source
  let s ← get
  await (!k.pending.any (fun p => decide (s.clk + 8 < p.ready) && (match p.dest with | .v _ => true | _ => false)))
  lane1 f 12 d a .f32 m

/-! ### Meanings -/

/-- VADD (R160, R162). -/
def opVadd (vd va vb : Reg) (t : Fmt) (m : Reg3) : M Unit := lane2 (laneAdd t) (arithLat t) vd va vb t m

/-- Issues VADD. -/
def execVadd (vd va vb : Reg) (t : Fmt) (m : Reg3) (s : State) : Host.Outcome State Fault Refusal := issueHalf (opVadd vd va vb t m) s

/-- VSUB (R160, R162). -/
def opVsub (vd va vb : Reg) (t : Fmt) (m : Reg3) : M Unit := lane2 (laneSub t) (arithLat t) vd va vb t m

/-- Issues VSUB. -/
def execVsub (vd va vb : Reg) (t : Fmt) (m : Reg3) (s : State) : Host.Outcome State Fault Refusal := issueHalf (opVsub vd va vb t m) s

/-- VMUL (R160, R162). -/
def opVmul (vd va vb : Reg) (t : Fmt) (m : Reg3) : M Unit := lane2 (laneMul t) (arithLat t) vd va vb t m

/-- Issues VMUL. -/
def execVmul (vd va vb : Reg) (t : Fmt) (m : Reg3) (s : State) : Host.Outcome State Fault Refusal := issueHalf (opVmul vd va vb t m) s

/-- VMIN (R160, R162). -/
def opVmin (vd va vb : Reg) (t : Fmt) (m : Reg3) : M Unit := lane2 (laneMinMax t false) (arithLat t) vd va vb t m

/-- Issues VMIN. -/
def execVmin (vd va vb : Reg) (t : Fmt) (m : Reg3) (s : State) : Host.Outcome State Fault Refusal := issueHalf (opVmin vd va vb t m) s

/-- VMAX (R160, R162). -/
def opVmax (vd va vb : Reg) (t : Fmt) (m : Reg3) : M Unit := lane2 (laneMinMax t true) (arithLat t) vd va vb t m

/-- Issues VMAX. -/
def execVmax (vd va vb : Reg) (t : Fmt) (m : Reg3) (s : State) : Host.Outcome State Fault Refusal := issueHalf (opVmax vd va vb t m) s

/-- VCLIP (R160, R162). -/
def opVclip (vd va vb : Reg) (t : Fmt) (m : Reg3) : M Unit := lane2 (laneClip t) (arithLat t) vd va vb t m

/-- Issues VCLIP. -/
def execVclip (vd va vb : Reg) (t : Fmt) (m : Reg3) (s : State) : Host.Outcome State Fault Refusal := issueHalf (opVclip vd va vb t m) s

/-- VFMA (R160). -/
def opVfma (vd va vb : Reg) (t : Fmt) (m : Reg3) : M Unit := lane3 (laneFma t) vd va vb t m

/-- Issues VFMA. -/
def execVfma (vd va vb : Reg) (t : Fmt) (m : Reg3) (s : State) : Host.Outcome State Fault Refusal := issueHalf (opVfma vd va vb t m) s

/-- VFNMA (R160). -/
def opVfnma (vd va vb : Reg) (t : Fmt) (m : Reg3) : M Unit := lane3 (laneFnma t) vd va vb t m

/-- Issues VFNMA. -/
def execVfnma (vd va vb : Reg) (t : Fmt) (m : Reg3) (s : State) : Host.Outcome State Fault Refusal := issueHalf (opVfnma vd va vb t m) s

/-- VABS (R160). -/
def opVabs (vd va : Reg) (t : Fmt) (m : Reg3) : M Unit := lane1 (laneAbs t) 2 vd va t m

/-- Issues VABS. -/
def execVabs (vd va : Reg) (t : Fmt) (m : Reg3) (s : State) : Host.Outcome State Fault Refusal := issueHalf (opVabs vd va t m) s

/-- VCMPEQ (R161). -/
def opVcmpeq (md va vb : Reg) (t : Fmt) (m : Reg3) : M Unit := compareOp (laneEq t) md va vb t m

/-- Issues VCMPEQ. -/
def execVcmpeq (md va vb : Reg) (t : Fmt) (m : Reg3) (s : State) : Host.Outcome State Fault Refusal := issueHalf (opVcmpeq md va vb t m) s

/-- VCMPNE (R161). -/
def opVcmpne (md va vb : Reg) (t : Fmt) (m : Reg3) : M Unit := compareOp (fun x y => (!(laneEq t x y).1, (laneEq t x y).2)) md va vb t m

/-- Issues VCMPNE. -/
def execVcmpne (md va vb : Reg) (t : Fmt) (m : Reg3) (s : State) : Host.Outcome State Fault Refusal := issueHalf (opVcmpne md va vb t m) s

/-- VCMPLT (R161). -/
def opVcmplt (md va vb : Reg) (t : Fmt) (m : Reg3) : M Unit := compareOp (laneLt t) md va vb t m

/-- Issues VCMPLT. -/
def execVcmplt (md va vb : Reg) (t : Fmt) (m : Reg3) (s : State) : Host.Outcome State Fault Refusal := issueHalf (opVcmplt md va vb t m) s

/-- VCMPLE (R161). -/
def opVcmple (md va vb : Reg) (t : Fmt) (m : Reg3) : M Unit := compareOp (laneLe t) md va vb t m

/-- Issues VCMPLE. -/
def execVcmple (md va vb : Reg) (t : Fmt) (m : Reg3) (s : State) : Host.Outcome State Fault Refusal := issueHalf (opVcmple md va vb t m) s

/-- VSEL: the mask selects, every lane is written (R161). -/
def opVsel (vd va vb : Reg) (t : Fmt) (m : Reg3) : M Unit := do
  let x ← readV va
  let y ← readV vb
  let mk ← readM m.toNat
  writeV vd (laneMap t mk (fun i => (laneOf t x i, 0)) (laneOf t y)).1 0 1

/-- Issues VSEL. -/
def execVsel (vd va vb : Reg) (t : Fmt) (m : Reg3) (s : State) : Host.Outcome State Fault Refusal := issueHalf (opVsel vd va vb t m) s

/-- VMAND (R161). -/
def opVmand (md ma mb : Reg) : M Unit := do
  let x ← readM ma.toNat
  let y ← readM mb.toNat
  writeM md (x &&& y) 0 1

/-- Issues VMAND. -/
def execVmand (md ma mb : Reg) (s : State) : Host.Outcome State Fault Refusal := issueHalf (opVmand md ma mb) s

/-- VMOR (R161). -/
def opVmor (md ma mb : Reg) : M Unit := do
  let x ← readM ma.toNat
  let y ← readM mb.toNat
  writeM md (x ||| y) 0 1

/-- Issues VMOR. -/
def execVmor (md ma mb : Reg) (s : State) : Host.Outcome State Fault Refusal := issueHalf (opVmor md ma mb) s

/-- VMXOR (R161). -/
def opVmxor (md ma mb : Reg) : M Unit := do
  let x ← readM ma.toNat
  let y ← readM mb.toNat
  writeM md (x ^^^ y) 0 1

/-- Issues VMXOR. -/
def execVmxor (md ma mb : Reg) (s : State) : Host.Outcome State Fault Refusal := issueHalf (opVmxor md ma mb) s

/-- VAND: 32 lanes of 32 bits (R162). -/
def opVand (vd va vb : Reg) (m : Reg3) : M Unit := lane2 (fun x y => (x &&& y, 0)) 1 vd va vb .f32 m

/-- Issues VAND. -/
def execVand (vd va vb : Reg) (m : Reg3) (s : State) : Host.Outcome State Fault Refusal := issueHalf (opVand vd va vb m) s

/-- VOR: 32 lanes of 32 bits (R162). -/
def opVor (vd va vb : Reg) (m : Reg3) : M Unit := lane2 (fun x y => (x ||| y, 0)) 1 vd va vb .f32 m

/-- Issues VOR. -/
def execVor (vd va vb : Reg) (m : Reg3) (s : State) : Host.Outcome State Fault Refusal := issueHalf (opVor vd va vb m) s

/-- VXOR: 32 lanes of 32 bits (R162). -/
def opVxor (vd va vb : Reg) (m : Reg3) : M Unit := lane2 (fun x y => (x ^^^ y, 0)) 1 vd va vb .f32 m

/-- Issues VXOR. -/
def execVxor (vd va vb : Reg) (m : Reg3) (s : State) : Host.Outcome State Fault Refusal := issueHalf (opVxor vd va vb m) s

/-- VSHL (R162). -/
def opVshl (vd va vb : Reg) (t : Fmt) (m : Reg3) : M Unit := lane2 (laneShl t) 2 vd va vb t m

/-- Issues VSHL. -/
def execVshl (vd va vb : Reg) (t : Fmt) (m : Reg3) (s : State) : Host.Outcome State Fault Refusal := issueHalf (opVshl vd va vb t m) s

/-- VSHR (R162). -/
def opVshr (vd va vb : Reg) (t : Fmt) (m : Reg3) : M Unit := lane2 (laneShr t) 2 vd va vb t m

/-- Issues VSHR. -/
def execVshr (vd va vb : Reg) (t : Fmt) (m : Reg3) (s : State) : Host.Outcome State Fault Refusal := issueHalf (opVshr vd va vb t m) s

/-- VSRA (R162). -/
def opVsra (vd va vb : Reg) (t : Fmt) (m : Reg3) : M Unit := lane2 (laneSra t) 2 vd va vb t m

/-- Issues VSRA. -/
def execVsra (vd va vb : Reg) (t : Fmt) (m : Reg3) (s : State) : Host.Outcome State Fault Refusal := issueHalf (opVsra vd va vb t m) s

/-- VSCL: the exponent is z[b]'s at issue (R162). -/
def opVscl (vd va z : Reg) (t : Fmt) (m : Reg3) : M Unit := do
  let s ← get
  lane1 (laneScale t (mgetD (s.cl (clusterOf s.cur)).z z.toNat 0)) 4 vd va t m

/-- Issues VSCL. -/
def execVscl (vd va z : Reg) (t : Fmt) (m : Reg3) (s : State) : Host.Outcome State Fault Refusal := issueHalf (opVscl vd va z t m) s

/-- VPERM: for K3 and K2 the whole byte selects (R163). -/
def opVperm (vd va vb : Reg) (t : Fmt) (m : Reg3) : M Unit := moveOp (fun x y i => laneOf t x (bitsAt y.toNat (laneBits t * i) (laneBits t) % laneCount t)) vd va vb t m

/-- Issues VPERM. -/
def execVperm (vd va vb : Reg) (t : Fmt) (m : Reg3) (s : State) : Host.Outcome State Fault Refusal := issueHalf (opVperm vd va vb t m) s

/-- VBCST (R163). -/
def opVbcst (vd xa : Reg) (t : Fmt) (m : Reg3) : M Unit := do
  let x ← readX xa
  let mk ← readM m.toNat
  writeV vd (laneMap t mk (fun _ => (bitsAt x.toNat 0 (fmtBits t), 0)) (fun _ => 0)).1 0 1

/-- Issues VBCST. -/
def execVbcst (vd xa : Reg) (t : Fmt) (m : Reg3) (s : State) : Host.Outcome State Fault Refusal := issueHalf (opVbcst vd xa t m) s

/-- VMVX: sign-extended for I8 and I4 (R163). -/
def opVmvx (xd va xb : Reg) (t : Fmt) : M Unit := do
  let v ← readV va
  let i ← readX xb
  require (decide (i.toNat < laneCount t)) .operandRange i
  let x := laneOf t v i.toNat
  writeXLate xd (if t = .i8 ∨ t = .i4 then BitVec.ofInt 64 (intVal t x) else BitVec.ofNat 64 x) 2 .vector

/-- Issues VMVX. -/
def execVmvx (xd va xb : Reg) (t : Fmt) (s : State) : Host.Outcome State Fault Refusal := issueHalf (opVmvx xd va xb t) s

/-- VINS: every other lane kept (R163). -/
def opVins (vd xa xb : Reg) (t : Fmt) : M Unit := do
  let x ← readX xa
  let i ← readX xb
  let v ← readV vd
  require (decide (i.toNat < laneCount t)) .operandRange i
  let slots := (List.range (laneCount t)).map (fun j => bitsAt v.toNat (laneBits t * j) (laneBits t))
  writeV vd (ofLanes t (setAt slots i.toNat (bitsAt x.toNat 0 (fmtBits t)))) 0 1

/-- Issues VINS. -/
def execVins (vd xa xb : Reg) (t : Fmt) (s : State) : Host.Outcome State Fault Refusal := issueHalf (opVins vd xa xb t) s

/-- VSLIDE (R163). -/
def opVslide (vd va xb : Reg) (t : Fmt) (m : Reg3) : M Unit := do
  let v ← readV va
  let s ← readX xb
  let mk ← readM m.toNat
  let f (i : Nat) : Nat :=
    let j : Int := i + s.toInt
    if 0 ≤ j ∧ j < laneCount t then laneOf t v j.toNat else 0
  writeV vd (laneMap t mk (fun i => (f i, 0)) (fun _ => 0)).1 0 1

/-- Issues VSLIDE. -/
def execVslide (vd va xb : Reg) (t : Fmt) (m : Reg3) (s : State) : Host.Outcome State Fault Refusal := issueHalf (opVslide vd va xb t m) s

/-- VZIP (R163). -/
def opVzip (vd va vb : Reg) (t : Fmt) (m : Reg3) : M Unit := moveOp (fun x y i => if i % 2 = 0 then laneOf t x (i / 2) else laneOf t y (i / 2)) vd va vb t m

/-- Issues VZIP. -/
def execVzip (vd va vb : Reg) (t : Fmt) (m : Reg3) (s : State) : Host.Outcome State Fault Refusal := issueHalf (opVzip vd va vb t m) s

/-- VUZP (R163). -/
def opVuzp (vd va vb : Reg) (t : Fmt) (m : Reg3) : M Unit := moveOp (fun x y i =>
    if i < laneCount t / 2 then laneOf t x (2 * i) else laneOf t y (2 * (i - laneCount t / 2))) vd va vb t m

/-- Issues VUZP. -/
def execVuzp (vd va vb : Reg) (t : Fmt) (m : Reg3) (s : State) : Host.Outcome State Fault Refusal := issueHalf (opVuzp vd va vb t m) s

/-- VMOV (R163). -/
def opVmov (vd va : Reg) (t : Fmt) (m : Reg3) : M Unit := moveOp (fun x _ i => laneOf t x i) vd va va t m

/-- Issues VMOV. -/
def execVmov (vd va : Reg) (t : Fmt) (m : Reg3) (s : State) : Host.Outcome State Fault Refusal := issueHalf (opVmov vd va t m) s

/-- VRSUM (R164). -/
def opVrsum (vd va : Reg) (t : Fmt) (m : Reg3) : M Unit := reduceOp (sumCombine t) (fun x _ i => sumTerm t (laneOf t x i)) (sumIdentity t) vd va va t m

/-- Issues VRSUM. -/
def execVrsum (vd va : Reg) (t : Fmt) (m : Reg3) (s : State) : Host.Outcome State Fault Refusal := issueHalf (opVrsum vd va t m) s

/-- VRMAX (R164). -/
def opVrmax (vd va : Reg) (t : Fmt) (m : Reg3) : M Unit := reduceOp (laneMinMax t true) (fun x _ i => (laneOf t x i, 0)) (extremeIdentity t true) vd va va t m

/-- Issues VRMAX. -/
def execVrmax (vd va : Reg) (t : Fmt) (m : Reg3) (s : State) : Host.Outcome State Fault Refusal := issueHalf (opVrmax vd va t m) s

/-- VRMIN (R164). -/
def opVrmin (vd va : Reg) (t : Fmt) (m : Reg3) : M Unit := reduceOp (laneMinMax t false) (fun x _ i => (laneOf t x i, 0)) (extremeIdentity t false) vd va va t m

/-- Issues VRMIN. -/
def execVrmin (vd va : Reg) (t : Fmt) (m : Reg3) (s : State) : Host.Outcome State Fault Refusal := issueHalf (opVrmin vd va t m) s

/-- VRDOT (R164). -/
def opVrdot (vd va vb : Reg) (t : Fmt) (m : Reg3) : M Unit := reduceOp (sumCombine t) (fun x y i => dotTerm t (laneOf t x i) (laneOf t y i)) (sumIdentity t) vd va vb t m

/-- Issues VRDOT. -/
def execVrdot (vd va vb : Reg) (t : Fmt) (m : Reg3) (s : State) : Host.Outcome State Fault Refusal := issueHalf (opVrdot vd va vb t m) s

/-- VRCP (R165). -/
def opVrcp (vd va : Reg) (t : Fmt) (m : Reg3) : M Unit := do
  require (decide (t = .f32)) .illegalInstruction
  transOp fRcp vd va m

/-- Issues VRCP. -/
def execVrcp (vd va : Reg) (t : Fmt) (m : Reg3) (s : State) : Host.Outcome State Fault Refusal := issueHalf (opVrcp vd va t m) s

/-- VRSQ (R165). -/
def opVrsq (vd va : Reg) (t : Fmt) (m : Reg3) : M Unit := do
  require (decide (t = .f32)) .illegalInstruction
  transOp fRsq vd va m

/-- Issues VRSQ. -/
def execVrsq (vd va : Reg) (t : Fmt) (m : Reg3) (s : State) : Host.Outcome State Fault Refusal := issueHalf (opVrsq vd va t m) s

/-- VEXP2 (R165). -/
def opVexp2 (vd va : Reg) (t : Fmt) (m : Reg3) : M Unit := do
  require (decide (t = .f32)) .illegalInstruction
  transOp fExp2 vd va m

/-- Issues VEXP2. -/
def execVexp2 (vd va : Reg) (t : Fmt) (m : Reg3) (s : State) : Host.Outcome State Fault Refusal := issueHalf (opVexp2 vd va t m) s

/-- VLOG2 (R165). -/
def opVlog2 (vd va : Reg) (t : Fmt) (m : Reg3) : M Unit := do
  require (decide (t = .f32)) .illegalInstruction
  transOp fLog2 vd va m

/-- Issues VLOG2. -/
def execVlog2 (vd va : Reg) (t : Fmt) (m : Reg3) (s : State) : Host.Outcome State Fault Refusal := issueHalf (opVlog2 vd va t m) s

/-- VCVT (R166-R168). -/
def opVcvt (vd va : Reg) (tt ts : Fmt) (rm : RMode) (sat : Bool) (m : Reg3) : M Unit := do
  let v ← readV va
  let mk ← readM m.toNat
  let n := min (laneCount ts) (laneCount tt)
  let rs := (List.range n).map (fun i =>
    if laneActive n mk i then convert tt ts rm sat (laneOf ts v i) else (0, 0))
  writeV vd (ofLanes tt (rs.map (fun r => r.1))) (orFlags (rs.map (fun r => r.2))) 4

/-- Issues VCVT. -/
def execVcvt (vd va : Reg) (tt ts : Fmt) (rm : RMode) (sat : Bool) (m : Reg3) (s : State) : Host.Outcome State Fault Refusal := issueHalf (opVcvt vd va tt ts rm sat m) s

end Sys2Proof.Machine
end

