-- ==== Sys2Proof/Machine/Dispatch.lean ====
section
/-!
DEFINITION. The one dispatch: each constructor of `Instr` to its meaning.
-/

namespace Sys2Proof.Machine

def exec (i : Instr) (s : State) : Host.Outcome State Fault Refusal :=
  match i with
  | .add a0 a1 a2 => Sys2Proof.Machine.execAdd a0 a1 a2 s
  | .sub a0 a1 a2 => Sys2Proof.Machine.execSub a0 a1 a2 s
  | .and a0 a1 a2 => Sys2Proof.Machine.execAnd a0 a1 a2 s
  | .or a0 a1 a2 => Sys2Proof.Machine.execOr a0 a1 a2 s
  | .xor a0 a1 a2 => Sys2Proof.Machine.execXor a0 a1 a2 s
  | .andn a0 a1 a2 => Sys2Proof.Machine.execAndn a0 a1 a2 s
  | .sll a0 a1 a2 => Sys2Proof.Machine.execSll a0 a1 a2 s
  | .srl a0 a1 a2 => Sys2Proof.Machine.execSrl a0 a1 a2 s
  | .sra a0 a1 a2 => Sys2Proof.Machine.execSra a0 a1 a2 s
  | .ror a0 a1 a2 => Sys2Proof.Machine.execRor a0 a1 a2 s
  | .slt a0 a1 a2 => Sys2Proof.Machine.execSlt a0 a1 a2 s
  | .sltu a0 a1 a2 => Sys2Proof.Machine.execSltu a0 a1 a2 s
  | .min a0 a1 a2 => Sys2Proof.Machine.execMin a0 a1 a2 s
  | .max a0 a1 a2 => Sys2Proof.Machine.execMax a0 a1 a2 s
  | .minu a0 a1 a2 => Sys2Proof.Machine.execMinu a0 a1 a2 s
  | .maxu a0 a1 a2 => Sys2Proof.Machine.execMaxu a0 a1 a2 s
  | .mul a0 a1 a2 => Sys2Proof.Machine.execMul a0 a1 a2 s
  | .mulh a0 a1 a2 => Sys2Proof.Machine.execMulh a0 a1 a2 s
  | .mulhu a0 a1 a2 => Sys2Proof.Machine.execMulhu a0 a1 a2 s
  | .div a0 a1 a2 => Sys2Proof.Machine.execDiv a0 a1 a2 s
  | .divu a0 a1 a2 => Sys2Proof.Machine.execDivu a0 a1 a2 s
  | .rem a0 a1 a2 => Sys2Proof.Machine.execRem a0 a1 a2 s
  | .remu a0 a1 a2 => Sys2Proof.Machine.execRemu a0 a1 a2 s
  | .sh1add a0 a1 a2 => Sys2Proof.Machine.execSh1add a0 a1 a2 s
  | .sh2add a0 a1 a2 => Sys2Proof.Machine.execSh2add a0 a1 a2 s
  | .sh3add a0 a1 a2 => Sys2Proof.Machine.execSh3add a0 a1 a2 s
  | .clz a0 a1 => Sys2Proof.Machine.execClz a0 a1 s
  | .ctz a0 a1 => Sys2Proof.Machine.execCtz a0 a1 s
  | .popc a0 a1 => Sys2Proof.Machine.execPopc a0 a1 s
  | .addi a0 a1 a2 => Sys2Proof.Machine.execAddi a0 a1 a2 s
  | .andi a0 a1 a2 => Sys2Proof.Machine.execAndi a0 a1 a2 s
  | .ori a0 a1 a2 => Sys2Proof.Machine.execOri a0 a1 a2 s
  | .muli a0 a1 a2 => Sys2Proof.Machine.execMuli a0 a1 a2 s
  | .xori a0 a1 a2 => Sys2Proof.Machine.execXori a0 a1 a2 s
  | .slti a0 a1 a2 => Sys2Proof.Machine.execSlti a0 a1 a2 s
  | .sltiu a0 a1 a2 => Sys2Proof.Machine.execSltiu a0 a1 a2 s
  | .slli a0 a1 a2 => Sys2Proof.Machine.execSlli a0 a1 a2 s
  | .srli a0 a1 a2 => Sys2Proof.Machine.execSrli a0 a1 a2 s
  | .srai a0 a1 a2 => Sys2Proof.Machine.execSrai a0 a1 a2 s
  | .rori a0 a1 a2 => Sys2Proof.Machine.execRori a0 a1 a2 s
  | .lui a0 a1 => Sys2Proof.Machine.execLui a0 a1 s
  | .addpc a0 a1 => Sys2Proof.Machine.execAddpc a0 a1 s
  | .luh a0 a1 => Sys2Proof.Machine.execLuh a0 a1 s
  | .beq a0 a1 a2 => Sys2Proof.Machine.execBeq a0 a1 a2 s
  | .bne a0 a1 a2 => Sys2Proof.Machine.execBne a0 a1 a2 s
  | .blt a0 a1 a2 => Sys2Proof.Machine.execBlt a0 a1 a2 s
  | .bge a0 a1 a2 => Sys2Proof.Machine.execBge a0 a1 a2 s
  | .bltu a0 a1 a2 => Sys2Proof.Machine.execBltu a0 a1 a2 s
  | .bgeu a0 a1 a2 => Sys2Proof.Machine.execBgeu a0 a1 a2 s
  | .j a0 => Sys2Proof.Machine.execJ a0 s
  | .jl a0 => Sys2Proof.Machine.execJl a0 s
  | .jlr a0 a1 a2 => Sys2Proof.Machine.execJlr a0 a1 a2 s
  | .endA => Sys2Proof.Machine.execEnd s
  | .sysc => Sys2Proof.Machine.execSysc s
  | .brk => Sys2Proof.Machine.execBrk s
  | .eret => Sys2Proof.Machine.execEret s
  | .yrd a0 a1 => Sys2Proof.Machine.execYrd a0 a1 s
  | .ywr a0 a1 => Sys2Proof.Machine.execYwr a0 a1 s
  | .ld a0 a1 a2 a3 => Sys2Proof.Machine.execLd a0 a1 a2 a3 s
  | .ldz a0 a1 a2 a3 => Sys2Proof.Machine.execLdz a0 a1 a2 a3 s
  | .st a0 a1 a2 a3 => Sys2Proof.Machine.execSt a0 a1 a2 a3 s
  | .ldaq a0 a1 a2 a3 a4 => Sys2Proof.Machine.execLdaq a0 a1 a2 a3 a4 s
  | .strl a0 a1 a2 a3 a4 => Sys2Proof.Machine.execStrl a0 a1 a2 a3 a4 s
  | .ldx a0 a1 a2 a3 a4 => Sys2Proof.Machine.execLdx a0 a1 a2 a3 a4 s
  | .stx a0 a1 a2 a3 a4 => Sys2Proof.Machine.execStx a0 a1 a2 a3 a4 s
  | .pref a0 a1 a2 => Sys2Proof.Machine.execPref a0 a1 a2 s
  | .pld a0 a1 a2 a3 => Sys2Proof.Machine.execPld a0 a1 a2 a3 s
  | .fence a0 a1 => Sys2Proof.Machine.execFence a0 a1 s
  | .fencee a0 a1 => Sys2Proof.Machine.execFencee a0 a1 s
  | .amo a0 a1 a2 a3 a4 a5 a6 => Sys2Proof.Machine.execAmo a0 a1 a2 a3 a4 a5 a6 s
  | .cas a0 a1 a2 a3 a4 a5 => Sys2Proof.Machine.execCas a0 a1 a2 a3 a4 a5 s
  | .casq a0 a1 a2 a3 a4 => Sys2Proof.Machine.execCasq a0 a1 a2 a3 a4 s
  | .famo a0 a1 a2 a3 a4 a5 => Sys2Proof.Machine.execFamo a0 a1 a2 a3 a4 a5 s
  | .qpush a0 a1 => Sys2Proof.Machine.execQpush a0 a1 s
  | .qpushNb a0 a1 a2 => Sys2Proof.Machine.execQpushNb a0 a1 a2 s
  | .qpop a0 a1 => Sys2Proof.Machine.execQpop a0 a1 s
  | .qtry a0 a1 a2 => Sys2Proof.Machine.execQtry a0 a1 a2 s
  | .qpeek a0 a1 a2 => Sys2Proof.Machine.execQpeek a0 a1 a2 s
  | .qbindIn a0 a1 => Sys2Proof.Machine.execQbindIn a0 a1 s
  | .qbindOut a0 a1 => Sys2Proof.Machine.execQbindOut a0 a1 s
  | .qunb a0 => Sys2Proof.Machine.execQunb a0 s
  | .qcnt a0 a1 => Sys2Proof.Machine.execQcnt a0 a1 s
  | .qattr a0 a1 a2 => Sys2Proof.Machine.execQattr a0 a1 a2 s
  | .qmark a0 => Sys2Proof.Machine.execQmark a0 s
  | .act a0 a1 a2 => Sys2Proof.Machine.execAct a0 a1 a2 s
  | .forkStall a0 a1 a2 => Sys2Proof.Machine.execForkStall a0 a1 a2 s
  | .forkInline a0 a1 a2 => Sys2Proof.Machine.execForkInline a0 a1 a2 s
  | .forkBusy a0 a1 a2 => Sys2Proof.Machine.execForkBusy a0 a1 a2 s
  | .sync => Sys2Proof.Machine.execSync s
  | .spawn a0 a1 a2 => Sys2Proof.Machine.execSpawn a0 a1 a2 s
  | .crew a0 a1 a2 => Sys2Proof.Machine.execCrew a0 a1 a2 s
  | .yield => Sys2Proof.Machine.execYield s
  | .prio a0 => Sys2Proof.Machine.execPrio a0 s
  | .bar a0 => Sys2Proof.Machine.execBar a0 s
  | .bara a0 => Sys2Proof.Machine.execBara a0 s
  | .barw a0 => Sys2Proof.Machine.execBarw a0 s
  | .binit a0 a1 => Sys2Proof.Machine.execBinit a0 a1 s
  | .rset a0 a1 a2 => Sys2Proof.Machine.execRset a0 a1 a2 s
  | .radvw a0 a1 => Sys2Proof.Machine.execRadvw a0 a1 s
  | .radvr a0 a1 => Sys2Proof.Machine.execRadvr a0 a1 s
  | .rwaitf a0 a1 => Sys2Proof.Machine.execRwaitf a0 a1 s
  | .rwaite a0 a1 => Sys2Proof.Machine.execRwaite a0 a1 s
  | .rposW a0 a1 => Sys2Proof.Machine.execRposW a0 a1 s
  | .rposR a0 a1 => Sys2Proof.Machine.execRposR a0 a1 s
  | .twait a0 => Sys2Proof.Machine.execTwait a0 s
  | .tpoll a0 a1 => Sys2Proof.Machine.execTpoll a0 a1 s
  | .cpy a0 a1 a2 => Sys2Proof.Machine.execCpy a0 a1 a2 s
  | .cpy2 a0 a1 a2 => Sys2Proof.Machine.execCpy2 a0 a1 a2 s
  | .cpyi a0 a1 a2 => Sys2Proof.Machine.execCpyi a0 a1 a2 s
  | .cpys a0 a1 a2 => Sys2Proof.Machine.execCpys a0 a1 a2 s
  | .cfill a0 a1 a2 => Sys2Proof.Machine.execCfill a0 a1 a2 s
  | .carm a0 a1 a2 => Sys2Proof.Machine.execCarm a0 a1 a2 s
  | .cdis a0 => Sys2Proof.Machine.execCdis a0 s
  | .rld a0 a1 a2 a3 => Sys2Proof.Machine.execRld a0 a1 a2 a3 s
  | .rst a0 a1 a2 a3 => Sys2Proof.Machine.execRst a0 a1 a2 a3 s
  | .rcas a0 a1 a2 a3 a4 => Sys2Proof.Machine.execRcas a0 a1 a2 a3 a4 s
  | .ramo a0 a1 a2 a3 a4 a5 => Sys2Proof.Machine.execRamo a0 a1 a2 a3 a4 a5 s
  | .vadd a0 a1 a2 a3 a4 => Sys2Proof.Machine.execVadd a0 a1 a2 a3 a4 s
  | .vsub a0 a1 a2 a3 a4 => Sys2Proof.Machine.execVsub a0 a1 a2 a3 a4 s
  | .vmul a0 a1 a2 a3 a4 => Sys2Proof.Machine.execVmul a0 a1 a2 a3 a4 s
  | .vfma a0 a1 a2 a3 a4 => Sys2Proof.Machine.execVfma a0 a1 a2 a3 a4 s
  | .vfnma a0 a1 a2 a3 a4 => Sys2Proof.Machine.execVfnma a0 a1 a2 a3 a4 s
  | .vmin a0 a1 a2 a3 a4 => Sys2Proof.Machine.execVmin a0 a1 a2 a3 a4 s
  | .vmax a0 a1 a2 a3 a4 => Sys2Proof.Machine.execVmax a0 a1 a2 a3 a4 s
  | .vabs a0 a1 a2 a3 => Sys2Proof.Machine.execVabs a0 a1 a2 a3 s
  | .vcmpeq a0 a1 a2 a3 a4 => Sys2Proof.Machine.execVcmpeq a0 a1 a2 a3 a4 s
  | .vcmpne a0 a1 a2 a3 a4 => Sys2Proof.Machine.execVcmpne a0 a1 a2 a3 a4 s
  | .vcmplt a0 a1 a2 a3 a4 => Sys2Proof.Machine.execVcmplt a0 a1 a2 a3 a4 s
  | .vcmple a0 a1 a2 a3 a4 => Sys2Proof.Machine.execVcmple a0 a1 a2 a3 a4 s
  | .vsel a0 a1 a2 a3 a4 => Sys2Proof.Machine.execVsel a0 a1 a2 a3 a4 s
  | .vmand a0 a1 a2 => Sys2Proof.Machine.execVmand a0 a1 a2 s
  | .vmor a0 a1 a2 => Sys2Proof.Machine.execVmor a0 a1 a2 s
  | .vmxor a0 a1 a2 => Sys2Proof.Machine.execVmxor a0 a1 a2 s
  | .vand a0 a1 a2 a3 => Sys2Proof.Machine.execVand a0 a1 a2 a3 s
  | .vor a0 a1 a2 a3 => Sys2Proof.Machine.execVor a0 a1 a2 a3 s
  | .vxor a0 a1 a2 a3 => Sys2Proof.Machine.execVxor a0 a1 a2 a3 s
  | .vshl a0 a1 a2 a3 a4 => Sys2Proof.Machine.execVshl a0 a1 a2 a3 a4 s
  | .vshr a0 a1 a2 a3 a4 => Sys2Proof.Machine.execVshr a0 a1 a2 a3 a4 s
  | .vsra a0 a1 a2 a3 a4 => Sys2Proof.Machine.execVsra a0 a1 a2 a3 a4 s
  | .vclip a0 a1 a2 a3 a4 => Sys2Proof.Machine.execVclip a0 a1 a2 a3 a4 s
  | .vscl a0 a1 a2 a3 a4 => Sys2Proof.Machine.execVscl a0 a1 a2 a3 a4 s
  | .vperm a0 a1 a2 a3 a4 => Sys2Proof.Machine.execVperm a0 a1 a2 a3 a4 s
  | .vbcst a0 a1 a2 a3 => Sys2Proof.Machine.execVbcst a0 a1 a2 a3 s
  | .vmvx a0 a1 a2 a3 => Sys2Proof.Machine.execVmvx a0 a1 a2 a3 s
  | .vins a0 a1 a2 a3 => Sys2Proof.Machine.execVins a0 a1 a2 a3 s
  | .vslide a0 a1 a2 a3 a4 => Sys2Proof.Machine.execVslide a0 a1 a2 a3 a4 s
  | .vzip a0 a1 a2 a3 a4 => Sys2Proof.Machine.execVzip a0 a1 a2 a3 a4 s
  | .vuzp a0 a1 a2 a3 a4 => Sys2Proof.Machine.execVuzp a0 a1 a2 a3 a4 s
  | .vmov a0 a1 a2 a3 => Sys2Proof.Machine.execVmov a0 a1 a2 a3 s
  | .vrsum a0 a1 a2 a3 => Sys2Proof.Machine.execVrsum a0 a1 a2 a3 s
  | .vrmax a0 a1 a2 a3 => Sys2Proof.Machine.execVrmax a0 a1 a2 a3 s
  | .vrmin a0 a1 a2 a3 => Sys2Proof.Machine.execVrmin a0 a1 a2 a3 s
  | .vrdot a0 a1 a2 a3 a4 => Sys2Proof.Machine.execVrdot a0 a1 a2 a3 a4 s
  | .vrcp a0 a1 a2 a3 => Sys2Proof.Machine.execVrcp a0 a1 a2 a3 s
  | .vrsq a0 a1 a2 a3 => Sys2Proof.Machine.execVrsq a0 a1 a2 a3 s
  | .vexp2 a0 a1 a2 a3 => Sys2Proof.Machine.execVexp2 a0 a1 a2 a3 s
  | .vlog2 a0 a1 a2 a3 => Sys2Proof.Machine.execVlog2 a0 a1 a2 a3 s
  | .vcvt a0 a1 a2 a3 a4 a5 a6 => Sys2Proof.Machine.execVcvt a0 a1 a2 a3 a4 a5 a6 s
  | .vld a0 a1 a2 => Sys2Proof.Machine.execVld a0 a1 a2 s
  | .vst a0 a1 a2 => Sys2Proof.Machine.execVst a0 a1 a2 s
  | .vgath a0 a1 a2 a3 a4 => Sys2Proof.Machine.execVgath a0 a1 a2 a3 a4 s
  | .vscat a0 a1 a2 a3 a4 => Sys2Proof.Machine.execVscat a0 a1 a2 a3 a4 s
  | .vtrb a0 a1 a2 => Sys2Proof.Machine.execVtrb a0 a1 a2 s
  | .vtrbi a0 a1 a2 => Sys2Proof.Machine.execVtrbi a0 a1 a2 s
  | .vpark a0 a1 => Sys2Proof.Machine.execVpark a0 a1 s
  | .vunpk a0 a1 => Sys2Proof.Machine.execVunpk a0 a1 s
  | .mzero a0 a1 => Sys2Proof.Machine.execMzero a0 a1 s
  | .mstor a0 a1 a2 a3 => Sys2Proof.Machine.execMstor a0 a1 a2 a3 s
  | .mread a0 a1 a2 a3 => Sys2Proof.Machine.execMread a0 a1 a2 a3 s
  | .mspan a0 a1 => Sys2Proof.Machine.execMspan a0 a1 s
  | .mpri a0 => Sys2Proof.Machine.execMpri a0 s
  | .mload a0 a1 a2 => Sys2Proof.Machine.execMload a0 a1 a2 s
  | .mmac a0 a1 a2 a3 a4 a5 a6 a7 => Sys2Proof.Machine.execMmac a0 a1 a2 a3 a4 a5 a6 a7 s
  | .ltld a0 a1 a2 => Sys2Proof.Machine.execLtld a0 a1 a2 s
  | .lwld a0 a1 a2 => Sys2Proof.Machine.execLwld a0 a1 a2 s
  | .lctx a0 => Sys2Proof.Machine.execLctx a0 s
  | .lrun a0 a1 a2 a3 => Sys2Proof.Machine.execLrun a0 a1 a2 a3 s
  | .lstat a0 => Sys2Proof.Machine.execLstat a0 s
  | .lflush a0 => Sys2Proof.Machine.execLflush a0 s
  | .xten a0 a1 a2 => Sys2Proof.Machine.execXten a0 a1 a2 s
  | .xpost a0 a1 => Sys2Proof.Machine.execXpost a0 a1 s
  | .xsend a0 a1 a2 a3 => Sys2Proof.Machine.execXsend a0 a1 a2 a3 s
  | .xcan a0 a1 => Sys2Proof.Machine.execXcan a0 a1 s
  | .xprobe a0 a1 => Sys2Proof.Machine.execXprobe a0 a1 s
  | .jrec a0 a1 => Sys2Proof.Machine.execJrec a0 a1 s
  | .jsync a0 a1 => Sys2Proof.Machine.execJsync a0 a1 s
  | .jtrunc a0 a1 => Sys2Proof.Machine.execJtrunc a0 a1 s
  | .jstat a0 a1 => Sys2Proof.Machine.execJstat a0 a1 s
  | .rngc a0 a1 a2 => Sys2Proof.Machine.execRngc a0 a1 a2 s
  | .supervisorCoreReset a0 => Sys2Proof.Machine.execSupervisorCoreReset a0 s
  | .resultWriteback a0 a1 => Sys2Proof.Machine.execResultWriteback a0 a1 s
  | .loadReply a0 a1 => Sys2Proof.Machine.execLoadReply a0 a1 s
  | .storeDrain a0 a1 => Sys2Proof.Machine.execStoreDrain a0 a1 s
  | .atomicAtPort a0 a1 => Sys2Proof.Machine.execAtomicAtPort a0 a1 s
  | .pageWalk a0 a1 a2 => Sys2Proof.Machine.execPageWalk a0 a1 a2 s
  | .invalidation a0 a1 a2 => Sys2Proof.Machine.execInvalidation a0 a1 a2 s
  | .pageIn a0 a1 a2 => Sys2Proof.Machine.execPageIn a0 a1 a2 s
  | .eviction a0 a1 => Sys2Proof.Machine.execEviction a0 a1 s
  | .copyEngineAccept a0 => Sys2Proof.Machine.execCopyEngineAccept a0 s
  | .copyRound a0 a1 => Sys2Proof.Machine.execCopyRound a0 a1 s
  | .roundRestart a0 a1 => Sys2Proof.Machine.execRoundRestart a0 a1 s
  | .commandComplete a0 a1 => Sys2Proof.Machine.execCommandComplete a0 a1 s
  | .templateFiring a0 a1 => Sys2Proof.Machine.execTemplateFiring a0 a1 s
  | .descriptorCheck a0 a1 => Sys2Proof.Machine.execDescriptorCheck a0 a1 s
  | .remoteRequest a0 => Sys2Proof.Machine.execRemoteRequest a0 s
  | .remoteReply a0 => Sys2Proof.Machine.execRemoteReply a0 s
  | .remoteFaultReplay => Sys2Proof.Machine.execRemoteFaultReplay s
  | .matrixPassGrant a0 => Sys2Proof.Machine.execMatrixPassGrant a0 s
  | .operandFetch a0 a1 => Sys2Proof.Machine.execOperandFetch a0 a1 s
  | .kStep a0 => Sys2Proof.Machine.execKStep a0 s
  | .matrixCommandComplete a0 a1 => Sys2Proof.Machine.execMatrixCommandComplete a0 a1 s
  | .atollArrival a0 => Sys2Proof.Machine.execAtollArrival a0 s
  | .atollServiceStart a0 => Sys2Proof.Machine.execAtollServiceStart a0 s
  | .tableLoadSlotRead a0 => Sys2Proof.Machine.execTableLoadSlotRead a0 s
  | .tableLoadCommit a0 => Sys2Proof.Machine.execTableLoadCommit a0 s
  | .lrunStep a0 => Sys2Proof.Machine.execLrunStep a0 s
  | .lrunStepOutput a0 => Sys2Proof.Machine.execLrunStepOutput a0 s
  | .decodeBlock a0 a1 => Sys2Proof.Machine.execDecodeBlock a0 a1 s
  | .postAtEngine a0 a1 => Sys2Proof.Machine.execPostAtEngine a0 a1 s
  | .cancelAtEngine a0 a1 => Sys2Proof.Machine.execCancelAtEngine a0 a1 s
  | .probeAtEngine a0 a1 => Sys2Proof.Machine.execProbeAtEngine a0 a1 s
  | .tensorMapAtEngine a0 a1 => Sys2Proof.Machine.execTensorMapAtEngine a0 a1 s
  | .engineAnswer a0 a1 => Sys2Proof.Machine.execEngineAnswer a0 a1 s
  | .messageHeaderArrival a0 a1 => Sys2Proof.Machine.execMessageHeaderArrival a0 a1 s
  | .matchDecision a0 a1 => Sys2Proof.Machine.execMatchDecision a0 a1 s
  | .retryBackoffExpiry a0 a1 => Sys2Proof.Machine.execRetryBackoffExpiry a0 a1 s
  | .eagerLanding a0 a1 => Sys2Proof.Machine.execEagerLanding a0 a1 s
  | .rendezvousPull a0 a1 => Sys2Proof.Machine.execRendezvousPull a0 a1 s
  | .landingRound a0 a1 => Sys2Proof.Machine.execLandingRound a0 a1 s
  | .completionPush a0 => Sys2Proof.Machine.execCompletionPush a0 s
  | .postSlotFree a0 a1 => Sys2Proof.Machine.execPostSlotFree a0 a1 s
  | .portJoin a0 a1 a2 a3 => Sys2Proof.Machine.execPortJoin a0 a1 a2 a3 s
  | .flitIngress a0 a1 => Sys2Proof.Machine.execFlitIngress a0 a1 s
  | .straitSlot a0 => Sys2Proof.Machine.execStraitSlot a0 s
  | .flitHop a0 a1 => Sys2Proof.Machine.execFlitHop a0 a1 s
  | .relayForward a0 a1 => Sys2Proof.Machine.execRelayForward a0 a1 s
  | .itemAccept a0 a1 => Sys2Proof.Machine.execItemAccept a0 a1 s
  | .creditReturn a0 a1 => Sys2Proof.Machine.execCreditReturn a0 a1 s
  | .fullSignal a0 a1 => Sys2Proof.Machine.execFullSignal a0 a1 s
  | .triggerEntry a0 a1 => Sys2Proof.Machine.execTriggerEntry a0 a1 s
  | .select a0 => Sys2Proof.Machine.execSelect a0 s
  | .activationStart a0 => Sys2Proof.Machine.execActivationStart a0 s
  | .continuationReady a0 a1 => Sys2Proof.Machine.execContinuationReady a0 a1 s
  | .inlineChildReturn a0 => Sys2Proof.Machine.execInlineChildReturn a0 s
  | .crewStart a0 => Sys2Proof.Machine.execCrewStart a0 s
  | .actRequestArrival a0 => Sys2Proof.Machine.execActRequestArrival a0 s
  | .actAnswer a0 a1 => Sys2Proof.Machine.execActAnswer a0 a1 s
  | .barrierRelease a0 a1 => Sys2Proof.Machine.execBarrierRelease a0 a1 s
  | .spanBarrierArrival a0 a1 => Sys2Proof.Machine.execSpanBarrierArrival a0 a1 s
  | .spanBarrierRelease a0 a1 => Sys2Proof.Machine.execSpanBarrierRelease a0 a1 s
  | .completionArrival a0 => Sys2Proof.Machine.execCompletionArrival a0 s
  | .parkedCallerResume a0 => Sys2Proof.Machine.execParkedCallerResume a0 s
  | .spanStartCall a0 => Sys2Proof.Machine.execSpanStartCall a0 s
  | .spanMembersPlaced a0 => Sys2Proof.Machine.execSpanMembersPlaced a0 s
  | .loadRequest a0 => Sys2Proof.Machine.execLoadRequest a0 s
  | .imageBlock a0 a1 a2 => Sys2Proof.Machine.execImageBlock a0 a1 a2 s
  | .loadedReport a0 => Sys2Proof.Machine.execLoadedReport a0 s
  | .startAck a0 => Sys2Proof.Machine.execStartAck a0 s
  | .loadAborted a0 => Sys2Proof.Machine.execLoadAborted a0 s
  | .unloadRequest a0 => Sys2Proof.Machine.execUnloadRequest a0 s
  | .replacementRequest a0 => Sys2Proof.Machine.execReplacementRequest a0 s
  | .stagedReport a0 => Sys2Proof.Machine.execStagedReport a0 s
  | .markerAtHead a0 a1 => Sys2Proof.Machine.execMarkerAtHead a0 a1 s
  | .cutReport a0 => Sys2Proof.Machine.execCutReport a0 s
  | .cutTimeout a0 => Sys2Proof.Machine.execCutTimeout a0 s
  | .cutCancel a0 => Sys2Proof.Machine.execCutCancel a0 s
  | .markerRemoval a0 a1 => Sys2Proof.Machine.execMarkerRemoval a0 a1 s
  | .faultFrameWritten a0 => Sys2Proof.Machine.execFaultFrameWritten a0 s
  | .faultEntryHandover a0 => Sys2Proof.Machine.execFaultEntryHandover a0 s
  | .resume a0 a1 a2 => Sys2Proof.Machine.execResume a0 a1 a2 s
  | .resumePast a0 a1 a2 => Sys2Proof.Machine.execResumePast a0 a1 a2 s
  | .endTheActivation a0 a1 a2 => Sys2Proof.Machine.execEndTheActivation a0 a1 a2 s
  | .endTheProgram a0 a1 a2 => Sys2Proof.Machine.execEndTheProgram a0 a1 a2 s
  | .freeze a0 a1 => Sys2Proof.Machine.execFreeze a0 a1 s
  | .freezeWaveArrival a0 a1 => Sys2Proof.Machine.execFreezeWaveArrival a0 a1 s
  | .drainComplete a0 => Sys2Proof.Machine.execDrainComplete a0 s
  | .imageReadout a0 => Sys2Proof.Machine.execImageReadout a0 s
  | .restore a0 a1 => Sys2Proof.Machine.execRestore a0 a1 s
  | .runReq a0 => Sys2Proof.Machine.execRunReq a0 s
  | .clockGate a0 => Sys2Proof.Machine.execClockGate a0 s
  | .powerGate a0 => Sys2Proof.Machine.execPowerGate a0 s
  | .gatingTakesEffect a0 => Sys2Proof.Machine.execGatingTakesEffect a0 s
  | .wakeComplete a0 => Sys2Proof.Machine.execWakeComplete a0 s
  | .serviceFirmwareReplace a0 a1 => Sys2Proof.Machine.execServiceFirmwareReplace a0 a1 s
  | .recordArrival a0 a1 => Sys2Proof.Machine.execRecordArrival a0 a1 s
  | .jrecAnswer a0 a1 => Sys2Proof.Machine.execJrecAnswer a0 a1 s
  | .recordSend => Sys2Proof.Machine.execRecordSend s
  | .partnerRecordWrite a0 => Sys2Proof.Machine.execPartnerRecordWrite a0 s
  | .ackSend a0 => Sys2Proof.Machine.execAckSend a0 s
  | .ackArrival a0 => Sys2Proof.Machine.execAckArrival a0 s
  | .guardedRelease a0 => Sys2Proof.Machine.execGuardedRelease a0 s
  | .truncation a0 => Sys2Proof.Machine.execTruncation a0 s
  | .partnerDownTimeout => Sys2Proof.Machine.execPartnerDownTimeout s
  | .partnerWrite a0 a1 => Sys2Proof.Machine.execPartnerWrite a0 a1 s
  | .sourceLost a0 => Sys2Proof.Machine.execSourceLost a0 s
  | .sequenceReplay a0 a1 a2 a3 a4 => Sys2Proof.Machine.execSequenceReplay a0 a1 a2 a3 a4 s
  | .hostRead a0 a1 => Sys2Proof.Machine.execHostRead a0 a1 s
  | .hostWrite a0 a1 => Sys2Proof.Machine.execHostWrite a0 a1 s
  | .hostPush a0 a1 => Sys2Proof.Machine.execHostPush a0 a1 s
  | .hostCredit a0 a1 => Sys2Proof.Machine.execHostCredit a0 a1 s
  | .hostFlush a0 a1 => Sys2Proof.Machine.execHostFlush a0 a1 s
  | .flushAck a0 a1 => Sys2Proof.Machine.execFlushAck a0 a1 s
  | .clientDelivery a0 a1 => Sys2Proof.Machine.execClientDelivery a0 a1 s
  | .hostLinkRejoin a0 => Sys2Proof.Machine.execHostLinkRejoin a0 s
  | .chipReset => Sys2Proof.Machine.execChipReset s
  | .secureBoot a0 a1 a2 a3 a4 => Sys2Proof.Machine.execSecureBoot a0 a1 a2 a3 a4 s
  | .keyStoreChange a0 a1 a2 a3 a4 => Sys2Proof.Machine.execKeyStoreChange a0 a1 a2 a3 a4 s
  | .attestationReport a0 a1 => Sys2Proof.Machine.execAttestationReport a0 a1 s
  | .readyBitSet a0 => Sys2Proof.Machine.execReadyBitSet a0 s
  | .governorWindow a0 a1 => Sys2Proof.Machine.execGovernorWindow a0 a1 s
  | .pointChange a0 => Sys2Proof.Machine.execPointChange a0 s
  | .capWrite a0 a1 => Sys2Proof.Machine.execCapWrite a0 a1 s
  | .deviceRegisterWrite a0 a1 => Sys2Proof.Machine.execDeviceRegisterWrite a0 a1 s
  | .portDown a0 a1 a2 => Sys2Proof.Machine.execPortDown a0 a1 a2 s
  | .uncorrectableSoftError a0 => Sys2Proof.Machine.execUncorrectableSoftError a0 s
  | .frameHold a0 => Sys2Proof.Machine.execFrameHold a0 s
  | .frameRelease a0 => Sys2Proof.Machine.execFrameRelease a0 s
  | .bootFirmwareLoad a0 => Sys2Proof.Machine.execBootFirmwareLoad a0 s

end Sys2Proof.Machine
end

