-- ==== Sys2Proof/Machine/Issue.lean ====
section
/-!
DEFINITION. Fetch, decode and issue of a lone word or a pair (01 R33-R40), over the meaning of each instruction.
-/

namespace Sys2Proof.Machine

/-! ### What an encoding names (01 R38, R39) -/

/-- An x destination; x0 is none (R38). -/
def xDest (r : Reg) : List Dest := if r = 0 then [] else [.x r.toNat]

/-- The destination registers that the encoding names, implicit ones included (R38); of the ring instructions those whose
positions they write. Destinations in the k and a files are left out: no A-half writes one. -/
def destsOf : Instr → List Dest
  | .add d _ _ => xDest d | .sub d _ _ => xDest d | .and d _ _ => xDest d | .or d _ _ => xDest d
  | .xor d _ _ => xDest d | .andn d _ _ => xDest d | .sll d _ _ => xDest d | .srl d _ _ => xDest d
  | .sra d _ _ => xDest d | .ror d _ _ => xDest d | .slt d _ _ => xDest d | .sltu d _ _ => xDest d
  | .min d _ _ => xDest d | .max d _ _ => xDest d | .minu d _ _ => xDest d | .maxu d _ _ => xDest d
  | .mul d _ _ => xDest d | .mulh d _ _ => xDest d | .mulhu d _ _ => xDest d | .div d _ _ => xDest d
  | .divu d _ _ => xDest d | .rem d _ _ => xDest d | .remu d _ _ => xDest d | .sh1add d _ _ => xDest d
  | .sh2add d _ _ => xDest d | .sh3add d _ _ => xDest d | .clz d _ => xDest d | .ctz d _ => xDest d
  | .popc d _ => xDest d | .addi d _ _ => xDest d | .andi d _ _ => xDest d | .ori d _ _ => xDest d
  | .muli d _ _ => xDest d | .xori d _ _ => xDest d | .slti d _ _ => xDest d | .sltiu d _ _ => xDest d
  | .slli d _ _ => xDest d | .srli d _ _ => xDest d | .srai d _ _ => xDest d | .rori d _ _ => xDest d
  | .lui d _ => xDest d | .addpc d _ => xDest d | .luh d _ => xDest d
  | .jl _ => [.x 1] | .jlr d _ _ => xDest d | .yrd d _ => xDest d
  | .sysc => (List.range 8).map (fun i => .x (10 + i))
  | .ld d _ _ _ => xDest d | .ldz d _ _ _ => xDest d | .ldaq d _ _ _ _ => xDest d | .ldx d _ _ _ _ => xDest d
  | .pld d _ _ _ => xDest d | .amo _ d _ _ _ _ _ => xDest d | .cas d _ _ _ _ _ => xDest d
  | .casq d _ _ _ _ => xDest d ++ [.x (d.toNat + 1)] | .famo _ d _ _ _ _ => xDest d
  | .qpushNb d _ _ => xDest d | .qpop d _ => xDest d | .qtry d _ b => xDest d ++ xDest b
  | .qpeek d _ b => xDest d ++ xDest b | .qcnt d _ => xDest d | .qattr d _ _ => xDest d
  | .act d _ _ => xDest d | .forkStall d _ _ => xDest d | .forkInline d _ _ => xDest d
  | .forkBusy d _ _ => xDest d | .spawn d _ _ => xDest d | .crew d _ _ => xDest d
  | .rposW d _ => xDest d | .rposR d _ => xDest d | .tpoll d _ => xDest d
  | .rld d _ _ _ => xDest d | .rcas d _ _ _ _ => xDest d | .ramo _ d _ _ _ _ => xDest d
  | .vadd d _ _ _ _ => [.v d.toNat] | .vsub d _ _ _ _ => [.v d.toNat] | .vmul d _ _ _ _ => [.v d.toNat]
  | .vfma d _ _ _ _ => [.v d.toNat] | .vfnma d _ _ _ _ => [.v d.toNat] | .vmin d _ _ _ _ => [.v d.toNat]
  | .vmax d _ _ _ _ => [.v d.toNat] | .vabs d _ _ _ => [.v d.toNat] | .vcmpeq d _ _ _ _ => [.m d.toNat]
  | .vcmpne d _ _ _ _ => [.m d.toNat] | .vcmplt d _ _ _ _ => [.m d.toNat] | .vcmple d _ _ _ _ => [.m d.toNat]
  | .vsel d _ _ _ _ => [.v d.toNat] | .vmand d _ _ => [.m d.toNat] | .vmor d _ _ => [.m d.toNat]
  | .vmxor d _ _ => [.m d.toNat] | .vand d _ _ _ => [.v d.toNat] | .vor d _ _ _ => [.v d.toNat]
  | .vxor d _ _ _ => [.v d.toNat] | .vshl d _ _ _ _ => [.v d.toNat] | .vshr d _ _ _ _ => [.v d.toNat]
  | .vsra d _ _ _ _ => [.v d.toNat] | .vclip d _ _ _ _ => [.v d.toNat] | .vscl d _ _ _ _ => [.v d.toNat]
  | .vperm d _ _ _ _ => [.v d.toNat] | .vbcst d _ _ _ => [.v d.toNat] | .vmvx d _ _ _ => xDest d
  | .vins d _ _ _ => [.v d.toNat] | .vslide d _ _ _ _ => [.v d.toNat] | .vzip d _ _ _ _ => [.v d.toNat]
  | .vuzp d _ _ _ _ => [.v d.toNat] | .vmov d _ _ _ => [.v d.toNat] | .vrsum d _ _ _ => [.v d.toNat]
  | .vrmax d _ _ _ => [.v d.toNat] | .vrmin d _ _ _ => [.v d.toNat] | .vrdot d _ _ _ _ => [.v d.toNat]
  | .vrcp d _ _ _ => [.v d.toNat] | .vrsq d _ _ _ => [.v d.toNat] | .vexp2 d _ _ _ => [.v d.toNat]
  | .vlog2 d _ _ _ => [.v d.toNat] | .vcvt d _ _ _ _ _ _ => [.v d.toNat] | .vld d h _ => [.v d.toNat, .h h.toNat] | .vst h _ _ => [.h h.toNat]
  | .rset h _ _ => [.h h.toNat] | .radvw h _ => [.h h.toNat] | .radvr h _ => [.h h.toNat]
  | .vgath d _ _ _ _ => [.v d.toNat] | .vtrb d _ _ => [.v d.toNat] | .vtrbi d _ _ => [.v d.toNat]
  | .vpark d _ => xDest d | .vunpk d _ => [.v d.toNat] | .mread d _ _ _ => [.v d.toNat]
  | .lstat d => xDest d | .xten d _ _ => xDest d | .xpost d _ => xDest d | .xsend d _ _ _ => xDest d
  | .xcan d _ => xDest d | .xprobe d _ => xDest d | .jrec d _ => xDest d | .jstat d _ => xDest d
  | .rngc d _ _ => xDest d
  | _ => []

/-- The x registers that an A-half names as sources (R39). -/
def xSources : Instr → List Reg
  | .add _ a b => [a, b] | .sub _ a b => [a, b] | .and _ a b => [a, b] | .or _ a b => [a, b]
  | .xor _ a b => [a, b] | .andn _ a b => [a, b] | .sll _ a b => [a, b] | .srl _ a b => [a, b]
  | .sra _ a b => [a, b] | .ror _ a b => [a, b] | .slt _ a b => [a, b] | .sltu _ a b => [a, b]
  | .min _ a b => [a, b] | .max _ a b => [a, b] | .minu _ a b => [a, b] | .maxu _ a b => [a, b]
  | .mul _ a b => [a, b] | .mulh _ a b => [a, b] | .mulhu _ a b => [a, b] | .div _ a b => [a, b]
  | .divu _ a b => [a, b] | .rem _ a b => [a, b] | .remu _ a b => [a, b] | .sh1add _ a b => [a, b]
  | .sh2add _ a b => [a, b] | .sh3add _ a b => [a, b] | .clz _ a => [a] | .ctz _ a => [a]
  | .popc _ a => [a] | .addi _ a _ => [a] | .andi _ a _ => [a] | .ori _ a _ => [a]
  | .muli _ a _ => [a] | .xori _ a _ => [a] | .slti _ a _ => [a] | .sltiu _ a _ => [a]
  | .slli _ a _ => [a] | .srli _ a _ => [a] | .srai _ a _ => [a] | .rori _ a _ => [a] | .luh d _ => [d]
  | .vbcst _ a _ _ => [a] | .vmvx _ _ b _ => [b] | .vins _ a b _ => [a, b] | .vslide _ _ b _ _ => [b]
  | .vgath _ a _ _ _ => [a] | .vscat _ a _ _ _ => [a] | .vunpk _ a => [a]
  | _ => []

/-- The port that QPOP, QTRY or QPEEK names (R39). -/
def poppedPort : Instr → Option Reg
  | .qpop _ p => some p
  | .qtry _ p _ => some p
  | .qpeek _ p _ => some p
  | _ => none

/-- The halves conflict (R38, R39). -/
def conflict (c a : Instr) : Bool :=
  (destsOf c).any (fun d => (destsOf a).contains d) ||
    (match poppedPort c with | some p => (xSources a).contains p | none => false)

/-! ### Fetch (R35, R36; 12 R289) -/

/-- The address lies in the local-store window. -/
def inWindow (pc : Word) : Bool := decide (0x10000 ≤ pc.toNat) && decide (pc.toNat < 0x20000)

/-- The word that fetch returns: the one in the local store, or, before a FENCE, maybe the old one (12 R289). -/
def State.fetchWord (s : State) (c : Nat) (pc : Word) : InstrWord :=
  let off := pc.toNat - 0x10000
  let new := BitVec.ofNat 32 (ofBytes (memRead s.mem (localKey c off) 4))
  match mget (s.core c).stale (off / 4) with
  | some old => if Config.fetchesOld s.clk pc then old else new
  | none => new

/-- What stands at the pc. -/
inductive Fetched where
  | lone (i : Instr) (w : InstrWord)
  | pair (i : Instr) (w : InstrWord) (i' : Instr) (w' : InstrWord)
  | bad (c : Cause) (info : Word) (pair half : Bool) (w : InstrWord)
  deriving DecidableEq, Repr

/-- The seven steps of R36, in order. -/
def State.fetch (s : State) (c : Nat) : Fetched :=
  let pc := (s.core c).pc
  if !inWindow pc then .bad .fetchRange pc false false 0
  else
    let w := s.fetchWord c pc
    match decodeWord w with
    | .error _ => .bad .illegalInstruction 0 (!isLone w) false w
    | .ok i =>
      if isLone w then .lone i w
      else if pc.getLsbD 2 then .bad .misalignedPair 0 true false w
      else if !inWindow (pc + 4) then .bad .fetchRange pc true false w
      else
        let w' := s.fetchWord c (pc + 4)
        if isLone w' || isClassA w || !isClassA w' then .bad .illegalPair 0 true false w
        else match decodeWord w' with
          | .error _ => .bad .illegalInstruction 0 true true w'
          | .ok i' => if conflict i i' then .bad .illegalPair 0 true false w else .pair i w i' w'

/-! ### Issue -/

/-- The meaning of one instruction. -/
abbrev Exec := Instr → State → Host.Outcome State Fault Refusal

/-- What the pair still has to do waits only for what its own halves have begun: without them it would go on (01 R40). -/
def State.ownStall (s : State) (w : InstrWord) (after : After) : Bool :=
  match complete { s with issue := { Issue.start with slot := .cHalf, word := w, after := after } } with
  | .ok _ => true
  | .error _ => false

/-- After the C-half: the A-half runs, unless it writes a register of the C-half's pop run (04 R100). A stall keeps
a BAR's arrival (04 R121). An END, a SYNC, a YIELD, a SYSC or an inline FORK that waits for its own A-half's result or store
leaves the halves' effects in place and goes on later (R40). -/
def aHalf (exec : Exec) (s : State) (i' : Instr) (w w' : InstrWord) (t : State) : Host.Outcome State Fault Refusal :=
  let at' (h : Slot) (v : InstrWord) (e : Stop) : State :=
    let u := { s with issue := { Issue.start with slot := h, word := v } }.settle e
    match e, t.issue.barWord with
    | .stall n, some b => if n = .arrived b then u else u.leaveNote (.arrived b)
    | _, _ => u
  match t.issue.stop with
  | some e => .next (at' .cHalf w e)
  | none =>
    if (destsOf i').any (fun d => match d with | .x r => t.issue.runs.contains r | _ => false) then
      .next (at' .cHalf w (.fault .illegalPair 0))
    else
      match exec i' { t with issue := { t.issue with slot := .aHalf, word := w' } } with
      | .next u =>
        match u.issue.stop with
        | some e => .next (at' .aHalf w' e)
        | none =>
          match complete { u with issue := { u.issue with word := w } } with
          | .ok (_, v) => .next { v with issue := Issue.start }
          | .error e =>
            if (match e with | .stall _ => true | _ => false) && s.ownStall w u.issue.after then
              .next (({ u with issue := Issue.start }).modCore u.cur (fun k => { k with owed := some u.issue.after, barArrived := false }))
            else .next (at' .cHalf w e)
      | .fault r => .fault r
      | .refused r => .refused r

/-- Both halves of a pair, in one clk: all sources are read from the core as it stood, effects outside the
registers come C-half first, and a stall or fault of either leaves the pair without effect (R37, R40; 00 R10, R11). -/
def issuePair (exec : Exec) (s : State) (i : Instr) (w : InstrWord) (i' : Instr) (w' : InstrWord) :
    Host.Outcome State Fault Refusal :=
  match exec i { s with issue := { Issue.start with slot := .cHalf, snap := some (s.core s.cur), word := w } } with
  | .next t => aHalf exec s i' w w' t
  | .fault r => .fault r
  | .refused r => .refused r

/-- A core issues in this clk: it runs an activation, no JLR, ERET or trap holds its next pair (03 R78), and no freeze
or gating has stopped its cluster. -/
def State.canIssue (s : State) (c : Nat) : Bool :=
  decide ((s.core c).mode = .running) && decide ((s.core c).nextPair ≤ s.clk) && !(s.cl (clusterOf c)).frozen && decide ((s.cl (clusterOf c)).power = .running)

/-- What a pair whose halves have taken effect still has to do (01 R40). -/
def finishPair (after : After) (s : State) : State :=
  let s := { s with issue := { Issue.start with slot := .cHalf, word := s.fetchWord s.cur (s.core s.cur).pc, after := after } }
  match complete s with
  | .ok (_, t) => { t with issue := Issue.start }
  | .error e => s.settle e

/-- One issue of core `c`. -/
def issueCore (exec : Exec) (c : Nat) (s : State) : Host.Outcome State Fault Refusal :=
  let s := { s with cur := c, issue := Issue.start }
  if !s.canIssue c then .next s
  else match (s.core c).owed with
  | some after => .next (finishPair after s)
  | none => match s.fetch c with
    | .lone i w => exec i { s with issue := { Issue.start with word := w } }
    | .pair i w i' w' => issuePair exec s i w i' w'
    | .bad cause info pair half w => .next (s.takeException c ⟨cause, info, (s.core c).pc, pair, half, w, 0⟩)

end Sys2Proof.Machine
end

