-- ==== Sys2Proof/Machine/Place.lean ====
section
/-!
DEFINITION. Placing one instruction where the next step issues it (log 7).
-/

namespace Sys2Proof.Machine

/-- The activation that stands for a program that has been loaded and started (log 7). -/
def placedAct : Act :=
  { queue := 0xffff, handler := 0, kind := 0, rank := 0, size := 1, eff := 0, base := 0, parent := none,
    children := 0, start := 0, args := [], place := .running 0, frame := none, call := [], span := none,
    member := false, role := some (0, 0), home := 0, gate := (0, []), left := [], endAt := none }

/-- A word of class A with L = 0 is an A-half, any other word with L = 0 a C-half; the other half is neutral:
`addi x0, x0, 0` or `tpoll x0, x0`. -/
def placedWords (w : InstrWord) : List InstrWord :=
  if isLone w then [w]
  else if isClassA w then [encodeWith 0 (.tpoll 0 0) |>.getD 0, w]
  else [w, encodeWith 0 (.addi 0 0 0) |>.getD 0]

/-- Core 0 runs an activation whose pc is the window base, where the word stands, and issues next. -/
def placeWord (s : State) (_nbits w : Nat) : State :=
  let bytes := (placedWords (BitVec.ofNat 32 w)).flatMap (fun v => leBytes 4 v.toNat)
  let s := { s with mem := memWrite s.mem (localKey 0 0) bytes, turns := [.issue 0] }
  let s := s.setAct 0 0 placedAct
  let s := s.modCl 0 (fun k => { k with frozen := false, power := .running, region := some 0 })
  s.modCore 0 (fun k => { k with pc := 0x10000, mode := .running, act := some 0, role := some (0, 0), stale := [], nextPair := 0 })

end Sys2Proof.Machine
end

