-- ==== Sys2Proof/Machine/Schedule.lean ====
section
/-!
DEFINITION. What a clk holds: which units may move in it, in the model's default order (log 6). A unit whose conditions
fail at its turn does nothing, and any other order of `State.turns` is equally a behaviour of the model.
-/

namespace Sys2Proof.Machine

/-- Numbers below `n`, the highest first: places in a list from which a turn may take its own element. -/
def backwards (n : Nat) : List Nat := (List.range n).reverse

/-- Results, accesses and walks (03 R78, 05 R130, R136, 12 R287). -/
def State.accessTurns (s : State) : List Ev :=
  s.cores.flatMap (fun (p : Nat × Core) =>
    (p.2.pending.filter (fun r => decide (r.ready ≤ s.clk))).map (fun r => Ev.resultWriteback p.1 r.id)) ++
  s.cores.flatMap (fun (p : Nat × Core) => p.2.mem.map (fun o => match o.kind with
    | .store _ => Ev.storeDrain p.1 o.id
    | .load _ => Ev.loadReply p.1 o.id
    | .gather _ _ => Ev.loadReply p.1 o.id
    | .vload => Ev.loadReply p.1 o.id
    | _ => Ev.atomicAtPort p.1 o.id)) ++
  s.walks.map (fun w => Ev.pageWalk w.cluster w.part w.va)

/-- The copy engine of a core (05 R141-R153). -/
def Core.copyTurns (c : Nat) (k : Core) : List Ev :=
  k.copies.flatMap (fun x => match x.phase with
    | .queued => []
    | .finished => [Ev.commandComplete c x.id]
    | .voided => [Ev.roundRestart c x.id] ++ (if x.rounds.isEmpty then [] else [Ev.copyRound c x.id])
    | _ => if x.kind = .carm then [Ev.descriptorCheck c x.id] else [Ev.copyRound c x.id]) ++
  (k.copies.filter (fun x => x.rounds.any (fun r => decide (r.stage = .decode) && !r.asked))).map (fun x => Ev.decodeBlock c x.id) ++
  (if k.copies.any (fun x => decide (x.phase = .queued)) then [Ev.copyEngineAccept c] else []) ++
  k.templates.map (fun t => Ev.templateFiring c t.1)

/-- Copy engines and remote operations (05 R143). -/
def State.copyAll (s : State) : List Ev :=
  (backwards s.remOut.length).map Ev.remoteReply ++ (backwards s.remIn.length).map Ev.remoteRequest ++
  s.cores.flatMap (fun (p : Nat × Core) => p.2.copyTurns p.1) ++ (backwards s.decodes.length).map Ev.remoteDecode

/-- Matrix units: a pass is granted, then steps (11 R266-R273). -/
def State.matrixTurns (s : State) : List Ev :=
  s.clusters.flatMap (fun (p : Nat × Cluster) =>
    let cores := (p.2.mat.queues.filter (fun q => !q.2.isEmpty)).map (fun q => 8 * p.1 + q.1)
    cores.map (fun c => Ev.matrixCommandComplete p.1 c) ++
      (if cores.isEmpty then [] else [Ev.matrixPassGrant p.1, Ev.kStep p.1]) ++ cores.map (fun c => Ev.operandFetch p.1 c))

/-- Atolls (14 R320-R323). -/
def State.atollTurns (s : State) : List Ev :=
  s.cores.flatMap (fun (p : Nat × Core) => p.2.atollQ.map (fun _ => Ev.atollArrival p.1)) ++
  s.clusters.flatMap (fun (p : Nat × Cluster) =>
    if p.2.atoll.arrivals.isEmpty && p.2.atoll.serving.isNone &&
      (List.range 8).all (fun i => (s.core (8 * p.1 + i)).atollQ.isEmpty) then []
    else [Ev.atollServiceStart p.1, Ev.lrunStepOutput p.1, Ev.lrunStep p.1, Ev.tableLoadSlotRead p.1, Ev.tableLoadCommit p.1])

/-- The command or header that a receive engine takes in this clk: commands first (15 R336). -/
def Engine.intake (clk e : Nat) (g : Engine) : List Ev :=
  match (List.range g.inbox.length).findSome? (fun i => (g.taken clk i).map (fun r => (i, r))) with
  | some (i, r) => (match r.cmd with
    | .post _ => [Ev.postAtEngine e i]
    | .cancel _ => [Ev.cancelAtEngine e i]
    | .probe _ => [Ev.probeAtEngine e i]
    | .xten _ _ => [Ev.tensorMapAtEngine e i])
  | none => match g.firstHeader clk with
    | some i => [Ev.messageHeaderArrival e i]
    | none => []

/-- Receive engines (15 R336-R345). -/
def State.engineTurns (s : State) : List Ev :=
  s.engines.flatMap (fun (p : Nat × Engine) =>
    p.2.intake s.clk p.1 ++ (if p.2.deciding.isEmpty then [] else [Ev.matchDecision p.1 0]) ++
    (backwards p.2.refused.length).map (fun i => Ev.retryBackoffExpiry p.1 i) ++
    p.2.slots.flatMap (fun (q : Nat × Post) => match q.2.state with
      | .matched => [Ev.eagerLanding p.1 q.1, Ev.landingRound p.1 q.1, Ev.rendezvousPull p.1 q.1]
      | .pushed => [Ev.postSlotFree p.1 q.1]
      | _ => []) ++
    (if p.2.slots.any (fun q => decide (q.2.state = .completing)) then [Ev.completionPush p.1] else []) ++
    p.2.answers.map (fun a => Ev.engineAnswer a.1 a.2.1))

/-- The turns of one queue: hops by link, relays, acceptance, credits, deliveries (09 R218-R223, 18 R408). -/
def queueTurns (q : Nat) (k : Queue) : List Ev :=
  (backwards k.flight.length).map (fun i => Ev.itemAccept q i) ++ (List.range k.relays.length).map (fun r => Ev.relayForward q r) ++
  (backwards k.returns.length).map (fun i => Ev.creditReturn q i) ++
  (if k.cls = 2 then [Ev.guardedRelease q] else []) ++
  k.branches.zipIdx.flatMap (fun b => match b.1.consumer with
    | .client _ => if b.1.store.isEmpty then [] else [Ev.clientDelivery q b.2]
    | _ => [])

/-- Links on which some flit may move, each once a clk (09 R223). -/
def State.links (s : State) : List (Nat × Nat) :=
  (s.queues.flatMap (fun (q : Nat × Queue) => q.2.flight.flatMap (fun f =>
    (q.2.groups f).filterMap (fun g => g.1.map (fun h => (f.place, h.1)))))).eraseDups

/-- Clusters whose last full signal differs from their system-call queue's state (03 R86). -/
def State.signalTurns (s : State) : List Ev :=
  s.clusters.filterMap (fun (p : Nat × Cluster) => match p.2.sysq with
    | none => none
    | some q => match mget s.queues q with
      | none => none
      | some k => if k.branches.any (fun b => decide (k.capacity ≤ b.store.length)) = p.2.sysFull then none
                  else some (Ev.fullSignal q p.1))

/-- The mesh, the queues and the Strait ports. -/
def State.meshTurns (s : State) : List Ev :=
  s.links.map (fun l => Ev.flitHop l.1 l.2) ++ s.queues.flatMap (fun (q : Nat × Queue) => queueTurns q.1 q.2) ++
  s.signalTurns ++ (s.straits.filter (fun (t : Nat × Strait) => !t.2.egress.isEmpty)).map (fun t => Ev.straitSlot t.1)

/-- Fault buffers, and supervisor cores that have stopped (17 R381-R386). -/
def State.faultTurns (s : State) : List Ev :=
  s.cores.flatMap (fun (p : Nat × Core) => match p.2.mode with
    | .saving _ _ => [Ev.faultFrameWritten p.1]
    | .stopped => [Ev.supervisorCoreReset p.1]
    | _ => []) ++
  (s.clusters.filter (fun (p : Nat × Cluster) => p.2.overflow || p.2.faults.any (fun f => f.2.valid && decide (f.2.after ≠ 0)))).map
    (fun p => Ev.faultEntryHandover p.1)

/-- Loads and replacements in progress (01 R26-R31, 08 R204-R212). -/
def State.loadTurns (s : State) : List Ev :=
  s.progs.flatMap (fun (p : Nat × Program) =>
    (backwards p.2.blocks.length).map (fun i => Ev.imageBlock p.1 ((p.2.blocks[i]?).elim 0 (fun b => b.1)) i) ++
    (match p.2.phase with
      | .loading => (p.2.cores p.1).map Ev.loadedReport
      | .starting => (p.2.cores p.1).map Ev.startAck
      | .committing => (p.2.cores p.1).map Ev.startAck
      | .staging => (p.2.cores p.1).map Ev.stagedReport
      | .cutting => (p.2.cores p.1).flatMap (fun c =>
          (match (s.core c).cutState with
            | some t => t.inputs.map (fun i => Ev.markerAtHead c i.queue)
            | none => []) ++ [Ev.cutReport c]) ++ (if p.2.marks.isEmpty then [] else [Ev.serviceMark p.1]) ++ [Ev.cutTimeout p.1]
      | .live => []))

/-- Freezes and gating (17 R390-R399). -/
def State.freezeTurns (s : State) : List Ev :=
  s.freezes.flatMap (fun (f : Nat × Freeze) =>
    ((freezeClusters f.2.value).filter (fun k => !(s.cl k).frozen)).map (fun k => Ev.freezeWaveArrival f.1 k) ++ [Ev.drainComplete f.1]) ++
  s.clusters.flatMap (fun (p : Nat × Cluster) =>
    (match p.2.power with | .waking _ => [Ev.wakeComplete p.1] | _ => []) ++
    (if p.2.request = 0 then [] else [Ev.gatingTakesEffect p.1]))

/-- The journal unit, the partner's rings and its own turns (16 R358-R376). -/
def State.journalTurns (s : State) : List Ev :=
  s.cores.flatMap (fun (p : Nat × Core) =>
    (p.2.jsyncs.filter (fun x => decide (x.2.1 ≤ s.journal.acked))).map (fun x => Ev.commandComplete p.1 x.1) ++
    p.2.recAns.map (fun a => Ev.jrecAnswer p.1 a.1) ++ (p.2.recs.head?.map (fun r => [Ev.recordArrival p.1 r.id])).getD []) ++
  (if s.journal.truncs.isEmpty then [] else [Ev.truncation 0]) ++
  (if s.journal.buffer.isEmpty then [] else [Ev.recordSend, Ev.recordSend]) ++
  s.rings.flatMap (fun (r : Nat × JRing) => (if r.2.arrived.isEmpty then [] else [Ev.partnerRecordWrite r.1]) ++
    (if r.2.valid then [Ev.ackSend r.1] else [])) ++
  (if s.journal.state = 1 then [Ev.partnerDownTimeout] else [])

/-- Host ports and islands (18 R404-R408, R415). -/
def State.hostTurns (s : State) : List Ev :=
  s.hosts.flatMap (fun (h : Nat × HostPort) => (backwards h.2.waiting.length).map (fun i => Ev.hostRetry h.1 i) ++
    (backwards h.2.pushed.length).map (fun i => Ev.hostPushed h.1 i)) ++
  (s.islands.filter (fun (i : Nat × Island) => decide (i.2.current ≠ max i.2.request i.2.floor_))).map (fun i => Ev.pointChange i.1)

/-- Requests, answers, barriers, spans and calls (03 R86, 04 R113, R121, 09 R238-R240). -/
def State.answerTurns (s : State) : List Ev :=
  (backwards s.calls.length).map Ev.callAnswered ++ (backwards s.actReqs.length).map Ev.actRequestArrival ++ s.actReqs.map (fun r => Ev.actAnswer r.core r.id) ++
  s.clusters.flatMap (fun (p : Nat × Cluster) =>
    (p.2.bars.filter (fun b => b.2.doneAt.isSome)).map (fun b => Ev.barrierRelease p.1 b.1) ++
    (if p.2.callers.isEmpty then [] else [Ev.parkedCallerResume p.1])) ++
  s.spans.flatMap (fun (p : Nat × Span) => (backwards p.2.releases.length).map (fun i => Ev.spanBarrierRelease p.1 i) ++
    (backwards p.2.inFlight.length).map (fun i => Ev.spanBarrierArrival p.1 i) ++
    (if p.2.started then [] else [Ev.spanMembersPlaced p.1])) ++
  (s.parts.filterMap (fun (p : Nat × Partition) => p.2.sysQ)).map Ev.spanStartCall

/-- Schedulers: continuations and entries, then selections, then starts (09 R230-R236). -/
def State.schedulerTurns (s : State) : List Ev :=
  s.clusters.flatMap (fun (p : Nat × Cluster) =>
    (p.2.acts.filter (fun a => match a.2.place with | .waitChildren => true | .ready _ _ => true | _ => false)).map
      (fun a => Ev.continuationReady p.1 a.1)) ++
  (s.cores.filter (fun (p : Nat × Core) => p.2.roleCopy.isSome)).map (fun p => Ev.roleCopy p.1) ++
  s.cores.map (fun (p : Nat × Core) => Ev.inlineChildReturn p.1) ++
  s.cores.flatMap (fun (p : Nat × Core) => p.2.triggers.map (fun t => Ev.triggerEntry p.1 t.handler)) ++
  (s.clusters.filter (fun (p : Nat × Cluster) => p.2.crew.isSome)).map (fun p => Ev.crewStart p.1) ++
  (s.cores.filter (fun (p : Nat × Core) => decide (p.2.mode = .idle))).map (fun p => Ev.select p.1) ++
  (s.cores.filter (fun (p : Nat × Core) => match p.2.mode with | .starting _ _ _ => true | _ => false)).map
    (fun p => Ev.activationStart p.1)

/-- The units' turns of a clk, in the default order: the Atoll takes up service before it completes, the matrix unit grants
before it steps, an inline parent returns before its core selects, a receive engine takes a command before a header. -/
def State.unitTurns (s : State) : List Ev :=
  s.accessTurns ++ s.copyAll ++ s.matrixTurns ++ s.atollTurns ++ s.engineTurns ++ s.meshTurns ++ s.answerTurns ++
    s.journalTurns ++ s.faultTurns ++ s.loadTurns ++ s.freezeTurns ++ s.hostTurns ++ s.schedulerTurns

/-- Cores that issue in this clk, in ascending index. -/
def State.issuers (s : State) : List Turn :=
  (s.cores.filter (fun p => s.canIssue p.1)).map (fun p => .issue p.1)

/-- The start of a clk: cluster-register writes of the last one take effect (03 R91), and the turns are laid out: what comes
from outside, the units, the cores. -/
def State.tick (s : State) : State :=
  let s := { s.applyClusterWrites with clk := s.clk + 1 }
  { s with
    turns := (s.inputs.filter (fun p => decide (p.1 ≤ s.clk))).map (fun p => .event p.2) ++ s.unitTurns.map Turn.unit ++ s.issuers
    inputs := s.inputs.filter (fun p => decide (s.clk < p.1)) }

end Sys2Proof.Machine
end

