-- ==== Sys2Proof/Machine/Turns.lean ====
section
/-!
DEFINITION. What each step of a unit does: the meaning of the row of `Instr` that has its name.
-/

namespace Sys2Proof.Machine

/-- A unit takes a step. -/
def Ev.run (e : Ev) (s : State) : Host.Outcome State Fault Refusal :=
  match e with
  | .supervisorCoreReset core => execSupervisorCoreReset core s
  | .resultWriteback core id => execResultWriteback core id s
  | .loadReply core id => execLoadReply core id s
  | .roleCopy core => execRoleCopy core s
  | .showAccess core id sc => execShowAccess core id sc s
  | .laneAccess core id lane => execLaneAccess core id lane s
  | .callAnswered i => execCallAnswered i s
  | .storeDrain core id => execStoreDrain core id s
  | .atomicAtPort core id => execAtomicAtPort core id s
  | .pageWalk cluster part va => execPageWalk cluster part va s
  | .deviceRegisterWrite offset value => execDeviceRegisterWrite offset value s
  | .copyEngineAccept core => execCopyEngineAccept core s
  | .copyRound core id => execCopyRound core id s
  | .roundRestart core id => execRoundRestart core id s
  | .commandComplete core id => execCommandComplete core id s
  | .templateFiring core t => execTemplateFiring core t s
  | .descriptorCheck core id => execDescriptorCheck core id s
  | .remoteRequest i => execRemoteRequest i s
  | .remoteReply i => execRemoteReply i s
  | .remoteDecode i => execRemoteDecode i s
  | .serviceMark region => execServiceMark region s
  | .decodeBlock core id => execDecodeBlock core id s
  | .matrixPassGrant cluster => execMatrixPassGrant cluster s
  | .operandFetch cluster core => execOperandFetch cluster core s
  | .kStep cluster => execKStep cluster s
  | .matrixCommandComplete cluster core => execMatrixCommandComplete cluster core s
  | .atollArrival core => execAtollArrival core s
  | .atollServiceStart cluster => execAtollServiceStart cluster s
  | .tableLoadSlotRead cluster => execTableLoadSlotRead cluster s
  | .tableLoadCommit cluster => execTableLoadCommit cluster s
  | .lrunStep cluster => execLrunStep cluster s
  | .lrunStepOutput cluster => execLrunStepOutput cluster s
  | .postAtEngine e i => execPostAtEngine e i s
  | .cancelAtEngine e i => execCancelAtEngine e i s
  | .probeAtEngine e i => execProbeAtEngine e i s
  | .tensorMapAtEngine e i => execTensorMapAtEngine e i s
  | .engineAnswer core id => execEngineAnswer core id s
  | .messageHeaderArrival e i => execMessageHeaderArrival e i s
  | .matchDecision e i => execMatchDecision e i s
  | .retryBackoffExpiry e i => execRetryBackoffExpiry e i s
  | .eagerLanding e slot => execEagerLanding e slot s
  | .rendezvousPull e slot => execRendezvousPull e slot s
  | .landingRound e slot => execLandingRound e slot s
  | .completionPush e => execCompletionPush e s
  | .postSlotFree e slot => execPostSlotFree e slot s
  | .straitSlot p => execStraitSlot p s
  | .flitHop router dir => execFlitHop router dir s
  | .relayForward q r => execRelayForward q r s
  | .itemAccept q i => execItemAccept q i s
  | .creditReturn q i => execCreditReturn q i s
  | .fullSignal q cluster => execFullSignal q cluster s
  | .triggerEntry core handler => execTriggerEntry core handler s
  | .select core => execSelect core s
  | .activationStart core => execActivationStart core s
  | .continuationReady cluster act => execContinuationReady cluster act s
  | .inlineChildReturn core => execInlineChildReturn core s
  | .crewStart cluster => execCrewStart cluster s
  | .actRequestArrival i => execActRequestArrival i s
  | .actAnswer core id => execActAnswer core id s
  | .barrierRelease cluster bar => execBarrierRelease cluster bar s
  | .spanBarrierArrival span i => execSpanBarrierArrival span i s
  | .spanBarrierRelease span i => execSpanBarrierRelease span i s
  | .parkedCallerResume cluster => execParkedCallerResume cluster s
  | .spanStartCall q => execSpanStartCall q s
  | .spanMembersPlaced span => execSpanMembersPlaced span s
  | .imageBlock region cluster i => execImageBlock region cluster i s
  | .loadedReport core => execLoadedReport core s
  | .startAck core => execStartAck core s
  | .stagedReport core => execStagedReport core s
  | .markerAtHead core q => execMarkerAtHead core q s
  | .cutReport core => execCutReport core s
  | .cutTimeout region => execCutTimeout region s
  | .faultFrameWritten core => execFaultFrameWritten core s
  | .faultEntryHandover cluster => execFaultEntryHandover cluster s
  | .freezeWaveArrival part cluster => execFreezeWaveArrival part cluster s
  | .drainComplete part => execDrainComplete part s
  | .gatingTakesEffect cluster => execGatingTakesEffect cluster s
  | .wakeComplete cluster => execWakeComplete cluster s
  | .recordArrival core id => execRecordArrival core id s
  | .jrecAnswer core id => execJrecAnswer core id s
  | .recordSend => execRecordSend s
  | .partnerRecordWrite ring => execPartnerRecordWrite ring s
  | .ackSend ring => execAckSend ring s
  | .guardedRelease q => execGuardedRelease q s
  | .truncation i => execTruncation i s
  | .partnerDownTimeout => execPartnerDownTimeout s
  | .clientDelivery q branch => execClientDelivery q branch s
  | .pointChange island => execPointChange island s
  | .hostRetry port i => execHostRetry port i s
  | .hostPushed port i => execHostPushed port i s

end Sys2Proof.Machine
end

