-- ==== Sys2Proof/Machine/Step.lean ====
section
/-!
DEFINITION. One step: the next turn of this clk, or, when none is left, the start of the next clk.
-/

namespace Sys2Proof.Machine

/-- One step (log 6). A core's turn issues its word or pair; a unit's turn takes its event. -/
def step (s : State) : Host.Outcome State Fault Refusal :=
  match s.turns with
  | [] => .next s.tick
  | .issue c :: rest => issueCore exec c { s with turns := rest }
  | .unit e :: rest => e.run { s with turns := rest }
  | .event i :: rest => if isEncoded i then .next { s with turns := rest } else exec i { s with turns := rest }

/-- The instruction of an opcode-table row placed where the next step issues it: at core 0's pc (log 7). -/
def State.withFetchWord (s : State) (nbits w : Nat) : State := placeWord s nbits w

end Sys2Proof.Machine
end

