-- ==== Sys2Proof/Safety.lean ====
section
/-!
DEFINITION. What a safe state and a safe run are, and the conditions on a state under which an instruction runs its normal
course, in the words that claims use.
-/

namespace Sys2Proof.Machine

/-- A step that is neither a fault of the model nor a refusal. -/
def Completes (o : Host.Outcome State Fault Refusal) : Prop := ∃ t, o = .next t

/-- Memory in its canonical form. -/
abbrev State.memOk (s : State) : Prop := Memory.wf s.mem = true

/-! ### The core that issues -/

/-- The core that issues. -/
def State.me (s : State) : Core := s.core s.cur

/-- The cluster of the core that issues. -/
def State.myCl (s : State) : Cluster := s.cl (clusterOf s.cur)

/-- A lone word issues: nothing of a pair has run before it (01 R33). -/
def State.lone (s : State) : Bool := decide (s.issue = { Issue.start with word := s.issue.word })

/-- No port of the core is bound to x[r] (04 R103). -/
def Core.unbound (k : Core) (r : Reg) : Bool := decide (r.toNat < 24) || (mget k.ports (r.toNat - 24)).isNone

/-- x[r] can be read and written at once: it is x0, or no result for it is pending (03 R78) and no port stands for it. -/
def Core.xFree (k : Core) (r : Reg) : Bool := decide (r = 0) || (!k.isPending (.x r.toNat) && k.unbound r)

/-- No result for v[r] is pending (06 R158). -/
def Core.vFree (k : Core) (r : Reg) : Bool := !k.isPending (.v r.toNat)

/-- m[r] is m0, or no result for it is pending (06 R158). -/
def Core.mFree (k : Core) (r : Nat) : Bool := decide (r = 0) || !k.isPending (.m r)

/-- Every register of a list can be read and written at once. -/
def State.xOk (s : State) (rs : List Reg) : Bool := rs.all s.me.xFree

/-- x[r] of the core that issues. -/
def State.xv (s : State) (r : Reg) : Word := s.me.getX r.toNat

/-- v[r] of the core that issues. -/
def State.vv (s : State) (r : Reg) : Vec := s.me.getV r.toNat

/-- m[r] of the core that issues. -/
def State.mv (s : State) (r : Nat) : MaskWord := s.me.getM r

/-- No memory-error waits to be raised (18 R411). -/
def Core.poisonFree (k : Core) : Bool := k.waits.all (fun w => match w.err with | .memory _ => false | _ => true)

/-- Nothing holds END, SYNC or YIELD: no failure is recorded, every token is zero and no memory-error waits (05 R142, 18
R411). -/
def Core.tokensDone (k : Core) : Bool := k.fails.isEmpty && k.tokensClear && k.poisonFree

/-- Every JREC of the core has its jsn and none diverges (16 R359, R372). -/
def Core.recordsDone (k : Core) : Bool := k.diverged.isNone && !k.recording

/-- Activation `a`, number `n`, runs on the core that issues. -/
def State.runs (s : State) (n : Nat) (a : Act) : Prop := s.me.act = some n ∧ s.act? (clusterOf s.cur) n = some a

/-- The core changed by `f`, and nothing else. -/
def State.onMe (s : State) (f : Core → Core) : State := s.modCore s.cur f

/-! ### Ports (04 R101-R103) -/

/-- The open binding of a port register of the core that issues, with its queue. -/
def State.opened (s : State) (p : Reg) : Option (Binding × Queue) :=
  match mget s.me.ports (p.toNat - 24) with
  | none => none
  | some b =>
    match mget s.queues (s.bindKey b) with
    | some q => if q.isOpen then some (b, q) else none
    | none => none

/-! ### Accesses of the core that issues (05 R126-R130, R137) -/

/-- The key of the memory that an access of `size` bytes at `va` reaches, when nothing faults or holds it: its address is
canonical and aligned, it translates with the rights asked for, its target takes it, and no footprint covers it. -/
def State.reach (s : State) (va : Word) (size : Nat) (needR needW atomic : Bool) (except : List Nat := []) : Option Nat :=
  match s.xlate s.cur va needR needW with
  | .ok pa =>
    let own := match placeOf va with | .own _ => true | _ => false
    if canonical va && decide (va.toNat % size = 0) && spaceOk (isSup s.cur) atomic own s.chip.toNat pa size &&
      !s.me.footHolds va.toNat size except then some (paKey pa) else none
  | _ => none

/-- The translation that an access has used is the one used last (12 R287). -/
def State.used (s : State) (va : Word) : State := s.useTlb (clusterOf s.cur) (s.partOf s.cur) va.toNat

/-- The keys of several accesses, one after the other, and the state in which the last one has translated. -/
def State.reachAll (s : State) (size : Nat) (write : Bool) (except : List Nat) : List Word → Option (List Nat × State)
  | [] => some ([], s)
  | va :: rest =>
    match s.reach va size (!write) write false except with
    | none => none
    | some key =>
      match (s.used va).reachAll size write except rest with
      | none => none
      | some (keys, t) => some (key :: keys, t)

/-- Loads outstanding, and stores buffered, of the core that issues (05 R130). -/
def State.loadsOut (s : State) : Nat := (s.me.mem.filter (fun o => o.isLoad)).length
def State.storesOut (s : State) : Nat := (s.me.mem.filter (fun o => o.isStore)).length

/-- An access joins the core's list: a new identifier, its parts, and its destinations pending (05 R130). -/
def State.enters (s : State) (kind : MemKind) (lanes : List (Nat × Nat)) (size : Nat) (dests : List Dest)
    (acq rel : Option Scope) (delay : Nat) (vas : List Word) : State :=
  ({ s with nextId := s.nextId + 1 } : State).onMe (fun k => { k with
    mem := k.mem ++ [{ id := s.nextId, kind := kind, lanes := lanes, size := size, dest := dests.head?, acq := acq,
                       rel := rel, shown := none, ready := s.clk + delay, va := vas.headD 0, vas := vas }]
    waits := k.waits ++ dests.map (fun d => ⟨s.nextId, d, .none⟩) })

/-! ### Commands of the engines (05 R137, R141) -/

/-- The copy engine's two-entry command queue has room for the core that issues (05 R141). -/
def State.copyRoom (s : State) : Bool :=
  decide ((s.me.copies.filter (fun c => decide (c.phase = .queued) && c.template.isNone)).length < 2)

/-- A command has issued: it has the next identifier, counts on its token, and takes a footprint entry if `takes`. -/
def State.counts (s : State) (token : Nat) (takes : Prop) [Decidable takes] (reads writes : List (Nat × Nat)) : State :=
  ({ s with nextId := s.nextId + 1 } : State).onMe (fun k =>
    let k := k.setK token (k.getK token + 1)
    if takes then { k with foot := k.foot ++ [⟨s.nextId, reads, writes⟩] } else k)

/-! ### Matrix commands and descriptors (07 R175, R177, R191) -/

/-- The core's four-entry matrix queue has room (07 R175). -/
def State.matrixRoom (s : State) : Bool :=
  decide (((mgetD s.myCl.mat.queues (s.cur % 8) []).filter (fun c => c.doneAt.isNone)).length < 4)

/-- The store operand that a base and a geometry word describe, if it is well formed and lies in the own slice (07 R177). -/
def State.operand (s : State) (base g : Word) (bits : Nat) (useF useI : Bool) : Option Geo :=
  let geo := Geo.ofWord g
  if !geoOk g useF useI then none
  else match s.ownSlice s.cur base (geo.span (rowBytes bits geo.cols)) with
    | none => none
    | some off =>
      let ch := s.myCl.getChan (bitsAt g.toNat 24 5)
      some { geo with base := off, scale := s.myCl.getZ ch.scale, rm := ch.rm }

/-- An operand of MMAC that can be read at once: a register panel, or a store operand with its range; an integer format has
no scale (10 R264). -/
def State.panel (s : State) (r : Reg) (store : Bool) (t : Fmt) : Option (Option Vec × Option Geo × List (Nat × Nat)) :=
  if store then
    match s.xOk [r, r + 1], s.operand (s.xv r) (s.xv (r + 1)) (laneBits t) false false with
    | true, some g => some (none, some { g with scale := if t.isFloat then g.scale else 0 },
        [((s.xv r).toNat, g.span (rowBytes (laneBits t) g.cols))])
    | _, _ => none
  else if s.me.vFree r then some (some (s.vv r), none, []) else none

/-- A matrix command as it joins its queue. -/
def command (s : State) (kind : MatKind) (tile : Nat) (rows : List Nat) (tm tn : Nat) (tkind : TileKind) (token : Reg3) : MatCmd :=
  { id := s.nextId, kind := kind, tile := tile, rows := rows, tm := tm, tn := tn, tkind := tkind, token := token.toNat,
    prio := s.me.mprio, pass := 0, fetched := false, aBuf := [], bBuf := [], checked := false, lastFetched := false,
    lines := none, stage := [], since := s.clk, doneAt := none, word := s.issue.word }

/-- A matrix command has joined the core's queue. -/
def State.joins (s : State) (cmd : MatCmd) : State :=
  s.modCl (clusterOf s.cur) (fun k => { k with
    mat := { k.mat with queues := mset k.mat.queues (s.cur % 8) (mgetD k.mat.queues (s.cur % 8) [] ++ [cmd]) } })

/-- A handle is bound to a new tile. -/
def State.binds (s : State) (r : Reg) (t : Tile) : State :=
  (s.modCl (clusterOf s.cur) (fun k => { k with tiles := mset k.tiles k.nextTile t, nextTile := k.nextTile + 1 })).onMe
    (fun k => { k with a := mset k.a r.toNat s.myCl.nextTile })

/-- Nothing holds a read of the core's local store that goes before its buffered stores: no earlier acquire, no atomic or remote
operation on its way to the bytes, no access of another core that counts as performed there (13 R298, R299, R302). -/
def State.readsNow (s : State) (key n : Nat) : Bool :=
  !s.me.mem.any (fun o => o.holdsLater || (o.isAtomic && o.touches key n)) &&
    !s.remoteHeld s.cur s.nextId (s.paOfKey key) n && !s.shownHolds (some s.cur) false key n

/-- The words of a descriptor that can be read at once: aligned, wholly in the own local store, covered by no footprint, held by
nothing, not poisoned (07 R191). -/
def State.descriptor (s : State) (va : Word) (align n : Nat) : Option (List Word) :=
  match placeOf va, placeOf (va + BitVec.ofNat 64 (8 * n - 1)) with
  | .own off, .own _ =>
    let key := localKey s.cur off
    if decide (va.toNat % align = 0) && !s.me.footHolds va.toNat (8 * n) [] && s.readsNow key (8 * n) && !s.isPoisoned key (8 * n)
    then some (wordsOfBytes n (s.readOwn s.cur key (8 * n))) else none
  | _, _ => none

/-- What a lone word that writes no x, v or m register leaves alone: those registers, the flags, the trap registers, memory
and every other core; its pc goes on. -/
def State.movesOn (s t : State) : Prop :=
  t.me.pc = s.me.pc + 4 ∧ t.me.x = s.me.x ∧ t.me.v = s.me.v ∧ t.me.m = s.me.m ∧ t.me.yflags = s.me.yflags ∧
    t.me.mode = s.me.mode ∧ t.me.th = s.me.th ∧ t.me.yepc = s.me.yepc ∧ t.me.ycause = s.me.ycause ∧
    t.me.yinfo = s.me.yinfo ∧ t.mem = s.mem ∧ t.clk = s.clk ∧ t.cur = s.cur ∧ ∀ c, c ≠ s.cur → t.core c = s.core c

/-! ### What is left when a lone word has run -/

/-- x[r] written; a write to x0 is discarded (02 R54). -/
def State.putX (s : State) (r : Reg) (v : Word) : State := if r = 0 then s else s.onMe (fun k => k.setX r.toNat v)

/-- v[r] written. -/
def State.putV (s : State) (r : Reg) (v : Vec) : State := s.onMe (fun k => k.setV r.toNat v)

/-- m[r] written; m0 is not writable (02 R54). -/
def State.putM (s : State) (r : Reg) (v : MaskWord) : State := s.onMe (fun k => k.setM r.toNat v)

/-- The core keeps nothing for the next issue of the same pair: no arrival at a barrier, nothing that the pair still owes. -/
def Core.afresh (k : Core) : Core := { k with barArrived := false, owed := none }

/-- A lone word has run and left the rest of its effect in `s`: the pc goes on at `pc` (01 R35). -/
def State.goes (s : State) (pc : Word) : State :=
  { s.onMe (fun k => { k.afresh with pc := pc }) with issue := Issue.start }

/-- A lone word has run: the pc goes on past it. -/
def State.past (s : State) : State := s.goes (s.me.pc + 4)

/-- The pair has been left behind, and nothing else of the machine has changed: a stall (00 R11). -/
def State.held (s : State) : State := { s with issue := Issue.start }

/-- The exception that a lone word raises (00 R10): the cause and its information, with the word's address and bits. -/
def State.raised (s : State) (c : Cause) (info : Word) : State :=
  s.held.takeException s.cur ⟨c, info, s.me.pc, false, false, s.issue.word, 0⟩

/-- A result that is pending: the new identifier, the register, its value and flags, and the clk at which it is there. -/
def State.later (s : State) (d : Dest) (v : Vec) (flags : BitVec 6) (lat : Nat) (unit : ResultUnit := .scalar) : State :=
  ({ s with nextId := s.nextId + 1 } : State).onMe (fun k => { k with pending := k.pending ++ [⟨s.nextId, d, v, flags, s.clk + lat, unit⟩] })

/-- A vector result with its flags: at once for a latency of 1 (which sets none), else pending (06 R158). -/
def State.writesV (s : State) (r : Reg) (v : Vec) (flags : BitVec 6) (lat : Nat) : State :=
  if lat = 1 then s.putV r v else s.later (.v r.toNat) v flags lat

end Sys2Proof.Machine
end

