-- ==== Sys2Proof/Certificates/Slice0/Obligations.lean ====
section
/-!
DEFINITION. The statements for the provers, and the vocabulary that they are written in. Results are written from the
tables of the spec with integers and bit positions, not with the functions of the model that they speak about.
-/

namespace Sys2Proof.Claims

open Sys2Proof.Machine

/-! ### Scalar results (03 R72-R76) -/

/-- 1 where a comparison holds, else 0. -/
def asWord (p : Bool) : Word := if p then 1 else 0

/-- How many zero bits come before the first 1 among the bits that `at_` names, 64 if none does. -/
def zerosBefore (a : Word) (at_ : Nat → Nat) : Nat := ((List.range 64).find? (fun i => a.getLsbD (at_ i))).getD 64

/-- How many bits are 1. -/
def onesIn (a : Word) : Nat := ((List.range 64).filter (fun i => a.getLsbD i)).length

/-- A rotation to the right. -/
def rotated (a : Word) (n : Nat) : Word := (a >>> n) ||| (a <<< (64 - n))

/-- The effect column of R72 for two operands. -/
def tableR72 : Instr → Option (Reg × Reg × Reg × (Word → Word → Word))
  | .add d a b => some (d, a, b, fun a b => BitVec.ofNat 64 (a.toNat + b.toNat))
  | .sub d a b => some (d, a, b, fun a b => BitVec.ofInt 64 (a.toInt - b.toInt))
  | .and d a b => some (d, a, b, fun a b => a &&& b)
  | .or d a b => some (d, a, b, fun a b => a ||| b)
  | .xor d a b => some (d, a, b, fun a b => a ^^^ b)
  | .andn d a b => some (d, a, b, fun a b => a &&& ~~~b)
  | .sll d a b => some (d, a, b, fun a b => BitVec.ofNat 64 (a.toNat * 2 ^ (b.toNat % 64)))
  | .srl d a b => some (d, a, b, fun a b => BitVec.ofNat 64 (a.toNat / 2 ^ (b.toNat % 64)))
  | .sra d a b => some (d, a, b, fun a b => BitVec.ofInt 64 (a.toInt / 2 ^ (b.toNat % 64)))
  | .ror d a b => some (d, a, b, fun a b => rotated a (b.toNat % 64))
  | .slt d a b => some (d, a, b, fun a b => asWord (decide (a.toInt < b.toInt)))
  | .sltu d a b => some (d, a, b, fun a b => asWord (decide (a.toNat < b.toNat)))
  | .min d a b => some (d, a, b, fun a b => if a.toInt ≤ b.toInt then a else b)
  | .max d a b => some (d, a, b, fun a b => if a.toInt ≤ b.toInt then b else a)
  | .minu d a b => some (d, a, b, fun a b => if a.toNat ≤ b.toNat then a else b)
  | .maxu d a b => some (d, a, b, fun a b => if a.toNat ≤ b.toNat then b else a)
  | .mul d a b => some (d, a, b, fun a b => BitVec.ofInt 64 (a.toInt * b.toInt))
  | .sh1add d a b => some (d, a, b, fun a b => BitVec.ofNat 64 (a.toNat * 2 + b.toNat))
  | .sh2add d a b => some (d, a, b, fun a b => BitVec.ofNat 64 (a.toNat * 4 + b.toNat))
  | .sh3add d a b => some (d, a, b, fun a b => BitVec.ofNat 64 (a.toNat * 8 + b.toNat))
  | .clz d a => some (d, a, 0, fun a _ => BitVec.ofNat 64 (zerosBefore a (fun i => 63 - i)))
  | .ctz d a => some (d, a, 0, fun a _ => BitVec.ofNat 64 (zerosBefore a (fun i => i)))
  | .popc d a => some (d, a, 0, fun a _ => BitVec.ofNat 64 (onesIn a))
  | _ => none

/-- The effect columns of R74 and R75: destination, source and result. -/
def tableR74 : Instr → Option (Reg × Reg × (Word → Word))
  | .addi d a i => some (d, a, fun x => x + i.signExtend 64)
  | .andi d a i => some (d, a, fun x => x &&& i.signExtend 64)
  | .ori d a i => some (d, a, fun x => x ||| i.signExtend 64)
  | .muli d a i => some (d, a, fun x => x * i.signExtend 64)
  | .xori d a i => some (d, a, fun x => x ^^^ i.signExtend 64)
  | .slti d a i => some (d, a, fun x => asWord (decide (x.toInt < (i.signExtend 64).toInt)))
  | .sltiu d a i => some (d, a, fun x => asWord (decide (x.toNat < (i.signExtend 64).toNat)))
  | .slli d a n => some (d, a, fun x => BitVec.ofNat 64 (x.toNat * 2 ^ n.toNat))
  | .srli d a n => some (d, a, fun x => BitVec.ofNat 64 (x.toNat / 2 ^ n.toNat))
  | .srai d a n => some (d, a, fun x => BitVec.ofInt 64 (x.toInt / 2 ^ n.toNat))
  | .rori d a n => some (d, a, fun x => rotated x n.toNat)
  | _ => none

/-- The high half of a product of integers. -/
def highHalf (p : Int) : Word := BitVec.ofInt 64 (p / 2 ^ 64)

/-- Quotient and remainder of R73: whether signed, whether the remainder is asked for. -/
def dividedBy (signed rem : Bool) (a b : Word) : Word :=
  if b = 0 then (if rem then a else BitVec.ofInt 64 (-1))
  else if signed then BitVec.ofInt 64 (if rem then a.toInt.tmod b.toInt else a.toInt.tdiv b.toInt)
  else BitVec.ofNat 64 (if rem then a.toNat % b.toNat else a.toNat / b.toNat)

/-- The four divisions: operands and form. -/
def division : Instr → Option (Reg × Reg × Reg × Bool × Bool)
  | .div d a b => some (d, a, b, true, false)
  | .divu d a b => some (d, a, b, false, false)
  | .rem d a b => some (d, a, b, true, true)
  | .remu d a b => some (d, a, b, false, true)
  | _ => none

/-! ### Control transfers (03 R79-R81) -/

/-- The conditional branches of R79: operands, offset, condition. -/
def branchOf : Instr → Option (Reg × Reg × BitVec 15 × (Word → Word → Prop))
  | .beq a b o => some (a, b, o, fun x y => x = y)
  | .bne a b o => some (a, b, o, fun x y => x ≠ y)
  | .blt a b o => some (a, b, o, fun x y => x.toInt < y.toInt)
  | .bge a b o => some (a, b, o, fun x y => y.toInt ≤ x.toInt)
  | .bltu a b o => some (a, b, o, fun x y => x.toNat < y.toNat)
  | .bgeu a b o => some (a, b, o, fun x y => y.toNat ≤ x.toNat)
  | _ => none

/-! ### Memory accesses (05 R131, R132, R138-R140) -/

/-- A load: destination, address and size, whether it sign-extends, the scope at which it acquires, the registers it
reads. -/
structure LoadForm where
  dest : Reg
  va : Word
  size : Size
  signed : Bool
  acquires : Option Scope
  sources : List Reg

/-- The loads of R131 and R132. -/
def loadForm (x : Reg → Word) : Instr → Option LoadForm
  | .ld d b sz off => some ⟨d, x b + off.signExtend 64 * BitVec.ofNat 64 (sizeBytes sz), sz, true, none, [b]⟩
  | .ldz d b sz off => some ⟨d, x b + off.signExtend 64 * BitVec.ofNat 64 (sizeBytes sz), sz, false, none, [b]⟩
  | .ldaq d b sz sc off => some ⟨d, x b + off.signExtend 64 * BitVec.ofNat 64 (sizeBytes sz), sz, true, some sc, [b]⟩
  | .ldx d a b sz sh => some ⟨d, x a + (x b <<< sh.toNat), sz, true, none, [a, b]⟩
  | _ => none

/-- A store: value, address and size, the scope at which it releases, the registers it reads. -/
structure StoreForm where
  value : Word
  va : Word
  size : Size
  releases : Option Scope
  sources : List Reg

/-- The stores of R131 and R132. -/
def storeForm (x : Reg → Word) : Instr → Option StoreForm
  | .st v b sz off => some ⟨x v, x b + off.signExtend 64 * BitVec.ofNat 64 (sizeBytes sz), sz, none, [v, b]⟩
  | .strl v b sz sc off => some ⟨x v, x b + off.signExtend 64 * BitVec.ofNat 64 (sizeBytes sz), sz, some sc, [v, b]⟩
  | .stx v a b sz sh => some ⟨x v, x a + (x b <<< sh.toNat), sz, none, [v, a, b]⟩
  | _ => none

/-- An atomic: its operation with its operands, address, bytes, destinations, the registers it names, order and scope; what bars
it. -/
structure AtomForm where
  kind : MemKind
  va : Word
  size : Nat
  dests : List Dest
  regs : List Reg
  order : Order
  scope : Scope
  barred : Core → Bool

/-- The destination of a result in x[d]; x0 takes none. -/
def into (d : Reg) : List Dest := if d = 0 then [] else [.x d.toNat]

/-- The atomics of R138-R140; deterministic mode bars FAMO. -/
def atomForm (x : Reg → Word) : Instr → Option AtomForm
  | .amo op d a b sz sc o => some ⟨.amo op (x b), x a, sizeBytes sz, into d, [d, a, b], o, sc, fun _ => false⟩
  | .cas d a b sz sc o => some ⟨.cas (x d) (x b), x a, sizeBytes sz, into d, [d, a, b], o, sc, fun _ => false⟩
  | .casq d a b sc o => some ⟨.casq (x (d + 1) ++ x d) (x (b + 1) ++ x b), x a, 16, [.x d.toNat, .x (d + 1).toNat],
      [d, d + 1, a, b, b + 1], o, sc, fun _ => false⟩
  | .famo half d a b sc o => some ⟨.famo half (x b), x a, if half then 2 else 4, into d, [d, a, b], o, sc, fun k => k.det⟩
  | _ => none

/-! ### Copies and remote operations (05 R143-R150) -/

/-- A data copy: its kind, its token, the registers it reads, and the command that they describe. -/
def copyForm (s : State) : Instr → Option (CopyKind × Reg3 × List Reg × (CopyCmd → CopyCmd))
  | .cpy a b k => some (.cpy, k, [a, a + 1, b], fun c => { c with a0 := s.xv a, a1 := s.xv (a + 1), b0 := s.xv b })
  | .cpy2 a b k => some (.cpy2, k, [a, a + 1, b, b + 1],
      fun c => { c with a0 := s.xv a, a1 := s.xv (a + 1), b0 := s.xv b, b1 := s.xv (b + 1) })
  | .cpyi a b k => some (.cpyi, k, [a, a + 1, b, b + 1],
      fun c => { c with a0 := s.xv a, a1 := s.xv (a + 1), b0 := s.xv b, b1 := s.xv (b + 1) })
  | .cpys a hr k =>
    if (s.me.getH hr.toNat).valid then some (.cpys, k, [a, a + 1],
      fun c => { c with a0 := s.xv a, a1 := s.xv (a + 1), ring := hr.toNat, rh := s.me.getH hr.toNat, low := s.xv a, window := s.me.freeWindow })
    else none
  | .cfill a b k => some (.cfill, k, [a, b, b + 1], fun c => { c with a0 := s.xv a, b0 := s.xv b, b1 := s.xv (b + 1) })
  | _ => none

/-- A remote operation: what it does, its address, data and compare value, destination, token, ordering token, and the
registers it reads or writes. -/
structure RemoteForm where
  op : RemOp
  va : Word
  data : Word
  cmp : Word
  dest : Option Reg
  token : Reg3
  order : Reg3
  regs : List Reg

/-- The remote operations of R143. -/
def remoteForm (x : Reg → Word) : Instr → Option RemoteForm
  | .rld d a k o => some ⟨.load, x a, 0, 0, some d, k, o, [d, a]⟩
  | .rst a b k o => some ⟨.store, x a, x b, 0, none, k, o, [a, b]⟩
  | .rcas d a b k o => some ⟨.cas, x a, x b, x d, some d, k, o, [d, a, b]⟩
  | .ramo op d a b k o => some ⟨.amo op, x a, x b, 0, some d, k, o, [d, a, b]⟩
  | _ => none

/-! ### Vectors (06 R156-R165) -/

/-- A lanewise form: destination, registers read, format, mask, the result of a lane from its operands' lanes, whether an
inactive lane keeps the destination's, and the latency. -/
structure LaneForm where
  dest : Reg
  reads : List Reg
  fmt : Fmt
  mask : Reg3
  lane : List Nat → Nat × BitVec 6
  keeps : Bool
  lat : Nat

/-- Two operands. -/
def two (f : Nat → Nat → Nat × BitVec 6) : List Nat → Nat × BitVec 6
  | [a, b] => f a b
  | _ => (0, 0)

/-- Three operands; the third is the destination (R160). -/
def three (f : Nat → Nat → Nat → Nat × BitVec 6) : List Nat → Nat × BitVec 6
  | [a, b, d] => f a b d
  | _ => (0, 0)

/-- R158's latency of arithmetic: 4 for floating formats, 2 for integers. -/
def latency (t : Fmt) : Nat := if t.isFloat then 4 else 2

/-- The lanewise operations of R160 and R162. -/
def laneForm (k : Cluster) : Instr → Option LaneForm
  | .vadd d a b t m => some ⟨d, [a, b], t, m, two (fun x y =>
      if t.isFloat then fAdd t (floatVal t x) (floatVal t y) else ((x + y) % 256, 0)), false, latency t⟩
  | .vsub d a b t m => some ⟨d, [a, b], t, m, two (fun x y =>
      if t.isFloat then fAdd t (floatVal t x) (negVal (floatVal t y)) else ((x + 256 - y) % 256, 0)), false, latency t⟩
  | .vmul d a b t m => some ⟨d, [a, b], t, m, two (fun x y =>
      if t.isFloat then fMul t (floatVal t x) (floatVal t y) else (x * y % 256, 0)), false, latency t⟩
  | .vfma d a b t m => some ⟨d, [a, b, d], t, m, three (fun x y z =>
      fFma t (floatVal t x) (floatVal t y) (floatVal t z)), true, 4⟩
  | .vfnma d a b t m => some ⟨d, [a, b, d], t, m, three (fun x y z =>
      fFma t (negVal (floatVal t x)) (floatVal t y) (floatVal t z)), true, 4⟩
  | .vmin d a b t m => some ⟨d, [a, b], t, m, two (fun x y => if t.isFloat then fMinMax t false x y
      else (if intVal t y < intVal t x then y else x, 0)), false, latency t⟩
  | .vmax d a b t m => some ⟨d, [a, b], t, m, two (fun x y => if t.isFloat then fMinMax t true x y
      else (if intVal t x < intVal t y then y else x, 0)), false, latency t⟩
  | .vclip d a b t m => some ⟨d, [a, b], t, m, two (laneClip t), false, latency t⟩
  | .vabs d a t m => some ⟨d, [a, a], t, m, two (fun x _ => if t.isFloat then (x % 2 ^ (fmtBits t - 1), 0)
      else (intBits t (intVal t x).natAbs, 0)), false, 2⟩
  | .vand d a b m => some ⟨d, [a, b], .f32, m, two (fun x y => (x &&& y, 0)), false, 1⟩
  | .vor d a b m => some ⟨d, [a, b], .f32, m, two (fun x y => (x ||| y, 0)), false, 1⟩
  | .vxor d a b m => some ⟨d, [a, b], .f32, m, two (fun x y => (x ^^^ y, 0)), false, 1⟩
  | .vshl d a b t m => some ⟨d, [a, b], t, m, two (fun x y => (x * 2 ^ (y % fmtBits t) % 2 ^ fmtBits t, 0)), false, 2⟩
  | .vshr d a b t m => some ⟨d, [a, b], t, m, two (fun x y => (x / 2 ^ (y % fmtBits t), 0)), false, 2⟩
  | .vsra d a b t m => some ⟨d, [a, b], t, m, two (laneSra t), false, 2⟩
  | .vscl d a z t m => some ⟨d, [a, a], t, m, two (fun x _ =>
      resultFloat t (scaleVal (floatVal t x) (mgetD k.z z.toNat 0)) (floatVal t x).isSnan false), false, 4⟩
  | _ => none

/-- The comparisons of R161. -/
def compareForm : Instr → Option (Reg × Reg × Reg × Fmt × Reg3 × (Nat → Nat → Bool × BitVec 6))
  | .vcmpeq d a b t m => some (d, a, b, t, m, laneEq t)
  | .vcmpne d a b t m => some (d, a, b, t, m, fun x y => (!(laneEq t x y).1, (laneEq t x y).2))
  | .vcmplt d a b t m => some (d, a, b, t, m, laneLt t)
  | .vcmple d a b t m => some (d, a, b, t, m, laneLe t)
  | _ => none

/-- A move: destination, vectors and x registers read, format, mask, active and inactive lanes. -/
structure MoveForm where
  dest : Reg
  reads : List Reg
  regs : List Reg
  fmt : Fmt
  mask : Reg3
  lane : Nat → Nat
  other : Nat → Nat

/-- The selections and moves of R161 and R163 that are usable at once. -/
def moveForm (s : State) : Instr → Option MoveForm
  | .vsel d a b t m => some ⟨d, [a, b], [], t, m, laneOf t (s.vv a), laneOf t (s.vv b)⟩
  | .vperm d a b t m => some ⟨d, [a, b], [], t, m,
      fun l => laneOf t (s.vv a) (bitsAt (s.vv b).toNat (laneBits t * l) (laneBits t) % laneCount t), fun _ => 0⟩
  | .vbcst d x t m => some ⟨d, [], [x], t, m, fun _ => (s.xv x).toNat % 2 ^ fmtBits t, fun _ => 0⟩
  | .vslide d a x t m => some ⟨d, [a], [x], t, m, fun l =>
      if 0 ≤ (l : Int) + (s.xv x).toInt ∧ (l : Int) + (s.xv x).toInt < laneCount t
      then laneOf t (s.vv a) ((l : Int) + (s.xv x).toInt).toNat else 0, fun _ => 0⟩
  | .vzip d a b t m => some ⟨d, [a, b], [], t, m,
      fun l => if l % 2 = 0 then laneOf t (s.vv a) (l / 2) else laneOf t (s.vv b) (l / 2), fun _ => 0⟩
  | .vuzp d a b t m => some ⟨d, [a, b], [], t, m, fun l => if l < laneCount t / 2 then laneOf t (s.vv a) (2 * l)
      else laneOf t (s.vv b) (2 * (l - laneCount t / 2)), fun _ => 0⟩
  | .vmov d a t m => some ⟨d, [a], [], t, m, laneOf t (s.vv a), fun _ => 0⟩
  | _ => none

/-- A reduction: destination, operands, format, mask, how two values combine, the term of a lane, the identity. -/
structure ReduceForm where
  dest : Reg
  a : Reg
  b : Reg
  fmt : Fmt
  mask : Reg3
  combine : Nat → Nat → Nat × BitVec 6
  term : Nat → Nat → Nat × BitVec 6
  identity : Nat

/-- The reductions of R164. -/
def reduceForm : Instr → Option ReduceForm
  | .vrsum d a t m => some ⟨d, a, a, t, m, sumCombine t, fun x _ => sumTerm t x, if t.isFloat then 0x80000000 else 0⟩
  | .vrmax d a t m => some ⟨d, a, a, t, m, laneMinMax t true, fun x _ => (x, 0), extremeIdentity t true⟩
  | .vrmin d a t m => some ⟨d, a, a, t, m, laneMinMax t false, fun x _ => (x, 0), extremeIdentity t false⟩
  | .vrdot d a b t m => some ⟨d, a, b, t, m, sumCombine t, dotTerm t, if t.isFloat then 0x80000000 else 0⟩
  | _ => none

/-- The transcendentals of R165; their format is F32. -/
def transForm : Instr → Option (Reg × Reg × Reg3 × (Nat → Nat × BitVec 6))
  | .vrcp d a .f32 m => some (d, a, m, fRcp)
  | .vrsq d a .f32 m => some (d, a, m, fRsq)
  | .vexp2 d a .f32 m => some (d, a, m, fExp2)
  | .vlog2 d a .f32 m => some (d, a, m, fLog2)
  | _ => none

/-! ### Suspension (04 R117) -/

/-- The running activation as a continuation with its frame in a slot of the cactus stack; `again` resumes at its END. Its
accesses not yet performed stay with it (04 R116). -/
def suspended (s : State) (a : Act) (place : ActPlace) (slot : Nat) (again : Bool := false) : Act :=
  { a with
    place := place, kind := 1, left := a.left ++ s.leftOn s.cur
    frame := some { fault := false, slot := slot, h := s.me.h, a := s.me.a, waits := [], fails := s.me.fails
                    barArrived := false, owed := none, endOnly := again, savedAt := s.clk + 10, bytes := [] } }

/-- R117 (04): where the frame in a slot lies, x1-x23, the pc of the continuation, YACT and YFLAGS stand at their offsets; every
byte outside its 640 is as it was. -/
def frameWritten (s t : State) (a : Act) (slot : Nat) (pc : Word) : Prop :=
  let at_ := sliceKey (clusterOf s.cur) (s.myCl.stack + 640 * slot)
  let word (off : Nat) : Nat := ofBytes (memRead t.mem (at_ + off) 8)
  (∀ i, i < 23 → word (8 * i) = (s.me.getX (i + 1)).toNat) ∧ word 0xb8 = pc.toNat ∧ word 0xc0 = a.yact.toNat ∧
    word 0xc8 = s.me.yflags.toNat ∧ ∀ ad, ad < at_ ∨ at_ + 640 ≤ ad → memRead t.mem ad 1 = memRead s.mem ad 1

/-- The core has let its activation go, and selects again 11 clk on, once the frame is whole (04 R125). -/
def coreFreed (s t : State) : Prop := t.me.mode = .idle ∧ t.me.act = none ∧ t.me.nextPair = s.clk + 11

end Sys2Proof.Claims

open Sys2Proof Sys2Proof.Machine Sys2Proof.Claims

/-! ### Scalar instructions -/

/-- R72 (03): each instruction of the table but the high products and the divisions writes its result at once. -/
def Sys2Proof.Claims.ScalarTableResults : Prop :=
  ∀ (i : Instr) (s : State) (d a b : Reg) (f : Word → Word → Word), s.lone = true → tableR72 i = some (d, a, b, f) →
    s.xOk [a, b, d] = true → exec i s = .next (s.putX d (f (s.xv a) (s.xv b))).past

/-- R74, R75 (03): immediate forms. -/
def Sys2Proof.Claims.ImmediateResults : Prop :=
  ∀ (i : Instr) (s : State) (d a : Reg) (f : Word → Word), s.lone = true → tableR74 i = some (d, a, f) →
    s.xOk [a, d] = true → exec i s = .next (s.putX d (f (s.xv a))).past

/-- R76 (03): LUI, ADDPC and LUH. -/
def Sys2Proof.Claims.UpperImmediateResults : Prop :=
  ∀ (s : State) (d : Reg) (j : BitVec 20), s.lone = true → s.xOk [d] = true →
    exec (.lui d j) s = .next (s.putX d (j.signExtend 64 * 4096)).past ∧
    exec (.addpc d j) s = .next (s.putX d (s.me.pc + j.signExtend 64)).past ∧
    exec (.luh d j) s = .next (s.putX d (s.xv d + j.signExtend 64 * 2 ^ 32)).past

/-- R74-R76 (03): the encodings of the immediate, shift and U forms, lone or half of a pair. -/
def Sys2Proof.Claims.ImmediateEncodings : Prop :=
  ∀ (l : BitVec 1) (d a : Reg) (imm : BitVec 15) (sh : BitVec 6) (j : BitVec 20),
    decodeWord (l ++ 0x02#6 ++ d ++ a ++ imm) = .ok (.addi d a imm) ∧ decodeWord (l ++ 0x03#6 ++ d ++ a ++ imm) = .ok (.andi d a imm) ∧
    decodeWord (l ++ 0x04#6 ++ d ++ a ++ imm) = .ok (.ori d a imm) ∧ decodeWord (l ++ 0x05#6 ++ d ++ a ++ imm) = .ok (.muli d a imm) ∧
    decodeWord (l ++ 0x06#6 ++ d ++ a ++ imm) = .ok (.xori d a imm) ∧ decodeWord (l ++ 0x07#6 ++ d ++ a ++ imm) = .ok (.slti d a imm) ∧
    decodeWord (l ++ 0x08#6 ++ d ++ a ++ imm) = .ok (.sltiu d a imm) ∧
    decodeWord (l ++ 0x09#6 ++ d ++ a ++ 0#7 ++ 0#2 ++ sh) = .ok (.slli d a sh) ∧
    decodeWord (l ++ 0x09#6 ++ d ++ a ++ 0#7 ++ 1#2 ++ sh) = .ok (.srli d a sh) ∧
    decodeWord (l ++ 0x09#6 ++ d ++ a ++ 0#7 ++ 2#2 ++ sh) = .ok (.srai d a sh) ∧
    decodeWord (l ++ 0x09#6 ++ d ++ a ++ 0#7 ++ 3#2 ++ sh) = .ok (.rori d a sh) ∧
    decodeWord (l ++ 0x0a#6 ++ d ++ j) = .ok (.lui d j) ∧ decodeWord (l ++ 0x0b#6 ++ d ++ j) = .ok (.addpc d j) ∧
    decodeWord (l ++ 0x0c#6 ++ d ++ j) = .ok (.luh d j)

/-- R72-R76 (03): every scalar instruction but the high products and the divisions writes its result at once; the words of the
immediate forms. -/
def Sys2Proof.Claims.AllScalarResults : Prop :=
  Claims.ScalarTableResults ∧ Claims.ImmediateResults ∧ Claims.UpperImmediateResults ∧ Claims.ImmediateEncodings

/-- R72, R78 (03): the high half of a product is pending for 2 clk. -/
def Sys2Proof.Claims.HighProducts : Prop :=
  ∀ (s : State) (d a b : Reg), s.lone = true → s.xOk [a, b, d] = true →
    exec (.mulh d a b) s =
      .next (s.later (.x d.toNat) ((highHalf ((s.xv a).toInt * (s.xv b).toInt)).setWidth 1024) 0 2).past ∧
    exec (.mulhu d a b) s =
      .next (s.later (.x d.toNat) ((highHalf (((s.xv a).toNat : Int) * (s.xv b).toNat)).setWidth 1024) 0 2).past

/-- R73, R78 (03): a division's result is pending for 12 clk, a zero divisor sets IDZ (bit 5) at issue, and a second
division stalls while one is in flight. -/
def Sys2Proof.Claims.Divisions : Prop :=
  ∀ (i : Instr) (s : State) (d a b : Reg) (signed rem : Bool), s.lone = true →
    division i = some (d, a, b, signed, rem) → s.xOk [a, b, d] = true →
    exec i s = .next (
      if s.me.pending.any (fun p => p.divider) then s.held
      else ((s.onMe (fun k => { k with yflags := k.yflags ||| (if s.xv b = 0 then 0x20 else 0) })).later (.x d.toNat)
        ((dividedBy signed rem (s.xv a) (s.xv b)).setWidth 1024) 0 12 .divider).past)

/-- R72, R73, R78 (03): the results that are pending for more than a clk. -/
def Sys2Proof.Claims.AllLateScalarResults : Prop := Claims.HighProducts ∧ Claims.Divisions

/-- R72-R78 (03): the scalar instructions. -/
def Obligations.ScalarInstructions : Prop := Claims.AllScalarResults ∧ Claims.AllLateScalarResults

/-! ### Control transfers -/

/-- R79 (03), R44 (01): a branch goes to its own address plus four times its offset when its condition holds, and past
its word otherwise; nothing else changes. -/
def Sys2Proof.Claims.Branches : Prop :=
  ∀ (i : Instr) (s : State) (a b : Reg) (off : BitVec 15) (p : Word → Word → Prop), s.lone = true →
    branchOf i = some (a, b, off, p) → s.xOk [a, b] = true →
    (p (s.xv a) (s.xv b) → exec i s = .next (s.goes (s.me.pc + off.signExtend 64 * 4))) ∧
    (¬ p (s.xv a) (s.xv b) → exec i s = .next (s.goes (s.me.pc + 4)))

/-- R80, R81 (03): jumps, and the return address they leave. -/
def Sys2Proof.Claims.Jumps : Prop :=
  ∀ (s : State) (off : BitVec 25) (d a : Reg) (imm : BitVec 15), s.lone = true →
    exec (.j off) s = .next (s.goes (s.me.pc + off.signExtend 64 * 4)) ∧
    (s.xOk [1] = true →
      exec (.jl off) s = .next ((s.putX 1 (s.me.pc + 4)).goes (s.me.pc + off.signExtend 64 * 4))) ∧
    (s.xOk [a, d] = true →
      exec (.jlr d a imm) s = .next (((s.putX d (s.me.pc + 4)).onMe (fun k => { k with nextPair := s.clk + 3 })).goes
        ((s.xv a + imm.signExtend 64) &&& ~~~3)))

/-- R79-R81 (03): branches and jumps. -/
def Obligations.ControlTransfers : Prop := Claims.Branches ∧ Claims.Jumps

/-! ### System instructions -/

/-- R82 (03), R116 (04): an END with no child outstanding, no token held and nothing of its pushes pending retires the
activation, a child's once its accesses have been performed at cluster scope: its core is idle, its number, its parking
slots and its tiles are free, its parent counts one child less, and memory is as it was but for the word of a suspended
parent's frame that holds its count of children (R117). -/
def Sys2Proof.Claims.EndRetires : Prop :=
  ∀ (s : State) (n : Nat) (a : Act), s.lone = true → s.memOk → s.runs n a → a.children = 0 → s.me.tokensDone = true →
    s.me.recordsDone = true → s.me.portPending = false →
    (a.parent = none ∨ (s.me.mem.all (fun o => o.shownAt .cl) = true ∧ a.left.all (s.gateOpen .cl) = true)) → a.parent ≠ some n →
    ∃ t, exec .endA s = .next t ∧ t.me.mode = .idle ∧ t.me.act = none ∧ t.act? (clusterOf s.cur) n = none ∧
      t.myCl.parks = s.myCl.parks.filter (fun p => decide (p.2 ≠ n)) ∧
      t.myCl.tiles = s.myCl.tiles.filter (fun p => decide (p.2.owner ≠ n)) ∧
      (∀ p b, a.parent = some p → s.act? (clusterOf s.cur) p = some b →
        ∃ b', t.act? (clusterOf s.cur) p = some b' ∧ b'.children = b.children - 1) ∧
      t.me.x = s.me.x ∧ (∀ c, c ≠ s.cur → t.core c = s.core c) ∧ t.queues = s.queues ∧
      ∀ ad, (∀ p b f, a.parent = some p → s.act? (clusterOf s.cur) p = some b → b.frame = some f →
          ad < sliceKey (clusterOf s.cur) (s.myCl.frameOff f.fault f.slot + 0xd0) ∨
          sliceKey (clusterOf s.cur) (s.myCl.frameOff f.fault f.slot + 0xd0) + 8 ≤ ad) →
        memRead t.mem ad 1 = memRead s.mem ad 1

/-- R82 (03), R117 (04): an END with children outstanding suspends the activation as SYNC does, to resume at the END. -/
def Sys2Proof.Claims.EndWaits : Prop :=
  ∀ (s : State) (n slot : Nat) (a : Act), s.lone = true → s.memOk → s.runs n a → a.children ≠ 0 → a.member = false →
    s.me.tokensDone = true → s.me.recordsDone = true → s.me.framePending = false → s.myCl.freeFrame = some slot →
    ∃ t, exec .endA s = .next t ∧ coreFreed s t ∧ frameWritten s t a slot s.me.pc ∧
      t.act? (clusterOf s.cur) n = some (suspended s a .waitChildren slot true)

/-- R82 (03): END. -/
def Sys2Proof.Claims.AllEndRetires : Prop := Claims.EndRetires ∧ Claims.EndWaits

/-- R84, R85 (03): a SYSC whose core may push pushes x10-x16 and the call tag as one item to the system-call queue, and its
activation leaves the core with a frame that resumes past the word; one whose core may not push leaves it too, and its item
waits (R86). -/
def Sys2Proof.Claims.TenantCall : Prop :=
  ∀ (s : State) (n slot q : Nat) (a : Act), s.lone = true → s.memOk → isSup s.cur = false → s.runs n a → a.member = false →
    s.xOk [10, 11, 12, 13, 14, 15, 16] = true → s.me.poisonFree = true → s.me.recordsDone = true →
    s.me.framePending = false → s.myCl.freeFrame = some slot → s.myCl.sysq = some q →
    let item := [s.xv 10, s.xv 11, s.xv 12, s.xv 13, s.xv 14, s.xv 15, s.xv 16, callTag n s.myCl.gen s.cur]
    let goes := s.canCall s.cur && !s.olderCaller (clusterOf s.cur) n
    ∃ t, exec .sysc s = .next t ∧ t.queues = (if goes then (s.push q (callParty s.cur) item false).queues else s.queues) ∧
      coreFreed s t ∧ frameWritten s t a slot (s.me.pc + 4) ∧
      t.act? (clusterOf s.cur) n = some { suspended s a (if goes then .inCall s.cur else .parkedCall s.cur) slot with call := item } ∧
      t.myCl.callers = (if goes then s.myCl.callers else s.myCl.callers ++ [n])

/-- R87 (03): SYSC on a supervisor core keeps its pair's effects and traps, to return past its word. -/
def Sys2Proof.Claims.SupervisorCall : Prop :=
  ∀ (s : State), s.lone = true → isSup s.cur = true →
    exec .sysc s = .next ((s.onMe Core.afresh).takeException s.cur
      ⟨.supervisorCall, s.me.pc + 4, s.me.pc, false, false, s.issue.word, 0⟩).held

/-- R84-R87 (03): SYSC. -/
def Obligations.SystemCall : Prop := Claims.TenantCall ∧ Claims.SupervisorCall

/-- R83 (03): BRK keeps its effects and takes the breakpoint exception with the address past its word. -/
def Sys2Proof.Claims.BreakPoint : Prop :=
  ∀ (s : State), s.lone = true →
    exec .brk s = .next ((s.onMe Core.afresh).takeException s.cur
      ⟨.breakpoint, s.me.pc + 4, s.me.pc, false, false, s.issue.word, 0⟩).held

/-- R88 (03): ERET on a supervisor core goes to YEPC and clears TH, whether TH was set or not; on a tenant core it raises
privilege. -/
def Sys2Proof.Claims.ReturnFromTrap : Prop :=
  ∀ (s : State), s.lone = true →
    (isSup s.cur = true → exec .eret s = .next (s.onMe (fun k =>
      { k.afresh with pc := k.yepc, th := false, nextPair := s.clk + 3 })).held) ∧
    (isSup s.cur = false → exec .eret s = .next (s.raised .privilege 0))

/-- R83, R88 (03): BRK and ERET. -/
def Obligations.BreakAndReturn : Prop := Claims.BreakPoint ∧ Claims.ReturnFromTrap

/-- R87 (03): what a fault, BRK and SYSC do on a supervisor core: nothing more issues if TH is set; otherwise YEPC, YCAUSE,
YINFO and TH are written and the pc is YTVEC. BRK and SYSC (whose raise's information is the address past them) resume
past the pair; every register that is not named keeps its value. -/
def Sys2Proof.Claims.AllSupervisorTrap : Prop :=
  ∀ (s : State) (c : Nat) (r : Raise), isSup c = true →
    ((s.core c).th = true → (s.takeException c r) = s.modCore c (fun k => { k with mode := .stopped })) ∧
    ((s.core c).th = false → (s.takeException c r) = s.modCore c (fun k => { k with
      yepc := (if r.cause = .breakpoint ∨ r.cause = .supervisorCall then r.info else r.pc) &&& ~~~3
      ycause := BitVec.ofNat 18 (r.cause.code % 2 ^ 16 + 2 ^ 16 * r.aHalf.toNat + 2 ^ 17 * r.pair.toNat)
      yinfo := if r.cause.hasAddress then r.info else 0
      th := true, nextPair := s.clk + 3, pc := k.ytvec, barArrived := false, owed := none }))

/-- R381, R382 (17): a tenant core's fault takes the lowest-numbered free entry of its cluster's fault buffer with the fault, its
core and activation and the next ticket, and the core issues nothing more. -/
def Sys2Proof.Claims.AllTenantFaultParks : Prop :=
  ∀ (s : State) (c e : Nat) (r : Raise), isSup c = false → (s.cl (clusterOf c)).freeEntry = some e →
    ∃ f, mget ((s.takeException c r).cl (clusterOf c)).faults e = some f ∧ f.valid = true ∧ f.raise = r ∧ f.core = c ∧
      f.act = (s.core c).act.getD 0 ∧ f.gen = (s.cl (clusterOf c)).gen ∧
      f.ticket = ((mgetD (s.cl (clusterOf c)).faults e FaultEntry.reset).ticket + 1) % 256 ∧
      ((s.takeException c r).core c).mode ≠ .running ∧ (s.takeException c r).mem = s.mem ∧
      ((s.takeException c r).core c).x = (s.core c).x ∧ ((s.takeException c r).core c).pc = (s.core c).pc ∧
      (∀ i, i ≠ e → mget ((s.takeException c r).cl (clusterOf c)).faults i = mget (s.cl (clusterOf c)).faults i)

/-- R87 (03), R381, R382 (17): taking an exception, on a supervisor core and on a tenant core. -/
def Obligations.TakingExceptions : Prop := Claims.AllSupervisorTrap ∧ Claims.AllTenantFaultParks

/-- R117, R118 (04), R119; R242 (09): SYNC with no child outstanding, and YIELD of a member or with no other work, go on; a
member's SYNC waits out the clk of its last child's end; SYNC with children suspends the activation until they have ended;
YIELD with other work puts its continuation in the run queue of its core. -/
def Sys2Proof.Claims.SyncAndYield : Prop :=
  ∀ (s : State) (n : Nat) (a : Act), s.lone = true → s.memOk → s.runs n a → s.me.poisonFree = true →
    (a.children = 0 → (a.member = true → a.endAt ≠ some s.clk) → exec .sync s = .next s.past) ∧
    (a.children = 0 → a.member = true → a.endAt = some s.clk → exec .sync s = .next s.held) ∧
    (a.children ≠ 0 → a.member = true → exec .sync s = .next s.held) ∧
    ((a.member || !s.otherWork s.cur a) = true → exec .yield s = .next s.past) ∧
    (∀ slot, a.children ≠ 0 → a.member = false → s.me.tokensDone = true → s.me.framePending = false →
      s.myCl.freeFrame = some slot → ∃ t, exec .sync s = .next t ∧ coreFreed s t ∧ frameWritten s t a slot (s.me.pc + 4) ∧
        t.act? (clusterOf s.cur) n = some (suspended s a .waitChildren slot)) ∧
    (∀ slot, a.member = false → s.otherWork s.cur a = true → s.me.tokensDone = true → s.me.framePending = false →
      s.myCl.freeFrame = some slot → s.me.role = a.role → s.me.runq.length < 64 → s.myCl.olderReady n a s.clk = false →
      ∃ t, exec .yield s = .next t ∧ coreFreed s t ∧ frameWritten s t a slot (s.me.pc + 4) ∧
        t.me.runq = s.me.runq ++ [⟨.cont n, s.clk, a.base, 1, s.myCl.stack + 640 * slot⟩] ∧
        t.act? (clusterOf s.cur) n = some (suspended s a (.queued s.cur) slot))

/-- R119 (04): PRIO sets the running activation's base and effective priority, no higher than YCEIL; a value above 31 raises
operand-range. -/
def Sys2Proof.Claims.SetPriority : Prop :=
  ∀ (s : State) (n : Nat) (act : Act) (a : Reg), s.lone = true → s.runs n act → s.xOk [a] = true →
    ((s.xv a).toNat ≤ 31 → exec (.prio a) s = .next (s.setAct (clusterOf s.cur) n
      { act with base := min (s.xv a).toNat s.myCl.yceil.toNat, eff := min (s.xv a).toNat s.myCl.yceil.toNat }).past) ∧
    (31 < (s.xv a).toNat → exec (.prio a) s = .next (s.raised .operandRange (s.xv a)))

/-- R117-R119 (04): SYNC, YIELD and PRIO. -/
def Sys2Proof.Claims.AllSuspensionAndPriority : Prop := Claims.SyncAndYield ∧ Claims.SetPriority

/-- R82 (03), R117-R119 (04): END, SYNC, YIELD and PRIO. -/
def Obligations.EndsAndSuspensions : Prop := Claims.AllEndRetires ∧ Claims.AllSuspensionAndPriority

/-- R89, R90 (03): YRD writes the register's value to x[d], or raises privilege where its rights forbid the access. -/
def Sys2Proof.Claims.ReadSystemRegister : Prop :=
  ∀ (s : State) (d : Reg) (num : BitVec 12), s.lone = true → s.xOk [d] = true → isSysNum num = true →
    ((isSup s.cur || tenantReads num.toNat) = true → (num = 0x14 → s.me.flagsPending = false) →
      exec (.yrd d num) s = .next (s.putX d (s.readSys s.cur num.toNat)).past) ∧
    ((isSup s.cur || tenantReads num.toNat) = false → exec (.yrd d num) s = .next (s.raised .privilege 0))

/-- R90, R92-R96 (03): what YRD reads of a tenant core's own registers. -/
def Sys2Proof.Claims.SystemRegisterValues : Prop :=
  ∀ (s : State) (c : Nat), isSup c = false →
    s.readSys c 0 = BitVec.ofNat 64 (8 * (s.core c).th.toNat + 4 * (s.core c).cut.toNat + 2 * (s.core c).det.toNat) ∧
    s.readSys c 0x10 = BitVec.ofNat 64 (s.chip.toNat * 2 ^ 52 + c * 2 ^ 32 + c) ∧
    s.readSys c 0x13 = BitVec.ofNat 64 s.clk ∧ s.readSys c 0x14 = (s.core c).yflags.setWidth 64 ∧
    s.readSys c 0x15 = (s.core c).ywoob.setWidth 64 ∧
    (∀ n, n < 32 → s.readSys c (0x20 + n) = BitVec.ofInt 64 (mgetD (s.cl (clusterOf c)).z n 0) &&& 0xff)

/-- R89-R98 (03): YRD, and what it reads. -/
def Sys2Proof.Claims.AllSystemRegisterReads : Prop := Claims.ReadSystemRegister ∧ Claims.SystemRegisterValues

/-- R89-R91 (03): YWR. A bit written 1 to YFLAGS or YWOOB clears it; a register that the cluster holds is written in the
next clk; a supervisor core writes its own trap registers; a value that the register refuses raises sysreg-value, and a
register whose rights forbid the access raises privilege. -/
def Sys2Proof.Claims.AllWriteSystemRegister : Prop :=
  ∀ (s : State) (a : Reg) (num : BitVec 12), s.lone = true → s.xOk [a] = true → isSysNum num = true →
    let v := s.xv a
    let n := num.toNat
    let may := if isSup s.cur then supWrites n else tenantWrites n
    (may = false → exec (.ywr a num) s = .next (s.raised .privilege 0)) ∧
    (may = true → sysInvalid n v = true → exec (.ywr a num) s = .next (s.raised .sysregValue v)) ∧
    (may = true → sysInvalid n v = false → (n = 0x14 → s.me.flagsPending = false) →
      (n = 0x14 → exec (.ywr a num) s = .next (s.onMe (fun k => { k with yflags := k.yflags &&& ~~~(v.setWidth 6) })).past) ∧
      (n = 0x15 → exec (.ywr a num) s = .next (s.onMe (fun k => { k with ywoob := k.ywoob &&& ~~~(v.setWidth 16) })).past) ∧
      (isSup s.cur = false → isClusterReg n = true →
        exec (.ywr a num) s = .next ({ s with ywrites := s.ywrites ++ [(s.cur, n, v)] } : State).past) ∧
      (isSup s.cur = true → isClusterReg n = true → exec (.ywr a num) s = .next s.past) ∧
      (n = 0 → exec (.ywr a num) s = .next (s.onMe (fun k => { k with th := v.getLsbD 3 })).past) ∧
      (n = 1 → exec (.ywr a num) s = .next (s.onMe (fun k => { k with ycause := v.setWidth 18 })).past) ∧
      (n = 2 → exec (.ywr a num) s = .next (s.onMe (fun k => { k with yepc := v &&& ~~~3 })).past) ∧
      (n = 3 → exec (.ywr a num) s = .next (s.onMe (fun k => { k with yinfo := v })).past) ∧
      (n = 4 → exec (.ywr a num) s = .next (s.onMe (fun k => { k with ytvec := v &&& ~~~7 })).past) ∧
      (∀ i, i < 4 → n = 8 + i → exec (.ywr a num) s = .next (s.onMe (fun k => { k with yscr := mset k.yscr i v })).past))

/-- R89-R98 (03): YRD, YWR and what the registers hold. -/
def Obligations.SystemRegisters : Prop := Claims.AllSystemRegisterReads ∧ Claims.AllWriteSystemRegister

/-! ### Loads, stores, fences, atomics -/

/-- R131, R132 (05), R130: a load that can be performed joins the core's outstanding loads with its destination pending;
nothing else of the core changes. LDAQ's entry acquires at its scope. -/
def Sys2Proof.Claims.LoadsIssue : Prop :=
  ∀ (i : Instr) (s : State) (f : LoadForm) (key : Nat), s.lone = true → loadForm s.xv i = some f →
    s.xOk (f.dest :: f.sources) = true → s.reach f.va (sizeBytes f.size) true false false = some key → s.loadsOut < 16 →
    exec i s = .next ((s.used f.va).enters (.load f.signed) [(key, 0)] (sizeBytes f.size) (into f.dest) f.acquires none
      (loadDelay s.cur key) [f.va]).past

/-- R131, R132 (05), R130: a store that can be performed joins the core's buffered stores with the low bytes of its register,
least significant first; no register changes, and memory does not yet. STRL's entry releases at its scope, and waits for
the core's journal records (16 R359). -/
def Sys2Proof.Claims.StoresIssue : Prop :=
  ∀ (i : Instr) (s : State) (f : StoreForm) (key : Nat), s.lone = true → storeForm s.xv i = some f →
    s.xOk f.sources = true → s.reach f.va (sizeBytes f.size) false true false = some key → s.storesOut < 32 →
    (f.releases.isSome = true → s.me.recordsDone = true) →
    exec i s = .next ((s.used f.va).enters (.store [leBytes (sizeBytes f.size) f.value.toNat]) [(key, 0)]
      (sizeBytes f.size) [] none f.releases 1 [f.va]).past

/-- R130-R132 (05): loads and stores. -/
def Sys2Proof.Claims.AllLoadsAndStoresIssue : Prop := Claims.LoadsIssue ∧ Claims.StoresIssue

/-- The address that a load or a store accesses, its size, whether it writes, and the registers it reads. -/
def accessOf (x : Reg → Word) (i : Instr) : Option (Word × Nat × Bool × List Reg) :=
  match loadForm x i, storeForm x i with
  | some f, _ => some (f.va, sizeBytes f.size, false, f.sources)
  | none, some f => some (f.va, sizeBytes f.size, true, f.sources)
  | none, none => none

/-- R126-R128 (05): where a load or a store faults, in the order of the checks: a non-canonical address raises
address-form, one that is not a multiple of the size misaligned-access, and a translation that refuses its fault, each
with the address; nothing of the word takes effect (00 R10). A miss stalls and walks (12 R287), and a page that a walk found
absent raises translation; a translated address that is no memory for the core raises access-kind. -/
def Sys2Proof.Claims.AllAccessFaults : Prop :=
  ∀ (i : Instr) (s : State) (va : Word) (size : Nat) (write : Bool) (regs : List Reg), s.lone = true →
    accessOf s.xv i = some (va, size, write, regs) → s.xOk regs = true → s.me.recordsDone = true →
    (canonical va = false → exec i s = .next (s.raised .addressForm va)) ∧
    (canonical va = true → va.toNat % size ≠ 0 → exec i s = .next (s.raised .misalignedAccess va)) ∧
    (∀ c, canonical va = true → va.toNat % size = 0 → c ≠ .translation →
      s.xlate s.cur va (!write) write = .bad c → exec i s = .next (s.raised c va)) ∧
    (canonical va = true → va.toNat % size = 0 → s.xlate s.cur va (!write) write = .miss →
      (s.me.absent ≠ some (va.toNat / 65536) →
        exec i s = .next (s.held.startWalk (clusterOf s.cur) (s.partOf s.cur) va.toNat write [s.cur])) ∧
      (s.me.absent = some (va.toNat / 65536) →
        exec i s = .next ((s.onMe (fun k => { k with absent := none })).raised .translation va))) ∧
    (∀ pa, canonical va = true → va.toNat % size = 0 → s.xlate s.cur va (!write) write = .ok pa →
      spaceOk (isSup s.cur) false (match placeOf va with | .own _ => true | _ => false) s.chip.toNat pa size = false →
      exec i s = .next (s.raised .accessKind va))

/-- R126-R132 (05): loads and stores as they issue, and the faults of an access. -/
def Obligations.LoadsAndStores : Prop := Claims.AllLoadsAndStoresIssue ∧ Claims.AllAccessFaults

/-- R132, R133 (05), R295 (12): PREF starts a walk for an absent translation and does nothing else; PLD reads its parameter
window, zero-extended, and past the window's end reads 0 and sets the window's bit of YWOOB.
PLD's 8 clk are the own choice of the model (log 35). -/
def Sys2Proof.Claims.PrefetchAndWindows : Prop :=
  ∀ (s : State) (a b d : Reg) (sh : BitVec 2) (sz : Size) (win : BitVec 4), s.lone = true →
    (s.xOk [a, b] = true →
      let va := s.xv a + (s.xv b <<< sh.toNat)
      (s.xlate s.cur va false false = .miss →
        exec (.pref a b sh) s = .next (s.startWalk (clusterOf s.cur) (s.partOf s.cur) va.toNat false []).past) ∧
      (s.xlate s.cur va false false ≠ .miss → exec (.pref a b sh) s = .next s.past)) ∧
    (s.xOk [a, d] = true →
      let off := (s.xv a).toNat
      (off % sizeBytes sz ≠ 0 → exec (.pld d a sz win) s = .next (s.raised .misalignedAccess (s.xv a))) ∧
      (off % sizeBytes sz = 0 → s.window s.cur win.toNat = none →
        exec (.pld d a sz win) s = .next (s.raised .windowUnbound (win.setWidth 64))) ∧
      (∀ bs, off % sizeBytes sz = 0 → s.window s.cur win.toNat = some bs → off < bs.length →
        exec (.pld d a sz win) s = .next (s.later (.x d.toNat)
          ((BitVec.ofNat 64 (ofBytes ((bs.drop off).take (sizeBytes sz)))).setWidth 1024) 0 8).past) ∧
      (∀ bs, off % sizeBytes sz = 0 → s.window s.cur win.toNat = some bs → bs.length ≤ off →
        exec (.pld d a sz win) s = .next ((s.later (.x d.toNat) 0 0 8).onMe
          (fun k => { k with ywoob := k.ywoob ||| (1 <<< win.toNat) })).past))

/-- R134, R135 (05): a fence stalls while an earlier access of a kind that it names is to be performed at its scope, FENCEE also
while the core's commands still read or write; then it goes on, and one that names .sl makes stores to code visible to
fetch (12 R289). -/
def Sys2Proof.Claims.Fences : Prop :=
  ∀ (s : State) (kinds : BitVec 4) (sc : Scope), s.lone = true → kinds ≠ 0 →
    let earlier := s.me.mem.any (fun o => (((kinds.getLsbD 0 || kinds.getLsbD 1) && !o.isStore) ||
      ((kinds.getLsbD 2 || kinds.getLsbD 3) && !o.isLoad)) && !o.shownAt sc)
    let engines := ((kinds.getLsbD 0 || kinds.getLsbD 1) && s.readsOutstanding s.cur) ||
      ((kinds.getLsbD 2 || kinds.getLsbD 3) && s.writesOutstanding s.cur)
    let after := (s.onMe (fun k => { k with stale := if kinds.getLsbD 3 then [] else k.stale })).past
    exec (.fence kinds sc) s = .next (if earlier then s.held else after) ∧
    exec (.fencee kinds sc) s = .next (if earlier || engines then s.held else after)

/-- R132-R135 (05): PREF, PLD and the fences. -/
def Obligations.PrefetchWindowsAndFences : Prop := Claims.PrefetchAndWindows ∧ Claims.Fences

/-- R136-R140 (05): an atomic that can be performed joins the core's accesses with its operands, its order at its scope and its
destination pending; memory does not change yet. -/
def Sys2Proof.Claims.AtomicsIssue : Prop :=
  ∀ (i : Instr) (s : State) (f : AtomForm) (key : Nat), s.lone = true → atomForm s.xv i = some f →
    s.xOk f.regs = true → s.reach f.va f.size true true true = some key →
    (orderReleases f.order = true → s.me.recordsDone = true) → f.barred s.me = false →
    exec i s = .next ((s.used f.va).enters f.kind [(key, 0)] f.size f.dests
      (if orderAcquires f.order then some f.scope else none) (if orderReleases f.order then some f.scope else none) 3
      [f.va]).past

/-- R140 (05): in deterministic mode a FAMO faults before any access. -/
def Sys2Proof.Claims.DeterministicFamo : Prop :=
  ∀ (s : State) (half : Bool) (d a b : Reg) (sc : Scope) (o : Order), s.lone = true → s.xOk [a, b] = true →
    s.me.det = true → exec (.famo half d a b sc o) s = .next (s.raised .deterministicMode (s.xv a))

/-- R136-R140 (05): atomics. -/
def Obligations.Atomics : Prop := Claims.AtomicsIssue ∧ Claims.DeterministicFamo

/-- R169 (06): VLD and VST move 128 bytes, sixteen units of 8, from the ring's read position or to its write position,
and advance it by the slots they take; with too few slots they stall. -/
def Sys2Proof.Claims.RingVectors : Prop :=
  ∀ (s : State) (v hr : Reg) (t : Fmt), s.lone = true → s.me.vFree v = true →
    let h := s.me.getH hr.toNat
    let q := 128 / h.slot
    h.valid = true → h.vectorOk = true →
    let free := h.slots - h.filled
    let from_ (p : BitVec 32) := (List.range 16).map (h.unitAddr p.toNat)
    (h.filled < q → exec (.vld v hr t) s = .next s.held) ∧
    (free < q → exec (.vst hr v t) s = .next s.held) ∧
    (∀ keys u, q ≤ h.filled → s.loadsOut < 16 →
      s.reachAll 8 false (s.fillers s.cur hr.toNat) (from_ h.rpos) = some (keys, u) →
      exec (.vld v hr t) s = .next ((u.enters .vload keys.zipIdx 8 [.v v.toNat] none none
        ((keys.map (loadDelay s.cur)).foldl max 2) (from_ h.rpos)).onMe
          (fun k => k.setH hr.toNat { h with rpos := h.rpos + BitVec.ofNat 32 q })).past) ∧
    (∀ keys u, q ≤ free → s.storesOut < 32 → s.reachAll 8 true [] (from_ h.wpos) = some (keys, u) →
      exec (.vst hr v t) s = .next ((u.enters
        (.store ((List.range 16).map (fun j => ((leBytes 128 (s.vv v).toNat).drop (j * 8)).take 8))) keys.zipIdx 8 []
        none none 1 (from_ h.wpos)).onMe
          (fun k => k.setH hr.toNat { h with wpos := h.wpos + BitVec.ofNat 32 q })).past)

/-- R170 (06): VGATH and VSCAT access base + offset × element size for each active lane, in ascending lane order. -/
def Sys2Proof.Claims.GatherAndScatter : Prop :=
  ∀ (s : State) (vd vb xa : Reg) (t : Fmt) (m : Reg3), s.lone = true → s.xOk [xa] = true → s.me.vFree vd = true →
    s.me.vFree vb = true → s.me.mFree m.toNat = true →
    let e := laneBits t / 8
    let lanes := (List.range (laneCount t)).filter (laneActive (laneCount t) (s.mv m.toNat))
    let addrs := lanes.map (fun i => s.xv xa + BitVec.ofNat 64 (laneOf t (s.vv vb) i * e))
    let vas := if lanes.isEmpty then [s.xv xa] else addrs
    (∀ keys u, s.reachAll e false [] addrs = some (keys, u) → s.loadsOut < 16 →
      exec (.vgath vd xa vb t m) s = .next (u.enters (.gather t []) (keys.zip lanes) e [.v vd.toNat] none none
        ((keys.map (loadDelay s.cur)).foldl max 2) vas).past) ∧
    (∀ keys u, s.reachAll e true [] addrs = some (keys, u) → s.storesOut < 32 →
      exec (.vscat vd xa vb t m) s = .next (u.enters
        (.store (lanes.map (fun i => leBytes e (laneOf t (s.vv vd) i)))) (keys.zip lanes) e [] none none 1 vas).past)

/-- R169, R170 (06): vector accesses. -/
def Obligations.VectorMemory : Prop := Claims.RingVectors ∧ Claims.GatherAndScatter

/-! ### Queues -/

/-- R105 (04), R218 (09), R99-R102: a QPUSH through an open output binding with a credit sends its run of registers as one item and
takes one credit; without a credit it stalls, and QPUSH.NB writes 1 instead; on an unbound port QPUSH raises
queue-unbound and QPUSH.NB writes 2; on an input binding both raise queue-direction. -/
def Sys2Proof.Claims.QueuePushes : Prop :=
  ∀ (s : State) (p b d : Reg), s.lone = true → s.xOk [d] = true →
    let info := BitVec.ofNat 64 (p.toNat - 24)
    (s.opened p = none →
      exec (.qpush p b) s = .next (s.raised .queueUnbound info) ∧ exec (.qpushNb d p b) s = .next (s.putX d 2).past) ∧
    (∀ bd q, s.opened p = some (bd, q) →
      (bd.output = false → exec (.qpush p b) s = .next (s.raised .queueDirection info) ∧
        exec (.qpushNb d p b) s = .next (s.raised .queueDirection info)) ∧
      (bd.output = true → (q.words = 0 ∨ b.toNat + q.words ≤ 24) →
        let run := (List.range q.words).map (fun i => BitVec.ofNat 5 (b.toNat + i))
        (q.creditsOf (.core s.cur (p.toNat - 24)) = 0 → exec (.qpushNb d p b) s = .next (s.putX d 1).past) ∧
        (s.xOk run = true → s.me.recordsDone = true → q.creditsOf (.core s.cur (p.toNat - 24)) = 0 →
          exec (.qpush p b) s = .next s.held) ∧
        (s.xOk run = true → s.me.recordsDone = true → 0 < q.creditsOf (.core s.cur (p.toNat - 24)) →
          let t := s.push (s.bindKey bd) (.core s.cur (p.toNat - 24)) (run.map s.xv) false
          exec (.qpush p b) s = .next t.past ∧ exec (.qpushNb d p b) s = .next (t.putX d 0).past)))

/-- R102 (04), R218 (09): what sending an item does: the queue's flight gains it, its words brought to the item size, and its
producer holds one credit less; no other queue changes, nor any core, cluster or byte of memory. -/
def Sys2Proof.Claims.PushTakesACredit : Prop :=
  ∀ (s : State) (key : Nat) (src : Party) (ws : List Word) (q : Queue), mget s.queues key = some q → q.branches ≠ [] →
    ∃ f q', mget (s.push key src ws false).queues key = some q' ∧ q'.flight = q.flight ++ [f] ∧
      f.elem.words = padWords q.words ws ∧ f.elem.marker = false ∧ f.place = src.router ∧
      q'.creditsOf src = q.creditsOf src - 1 ∧ (∀ p, p ≠ src → q'.creditsOf p = q.creditsOf p) ∧
      (∀ k, k ≠ key → mget (s.push key src ws false).queues k = mget s.queues k) ∧
      (s.push key src ws false).cores = s.cores ∧ (s.push key src ws false).clusters = s.clusters ∧
      (s.push key src ws false).mem = s.mem

/-- R105 (04), R218 (09): pushes, and the credit they take. -/
def Obligations.PushesAndCredits : Prop := Claims.QueuePushes ∧ Claims.PushTakesACredit

/-- R106 (04), R101, R227 (09): QPOP takes the head item into its run, or stalls while there is none, and raises queue-closed on
a closed keyed-merge queue; QTRY and QPEEK answer 0 with the item, 1 for an empty queue, 2 for an unbound port, 3 for a
closed queue, which QTRY reopens, and 4 for a marker; QPEEK takes nothing. -/
def Obligations.QueuePops : Prop :=
  ∀ (s : State) (d p b : Reg), s.lone = true →
    let info := BitVec.ofNat 64 (p.toNat - 24)
    (s.opened p = none → exec (.qpop d p) s = .next (s.raised .queueUnbound info) ∧ (s.xOk [b] = true →
      exec (.qtry d p b) s = .next (s.putX b 2).past ∧ exec (.qpeek d p b) s = .next (s.putX b 2).past)) ∧
    (∀ bd q, s.opened p = some (bd, q) →
      let key := s.bindKey bd
      let run := (List.range q.words).map (fun i => BitVec.ofNat 5 (d.toNat + i))
      bd.output = false → (q.words = 0 ∨ d.toNat + q.words ≤ 24) → s.xOk (b :: run) = true → b ∉ run →
      (s.headFor key s.cur = .empty ∨ s.headFor key s.cur = .marker → exec (.qpop d p) s = .next s.held) ∧
      (s.headFor key s.cur = .closed → exec (.qpop d p) s = .next (s.raised .queueClosed info)) ∧
      (∀ ws, s.headFor key s.cur = .item ws →
        let popped := (run.zip (padWords q.words ws)).foldl (fun t w => t.putX w.1 w.2) (s.popFor key s.cur)
        let peeked := (run.zip (padWords q.words ws)).foldl (fun t w => t.putX w.1 w.2) s
        exec (.qpop d p) s = .next popped.past ∧ exec (.qtry d p b) s = .next (popped.putX b 0).past ∧
        exec (.qpeek d p b) s = .next (peeked.putX b 0).past) ∧
      (s.headFor key s.cur = .empty → exec (.qtry d p b) s = .next (s.putX b 1).past ∧
        exec (.qpeek d p b) s = .next (s.putX b 1).past) ∧
      (s.headFor key s.cur = .marker → exec (.qtry d p b) s = .next (s.putX b 4).past ∧
        exec (.qpeek d p b) s = .next (s.putX b 4).past) ∧
      (s.headFor key s.cur = .closed → exec (.qtry d p b) s = .next ((s.modQ key Queue.reopen).putX b 3).past ∧
        exec (.qpeek d p b) s = .next (s.putX b 3).past))

/-- R103 (04), R39 (01), R54 (02): a port register that is bound to an input pops its queue once when it is read, however often the word
names it, and the item's first word is what is read; one that is bound to an output reads the value last written, and a
write pushes it. Shown of ADD, whose operand fields may each name a port. -/
def Obligations.PortRegisters : Prop :=
  ∀ (s : State) (d p : Reg) (bd : Binding) (q : Queue), s.lone = true → 24 ≤ p.toNat → s.opened p = some (bd, q) →
    s.me.isPending (.x p.toNat) = false → s.xOk [d] = true →
    (∀ w ws, bd.output = false → s.headFor (s.bindKey bd) s.cur = .item (w :: ws) →
      exec (.add d p p) s = .next ((s.popFor (s.bindKey bd) s.cur).putX d (w + w)).past) ∧
    (bd.output = false → s.headFor (s.bindKey bd) s.cur = .empty ∨ s.headFor (s.bindKey bd) s.cur = .marker →
      exec (.add d p 0) s = .next s.held) ∧
    (bd.output = true → exec (.add d p 0) s = .next (s.putX d bd.last).past) ∧
    (bd.output = true → s.me.recordsDone = true → 0 < q.creditsOf (.core s.cur (p.toNat - 24)) →
      exec (.add p d 0) s = .next ((s.push (s.bindKey bd) (.core s.cur (p.toNat - 24)) [s.xv d] false).onMe
        (fun k => { k with ports := mset k.ports (p.toNat - 24) { bd with last := s.xv d } })).past) ∧
    (bd.output = false → exec (.add p d 0) s = .next (s.raised .queueDirection (BitVec.ofNat 64 (p.toNat - 24))))

/-- R108 (04): QUNB ends the port's binding. QBIND.IN and QBIND.OUT end it and bind the queue that the register names, an output
with the flow window's credits, or raise queue-bind with the port left unbound; one to another chip asks it, stalls until the
answer comes, and binds or raises queue-bind as it says. -/
def Sys2Proof.Claims.QueueBindings : Prop :=
  ∀ (s : State) (p b : Reg), s.lone = true → s.xOk [b] = true → s.me.isPending (.x p.toNat) = false →
    let n := p.toNat - 24
    let v := s.xv b
    let u := s.unbind s.cur n
    exec (.qunb p) s = .next u.past ∧
    (u.mayBindIn s.cur n v = true → exec (.qbindIn p b) s = .next (u.bind s.cur n ⟨idQueue v, idChip v, false, 0⟩).past) ∧
    (u.mayBindIn s.cur n v = false → exec (.qbindIn p b) s = .next (s.settle (.bindFailed n v))) ∧
    (idChip v = s.chip.toNat → u.mayBindOut s.myCl.part (isSup s.cur) v = true →
      exec (.qbindOut p b) s = .next (u.bind s.cur n ⟨idQueue v, idChip v, true, 0⟩).past) ∧
    (idChip v = s.chip.toNat → u.mayBindOut s.myCl.part (isSup s.cur) v = false →
      exec (.qbindOut p b) s = .next (s.settle (.bindFailed n v))) ∧
    (idChip v ≠ s.chip.toNat → idClean v = true →
      (∀ q, q ∈ s.asks → ¬(q.core = s.cur ∧ q.port = n ∧ q.chip = idChip v ∧ q.queue = idQueue v)) →
      exec (.qbindOut p b) s = .next (s.held.leaveNote (.ask n (idChip v) (idQueue v)))) ∧
    (∀ ok attrs rest, idChip v ≠ s.chip.toNat → idClean v = true →
      s.asks = ⟨s.cur, n, idChip v, idQueue v, some (ok, attrs)⟩ :: rest →
      (ok = true → ∃ t, exec (.qbindOut p b) s = .next t ∧ t.me.pc = s.me.pc + 4 ∧ t.mem = s.mem ∧
        mget t.me.ports n = some ⟨idQueue v, idChip v, true, 0⟩ ∧ ∃ q, mget t.queues (queueKey s.chip.toNat (idChip v) (idQueue v)) = some q ∧
          q.creditsOf (.core s.cur n) = q.window) ∧
      (ok = false → exec (.qbindOut p b) s = .next (s.settle (.bindFailed n v))))

/-- R109, R110 (04): QCNT and QATTR answer of the binding as it stands, 0 for an unbound port; QMARK sends a marker from a supervisor
core and raises privilege on a tenant's. -/
def Sys2Proof.Claims.QueueQueries : Prop :=
  ∀ (s : State) (d p b : Reg), s.lone = true → s.xOk [d, b] = true →
    let n := p.toNat - 24
    (mget s.me.ports n = none → exec (.qcnt d p) s = .next (s.putX d 0).past) ∧
    (∀ bd, mget s.me.ports n = some bd →
      exec (.qcnt d p) s = .next (s.putX d (BitVec.ofNat 64 (s.countFor s.cur n bd))).past) ∧
    ((s.xv b).toNat ≤ 10 → mget s.me.ports n = none → exec (.qattr d p b) s = .next (s.putX d 0).past) ∧
    (∀ bd q, (s.xv b).toNat ≤ 10 → mget s.me.ports n = some bd → mget s.queues (s.bindKey bd) = some q →
      exec (.qattr d p b) s = .next (s.putX d (BitVec.ofNat 64 (q.attribute bd (s.xv b).toNat))).past) ∧
    (10 < (s.xv b).toNat → exec (.qattr d p b) s = .next (s.raised .operandRange (s.xv b))) ∧
    (isSup s.cur = false → exec (.qmark p) s = .next (s.raised .privilege 0)) ∧
    (∀ bd q, isSup s.cur = true → s.opened p = some (bd, q) → bd.output = true → s.me.recordsDone = true →
      0 < q.creditsOf (.core s.cur n) → exec (.qmark p) s = .next (s.push (s.bindKey bd) (.core s.cur n) [] true).past)

/-- R108-R110 (04): bindings, counts, attributes, markers. -/
def Obligations.BindingsAndQueries : Prop := Claims.QueueBindings ∧ Claims.QueueQueries

/-! ### Activations -/

/-- R112, R113, R116 (04): a FORK that finds a core with space creates a child there and answers 0, pending for 2 clk; with no
space FORK.STALL stalls, FORK.BUSY and SPAWN answer 2, and FORK.INLINE suspends its parent and starts the child on the core;
a target that holds another role raises activation-target. SPAWN's activation has no parent. A word that R111 calls invalid
raises operand-range. -/
def Sys2Proof.Claims.ForksAndSpawn : Prop :=
  ∀ (s : State) (d a b : Reg) (role : Nat × Nat), s.lone = true → s.memOk → s.xOk [a, d] = true → s.me.role = some role →
    s.me.recordsDone = true →
    let w := s.xv a
    let aw := ActWord.ofWord w
    let regs := (List.range aw.argc).map (fun i => BitVec.ofNat 5 (b.toNat + i))
    let task (parent : Option Nat) :=
      (aw.new (regs.map s.xv) (aw.base (s.baseOf s.cur) s.myCl.yceil) s.cur role (s.me.mem.map (fun o => o.id))).act parent
    (ActWord.valid w = false → exec (.forkBusy d a b) s = .next (s.raised .operandRange w) ∧
      exec (.spawn d a b) s = .next (s.raised .operandRange w)) ∧
    (ActWord.valid w = true → aw.cluster = 0 → (aw.argc = 0 ∨ b.toNat + aw.argc ≤ 24) → s.xOk regs = true →
      (∀ c u, s.target (clusterOf s.cur) role aw none = .core c →
        s.create s.cur c role (task none) (if c = s.cur then 2 else 4) s.cur = some u →
        exec (.spawn d a b) s = .next (u.later (.x d.toNat) 0 0 2).past) ∧
      (∀ n p c u, s.runs n p → p.children < 65535 → s.target (clusterOf s.cur) role aw (some s.cur) = .core c →
        s.create s.cur c role (task (some n)) (if c = s.cur then 2 else 4) s.cur = some u →
        let t := ((u.modAct (clusterOf s.cur) n (fun q => { q with children := q.children + 1 })).later (.x d.toNat) 0 0 2).past
        exec (.forkStall d a b) s = .next t ∧ exec (.forkInline d a b) s = .next t ∧ exec (.forkBusy d a b) s = .next t) ∧
      (s.target (clusterOf s.cur) role aw (some s.cur) = .full →
        exec (.forkStall d a b) s = .next s.held ∧ exec (.forkBusy d a b) s = .next (s.later (.x d.toNat) 2 0 2).past) ∧
      (s.target (clusterOf s.cur) role aw none = .full →
        exec (.spawn d a b) s = .next (s.later (.x d.toNat) 2 0 2).past) ∧
      (s.target (clusterOf s.cur) role aw (some s.cur) = .refused → exec (.forkStall d a b) s = .next (s.raised .activationTarget w) ∧
        exec (.forkInline d a b) s = .next (s.raised .activationTarget w) ∧
        exec (.forkBusy d a b) s = .next (s.raised .activationTarget w)) ∧
      (s.target (clusterOf s.cur) role aw none = .refused → exec (.spawn d a b) s = .next (s.raised .activationTarget w)) ∧
      (∀ n p slot m, s.runs n p → s.target (clusterOf s.cur) role aw (some s.cur) = .full → s.me.tokensDone = true →
        s.me.framePending = false → s.myCl.freeFrame = some slot → s.myCl.freeAct = some m → n ≠ m →
        ∃ t, exec (.forkInline d a b) s = .next t ∧ t.me.act = some m ∧
          t.me.mode = .starting ⟨.task m, s.clk, (task none).base, 2, 0⟩ p.eff (s.clk + 11) ∧
          frameWritten s t p slot (s.me.pc + 4) ∧
          t.act? (clusterOf s.cur) n =
            some { suspended s p (.inlineParent s.cur m d.toNat) slot with children := p.children + 1 } ∧
          t.act? (clusterOf s.cur) m =
            some { task (some n) with place := .running s.cur, member := p.member }))

/-- R112, R113 (04), R230 (09): what a created task leaves: an activation under the lowest free number of its cluster, with its
arguments, and an entry at the end of the run queue of its core; a core that held no role takes it on, and a copy of the role's
code and data begins behind the issuer's earlier accesses, in the next clk or after the mesh time (copy: log 9). -/
def Sys2Proof.Claims.CreatedTask : Prop :=
  ∀ (s : State) (issuer c cls key : Nat) (role : Nat × Nat) (a : Act) (t : State),
    s.create issuer c role a cls key = some t →
    ∃ n, (s.cl (clusterOf c)).freeAct = some n ∧ t.act? (clusterOf c) n = some { a with place := .queued c } ∧
      (t.core c).runq = (s.core c).runq ++ [⟨.task n, s.clk, a.base, cls, key⟩] ∧ (t.core c).x = (s.core c).x ∧
      (t.core c).pc = (s.core c).pc ∧ (∀ o, o ≠ c → t.core o = s.core o) ∧ t.queues = s.queues ∧ t.mem = s.mem ∧
      ((s.core c).role.isSome = true → (t.core c).role = (s.core c).role ∧ (t.core c).roleCopy = (s.core c).roleCopy) ∧
      ((s.core c).role = none → (t.core c).role = some role ∧ (t.core c).ports = [] ∧
        ∀ im, s.roleImage role = some im → im.code ≠ [] → im.data ≠ [] → (t.core c).roleCopy = some
          ⟨issuer, a.gate.2, s.clk + (if clusterOf issuer = clusterOf c then 1 else meshTime (clusterOf issuer) (clusterOf c)),
            [(im.off, 4 * im.code.length), (im.dataOff, im.data.length)]⟩)

/-- R111-R116 (04): FORK and SPAWN, and the task they create. -/
def Sys2Proof.Claims.AllForks : Prop := Claims.ForksAndSpawn ∧ Claims.CreatedTask

/-- R113 (04): ACT in the issuer's own cluster answers as its target does, pending for 2 clk; to another cluster of the region it sends
a request that arrives after the mesh time, and x[d] is pending until the answer; a cluster outside the region raises
activation-target. -/
def Sys2Proof.Claims.ActSends : Prop :=
  ∀ (s : State) (d a b : Reg) (role : Nat × Nat), s.lone = true → s.xOk [a, d] = true → s.me.role = some role →
    s.me.recordsDone = true →
    let w := s.xv a
    let aw := ActWord.ofWord w
    let regs := (List.range aw.argc).map (fun i => BitVec.ofNat 5 (b.toNat + i))
    let gate := s.me.mem.map (fun o => o.id)
    ActWord.valid w = true → (aw.argc = 0 ∨ b.toNat + aw.argc ≤ 24) → s.xOk regs = true →
    (s.myCl.offsetCluster aw.cluster = none → exec (.act d a b) s = .next (s.raised .activationTarget w)) ∧
    (∀ cl, s.myCl.offsetCluster aw.cluster = some cl → cl ≠ clusterOf s.cur →
      exec (.act d a b) s = .next (let t : State := ({ s with nextId := s.nextId + 1 } : State).onMe (fun k => { k with
          waits := k.waits ++ (if d = 0 then [] else [⟨s.nextId, .x d.toNat, .none⟩]) })
        ({ t with actReqs := s.actReqs ++ [⟨s.cur, s.nextId, cl, w, regs.map s.xv, s.baseOf s.cur, role,
          s.clk + meshTime (clusterOf s.cur) cl, none, gate⟩] } : State).past)) ∧
    (s.myCl.offsetCluster aw.cluster = some (clusterOf s.cur) →
      let task := (aw.new (regs.map s.xv) (aw.base (s.baseOf s.cur) s.myCl.yceil) s.cur role gate).act none
      (∀ c u, s.target (clusterOf s.cur) role aw none = .core c →
        s.create s.cur c role task (if c = s.cur then 2 else 4) s.cur = some u →
        exec (.act d a b) s = .next (u.later (.x d.toNat) 0 0 2).past) ∧
      (s.target (clusterOf s.cur) role aw none = .full → exec (.act d a b) s = .next (s.later (.x d.toNat) 2 0 2).past) ∧
      (s.target (clusterOf s.cur) role aw none = .refused → exec (.act d a b) s = .next (s.later (.x d.toNat) 3 0 2).past))

/-- R112, R115 (04): CREW puts its members' start into the cluster's crew slot, gives cores without a role the issuer's, and answers
0, or 2 while the slot is held or a core of its mask has begun its cut report. -/
def Sys2Proof.Claims.CrewWaits : Prop :=
  ∀ (s : State) (d a b : Reg) (role : Nat × Nat), s.lone = true → s.xOk [a, b, d] = true → s.me.role = some role →
    s.me.recordsDone = true →
    let w := s.xv a
    let aw := ActWord.ofWord w
    let mask := (s.xv b).toNat
    let regs := (List.range aw.argc).map (fun i => BitVec.ofNat 5 (b.toNat + 1 + i))
    ActWord.valid w = true → aw.chosen = false → aw.core = 0 → aw.cluster = 0 → mask < 256 → 2 ≤ maskCount mask →
    (aw.argc = 0 ∨ b.toNat + 1 + aw.argc ≤ 24) → s.xOk regs = true →
    let cores := maskCores (clusterOf s.cur) mask
    let gate := s.me.mem.map (fun o => o.id)
    (∀ c, c ∈ cores → (s.core c).role = none ∨ (s.core c).role = some role) →
    ((s.myCl.crew ≠ none ∨ ∃ c, c ∈ cores ∧ (s.core c).cutBegun = true) →
      exec (.crew d a b) s = .next (s.later (.x d.toNat) 2 0 2).past) ∧
    (s.myCl.crew = none → (∀ c, c ∈ cores → (s.core c).cutBegun = false) →
      exec (.crew d a b) s = .next ((((cores.foldl (fun t c => t.takeRole s.cur c role gate) s).modCl (clusterOf s.cur) (fun k =>
        { k with crew := some ⟨mask, 0x10000 + BitVec.ofNat 64 aw.entry, regs.map s.xv, aw.base (s.baseOf s.cur) k.yceil, role,
          s.cur, none, gate⟩ })).later (.x d.toNat) 0 0 2).past))

/-- R113, R115 (04): ACT and CREW. -/
def Sys2Proof.Claims.AllActAndCrew : Prop := Claims.ActSends ∧ Claims.CrewWaits

/-- R113-R116 (04): instructions that create activations. -/
def Obligations.ActivationsCreated : Prop := Claims.AllForks ∧ Claims.AllActAndCrew

/-! ### Barriers, rings, tokens -/

/-- R120, R121 (04): the layout of barrier words is checked; an arrival at a barrier that is not initialised raises
barrier-state; an arrival waits until the core's earlier accesses have been performed at the barrier's scope, cluster or chip
(log 10); BARA arrives and goes on; BAR arrives once and goes on when no bit holds it, and BARW waits without
arriving; BINIT sets N of a barrier with no arrival counted. -/
def Sys2Proof.Claims.Barriers : Prop :=
  ∀ (s : State) (a b : Reg), s.lone = true → s.xOk [a, b] = true →
    let w := s.xv a
    let bar := s.barrier s.cur w
    let released := s.me.mem.all (fun o => o.shownAt (if bitsAt w.toNat 14 1 = 1 then .chip else .cl))
    (barWordOk w = false → exec (.bara a) s = .next (s.raised .barrierNumber w) ∧
      exec (.barw a) s = .next (s.raised .barrierNumber w) ∧ exec (.binit a b) s = .next (s.raised .barrierNumber w)) ∧
    (barWordOk w = true → (bitsAt w.toNat 14 1 = 0 ∨ ∃ act id sp, s.running s.cur = some act ∧ act.span = some id ∧
        mget s.spans id = some sp) →
      (bar.n = 0 → exec (.bara a) s = .next (s.raised .barrierState w)) ∧
      (bar.n ≠ 0 → s.me.recordsDone = true → released = false → exec (.bara a) s = .next s.held) ∧
      (bar.n ≠ 0 → s.me.recordsDone = true → released = true →
        exec (.bara a) s = .next (s.arrive s.cur w).past ∧
        (s.me.barArrived = false → ((s.arrive s.cur w).barrier s.cur w).holds s.cur = false →
          exec (.bar a) s = .next (s.arrive s.cur w).past) ∧
        (s.me.barArrived = false → ((s.arrive s.cur w).barrier s.cur w).holds s.cur = true →
          exec (.bar a) s = .next ((s.held.arrive s.cur w).modCore s.cur (fun k => { k with barArrived := true })))) ∧
      (s.me.barArrived = true →
        exec (.bar a) s = .next (if bar.holds s.cur then s.held else s.past)) ∧
      exec (.barw a) s = .next (if bar.holds s.cur then s.held else s.past) ∧
      (bar.a = 0 → 1 ≤ (s.xv b).toNat → (s.xv b).toNat ≤ (if bitsAt w.toNat 14 1 = 1 then 512 else 4096) →
        exec (.binit a b) s = .next (s.setBarrier s.cur w { bar with n := (s.xv b).toNat }).past) ∧
      (bar.a ≠ 0 → exec (.binit a b) s = .next (s.raised .barrierState w)))

/-- R121 (04): what an arrival does to a cluster barrier: it counts one more, or completes the phase when N are there, which takes
N away, clears every pending bit and releases the others in the next clk. -/
def Sys2Proof.Claims.BarrierPhases : Prop :=
  ∀ (b : Barrier) (c clk : Nat), b.doneAt ≠ some clk →
    (b.a + 1 < b.n → (b.arrive c clk).a = b.a + 1 ∧ (b.arrive c clk).holds c = true ∧ (b.arrive c clk).rel = b.rel ∧
      ∀ d, b.holds d = true → (b.arrive c clk).holds d = true) ∧
    (b.n ≤ b.a + 1 → (b.arrive c clk).a = b.a + 1 - b.n ∧ (b.arrive c clk).pend = [] ∧ (b.arrive c clk).n = b.n ∧
      (b.arrive c clk).doneAt = some clk ∧ (c ∉ b.rel → (b.arrive c clk).holds c = false) ∧
      ∀ d, d ≠ c → b.holds d = true → (b.arrive c clk).holds d = true)

/-- R120, R121 (04): barriers. -/
def Obligations.BarrierInstructions : Prop := Claims.Barriers ∧ Claims.BarrierPhases

/-- R122, R123 (04): RSET accepts a ring that the rule describes; RADVW and RADVR move the write and read position by their
count when it fits, and raise ring-overrun and ring-underrun when it does not; RWAITF and RWAITE wait for slots;
RPOS.W and RPOS.R read the positions; an invalid handle raises ring-geometry. -/
def Sys2Proof.Claims.Rings : Prop :=
  ∀ (s : State) (hr a b d : Reg), s.lone = true → s.xOk [a, b, d] = true →
    let h := s.me.getH hr.toNat
    let c := s.xv b
    let g := RingH.ofWords (s.xv a) c
    let handle := BitVec.ofNat 64 hr.toNat
    (s.ringInUse s.cur hr.toNat = true → exec (.rset hr a b) s = .next s.held) ∧
    (s.ringInUse s.cur hr.toNat = false →
      (ringWordOk c && decide ((s.xv a).toNat % 8 = 0) && insideWindow (s.xv a).toNat g.extent) = true →
      exec (.rset hr a b) s = .next (s.onMe (fun k => k.setH hr.toNat g)).past) ∧
    (s.ringInUse s.cur hr.toNat = false →
      (ringWordOk c && decide ((s.xv a).toNat % 8 = 0) && insideWindow (s.xv a).toNat g.extent) = false →
      exec (.rset hr a b) s = .next (s.raised .ringGeometry handle)) ∧
    (h.valid = false → exec (.radvw hr b) s = .next (s.raised .ringGeometry handle) ∧
      exec (.radvr hr b) s = .next (s.raised .ringGeometry handle) ∧
      exec (.rposW d hr) s = .next (s.raised .ringGeometry handle)) ∧
    (h.valid = true →
      (s.me.recordsDone = true → c.toNat ≤ h.room → exec (.radvw hr b) s =
        .next (s.onMe (fun k => k.setH hr.toNat { h with wpos := h.wpos + BitVec.ofNat 32 c.toNat })).past) ∧
      (h.room < c.toNat → exec (.radvw hr b) s = .next (s.raised .ringOverrun c)) ∧
      (s.me.recordsDone = true → c.toNat ≤ h.filled → exec (.radvr hr b) s =
        .next (s.onMe (fun k => k.setH hr.toNat { h with rpos := h.rpos + BitVec.ofNat 32 c.toNat })).past) ∧
      (h.filled < c.toNat → exec (.radvr hr b) s = .next (s.raised .ringUnderrun c)) ∧
      (c.toNat ≤ 2 ^ h.log2 → exec (.rwaitf hr b) s = .next (if c.toNat ≤ h.filled then s.past else s.held)) ∧
      (c.toNat ≤ 2 ^ h.log2 → exec (.rwaite hr b) s = .next (if c.toNat ≤ h.slots - h.filled then s.past else s.held)) ∧
      (2 ^ h.log2 < c.toNat → exec (.rwaitf hr b) s = .next (s.raised .operandRange c) ∧
        exec (.rwaite hr b) s = .next (s.raised .operandRange c)) ∧
      exec (.rposW d hr) s = .next (s.putX d (h.wpos.setWidth 64)).past ∧
      exec (.rposR d hr) s = .next (s.putX d (h.rpos.setWidth 64)).past)

/-- R124 (04), R142 (05): TWAIT goes on once every token of its mask is zero, and raises a failure that is recorded against one
of them; TPOLL reads which of them are not zero. -/
def Sys2Proof.Claims.Tokens : Prop :=
  ∀ (s : State) (a d : Reg), s.lone = true → s.xOk [a, d] = true →
    let named (t : Nat) := (s.xv a).getLsbD t
    ((∀ f, f ∈ s.me.fails → named f.1 = false) →
      ((∀ t, t < 8 → named t = true → s.me.getK t = 0) → exec (.twait a) s = .next s.past) ∧
      ((∃ t, t < 8 ∧ named t = true ∧ s.me.getK t ≠ 0) → exec (.twait a) s = .next s.held)) ∧
    (∀ t r rest, s.me.fails = (t, r) :: rest → named t = true → exec (.twait a) s = .next (s.settle (.failed t))) ∧
    ∃ v : Word, exec (.tpoll d a) s = .next (s.putX d v).past ∧ v.toNat < 256 ∧
      ∀ t, t < 8 → v.getLsbD t = (named t && decide (s.me.getK t ≠ 0))

/-- R122-R124 (04): rings and tokens. -/
def Obligations.RingsAndTokens : Prop := Claims.Rings ∧ Claims.Tokens

/-! ### Copies and remote operations -/

/-- R141, R145-R151 (05): a data copy that its checks accept joins the copy engine's command queue, counts on its token and takes its
footprint unless it moves nothing; one that a check refuses faults at issue; one that finds no room stalls. -/
def Sys2Proof.Claims.CopiesIssue : Prop :=
  ∀ (i : Instr) (s : State) (kind : CopyKind) (k : Reg3) (rs : List Reg) (f : CopyCmd → CopyCmd), s.lone = true →
    copyForm s i = some (kind, k, rs, f) → s.xOk rs = true →
    let probe := f (CopyCmd.blank 0 kind k.toNat s.clk 0 0)
    (∀ c v, copyCheck probe = some (c, v) → exec i s = .next (s.raised c v)) ∧
    (copyCheck probe = none → s.copyRoom = true → s.me.getK k.toNat < 255 →
      (probe.total ≠ 0 → s.me.foot.length < 16) →
      exec i s = .next ((s.counts k.toNat (probe.total ≠ 0) probe.extents.1 probe.extents.2).onMe (fun c => { c with
        copies := c.copies ++ [f (CopyCmd.blank s.nextId kind k.toNat s.clk s.me.pc s.issue.word)] })).past) ∧
    (copyCheck probe = none → (s.copyRoom = false ∨ 255 ≤ s.me.getK k.toNat ∨ (probe.total ≠ 0 ∧ 16 ≤ s.me.foot.length)) →
      exec i s = .next s.held)

/-- R152-R154 (05): CARM checks its template number and address, disarms the template and sends the arming to the copy
engine; CDIS disarms; both stall while a firing of the template is in flight. -/
def Sys2Proof.Claims.Templates : Prop :=
  ∀ (s : State) (a b : Reg) (k : Reg3), s.lone = true → s.xOk [a, b] = true →
    let t := (s.xv a).toNat
    let va := s.xv b
    (7 < t → exec (.cdis a) s = .next (s.raised .operandRange (s.xv a)) ∧
      exec (.carm a b k) s = .next (s.raised .operandRange (s.xv a))) ∧
    (t ≤ 7 → s.me.firing t = false →
      exec (.cdis a) s = .next (s.onMe (fun c => { c with templates := mdel c.templates t })).past) ∧
    (t ≤ 7 → s.me.firing t = true → exec (.cdis a) s = .next s.held) ∧
    (∀ off, t ≤ 7 → placeOf va = .own off → va.toNat % 64 = 0 → s.me.firing t = false → s.copyRoom = true →
      s.me.getK k.toNat < 255 → s.me.foot.length < 16 →
      exec (.carm a b k) s = .next (((s.onMe (fun c => { c with templates := mdel c.templates t })).counts k.toNat True
        [(va.toNat, 64)] []).onMe (fun c => { c with
          copies := c.copies ++ [{ CopyCmd.blank s.nextId .carm k.toNat s.clk s.me.pc s.issue.word with a0 := s.xv a, b0 := va }] })).past)

/-- R143, R144 (05): a remote operation counts on its token, takes no footprint and joins the command queue behind the
commands that count on its ordering token; its destination is pending until the reply. -/
def Sys2Proof.Claims.RemoteIssue : Prop :=
  ∀ (i : Instr) (s : State) (f : RemoteForm), s.lone = true → remoteForm s.xv i = some f → s.xOk f.regs = true →
    (∀ c, remotePlace f.va = some c → exec i s = .next (s.raised c f.va)) ∧
    (remotePlace f.va = none → s.copyRoom = true → s.me.getK f.token.toNat < 255 →
      let dest := f.dest.bind (fun d => if d = 0 then none else some (Dest.x d.toNat))
      exec i s = .next ((s.counts f.token.toNat False [] []).onMe (fun c => { c with
        copies := c.copies ++ [{ CopyCmd.blank s.nextId (.remote f.op) f.token.toNat s.clk s.me.pc s.issue.word with
          a0 := f.va, b0 := f.data, b1 := f.cmp, dest := dest, after := if f.order = 0 then [] else s.countedOn s.cur f.order.toNat }]
        waits := c.waits ++ (dest.toList.map (fun d => ⟨s.nextId, d, .none⟩)) })).past)

/-- R141-R154 (05): copies, templates and remote operations. -/
def Obligations.EngineCopies : Prop := Claims.CopiesIssue ∧ Claims.Templates ∧ Claims.RemoteIssue

/-! ### Vectors -/

/-- R156, R158, R160, R162 (06): a lanewise operation writes each active lane's result and makes the other lanes zero, or, for
the fused forms, keeps them; its flags are those of the active lanes; it is usable after its latency. -/
def Obligations.VectorLanes : Prop :=
  ∀ (i : Instr) (s : State) (f : LaneForm), s.lone = true → laneForm s.myCl i = some f →
    f.reads.all s.me.vFree = true → s.me.vFree f.dest = true → s.me.mFree f.mask.toNat = true →
    let r (l : Nat) := if laneActive (laneCount f.fmt) (s.mv f.mask.toNat) l then f.lane (f.reads.map (fun v => laneOf f.fmt (s.vv v) l))
      else (if f.keeps then laneOf f.fmt (s.vv f.dest) l else 0, 0)
    let lanes := (List.range (laneCount f.fmt)).map r
    exec i s = .next (s.writesV f.dest (ofLanes f.fmt (lanes.map (fun p => p.1))) (orFlags (lanes.map (fun p => p.2))) f.lat).past

/-- R161 (06): a comparison writes one bit a lane to a mask register, 0 for inactive lanes and past the last lane. -/
def Sys2Proof.Claims.VectorCompares : Prop :=
  ∀ (i : Instr) (s : State) (d a b : Reg) (t : Fmt) (m : Reg3) (cmp : Nat → Nat → Bool × BitVec 6), s.lone = true →
    compareForm i = some (d, a, b, t, m, cmp) → s.me.vFree a = true → s.me.vFree b = true → s.me.mFree m.toNat = true →
    s.me.isPending (.m d.toNat) = false →
    ∃ v fl, exec i s = .next (s.later (.m d.toNat) v fl 2).past ∧
      (∀ l, l < laneCount t → l < 128 → v.getLsbD l =
        (laneActive (laneCount t) (s.mv m.toNat) l && (cmp (laneOf t (s.vv a) l) (laneOf t (s.vv b) l)).1)) ∧
      (∀ l, min (laneCount t) 128 ≤ l → v.getLsbD l = false) ∧
      fl = orFlags ((List.range (laneCount t)).map (fun l => if laneActive (laneCount t) (s.mv m.toNat) l
        then (cmp (laneOf t (s.vv a) l) (laneOf t (s.vv b) l)).2 else 0))

/-- R161 (06): the mask operations, at once. -/
def Sys2Proof.Claims.MaskOperations : Prop :=
  ∀ (s : State) (d a b : Reg), s.lone = true → s.me.mFree a.toNat = true → s.me.mFree b.toNat = true →
    s.me.isPending (.m d.toNat) = false →
    exec (.vmand d a b) s = .next (s.putM d (s.mv a.toNat &&& s.mv b.toNat)).past ∧
    exec (.vmor d a b) s = .next (s.putM d (s.mv a.toNat ||| s.mv b.toNat)).past ∧
    exec (.vmxor d a b) s = .next (s.putM d (s.mv a.toNat ^^^ s.mv b.toNat)).past

/-- R161 (06): comparisons and mask operations. -/
def Obligations.ComparesAndMasks : Prop := Claims.VectorCompares ∧ Claims.MaskOperations

/-- R161, R163 (06): selections and moves, at once: lane by lane what the rule moves there, zero in inactive lanes (for VSEL
the lane of its second operand). -/
def Sys2Proof.Claims.VectorMoves : Prop :=
  ∀ (i : Instr) (s : State) (f : MoveForm), s.lone = true → moveForm s i = some f → s.xOk f.regs = true →
    f.reads.all s.me.vFree = true → s.me.vFree f.dest = true → s.me.mFree f.mask.toNat = true →
    exec i s = .next (s.putV f.dest (ofLanes f.fmt ((List.range (laneCount f.fmt)).map (fun l =>
      if laneActive (laneCount f.fmt) (s.mv f.mask.toNat) l then f.lane l else f.other l)))).past

/-- R163 (06): VMVX reads one lane into x[d], sign-extended for I8 and I4, and VINS writes one lane and keeps the others; a
lane number past the last raises operand-range.
What VINS leaves of the other lanes' containers is the own reading of the model (log 18). -/
def Sys2Proof.Claims.LaneAccess : Prop :=
  ∀ (s : State) (xd va vd xa xb : Reg) (t : Fmt), s.lone = true → s.xOk [xa, xb, xd] = true → s.me.vFree va = true →
    s.me.vFree vd = true →
    let n := (s.xv xb).toNat
    (n < laneCount t →
      exec (.vmvx xd va xb t) s = .next (s.later (.x xd.toNat) ((if t = .i8 ∨ t = .i4 then
        BitVec.ofInt 64 (intVal t (laneOf t (s.vv va) n)) else BitVec.ofNat 64 (laneOf t (s.vv va) n)).setWidth 1024) 0 2 .vector).past ∧
      ∃ v, exec (.vins vd xa xb t) s = .next (s.putV vd v).past ∧
        laneOf t v n = (s.xv xa).toNat % 2 ^ fmtBits t ∧ ∀ l, l < laneCount t → l ≠ n → laneOf t v l = laneOf t (s.vv vd) l) ∧
    (laneCount t ≤ n → exec (.vmvx xd va xb t) s = .next (s.raised .operandRange (s.xv xb)) ∧
      exec (.vins vd xa xb t) s = .next (s.raised .operandRange (s.xv xb)))

/-- R161, R163 (06): moves and single lanes. -/
def Obligations.VectorMovesAndLanes : Prop := Claims.VectorMoves ∧ Claims.LaneAccess

/-- R164 (06): a reduction combines its terms by the fixed tree and fills the low lane; every other bit is 0. -/
def Sys2Proof.Claims.VectorReductions : Prop :=
  ∀ (i : Instr) (s : State) (f : ReduceForm), s.lone = true → reduceForm i = some f → s.me.vFree f.a = true →
    s.me.vFree f.b = true → s.me.vFree f.dest = true → s.me.mFree f.mask.toNat = true →
    let terms := (List.range (laneCount f.fmt)).map (fun l => if laneActive (laneCount f.fmt) (s.mv f.mask.toNat) l
      then f.term (laneOf f.fmt (s.vv f.a) l) (laneOf f.fmt (s.vv f.b) l) else (f.identity, 0))
    let r := reduce f.combine terms
    exec i s = .next (s.later (.v f.dest.toNat) (BitVec.ofNat 1024 r.1) r.2 8).past

/-- R165, R158 (06): a transcendental of F32 lanes is pending for 12 clk, and stalls within 4 clk of the one before. -/
def Sys2Proof.Claims.Transcendentals : Prop :=
  ∀ (i : Instr) (s : State) (d a : Reg) (m : Reg3) (f : Nat → Nat × BitVec 6), s.lone = true →
    transForm i = some (d, a, m, f) → s.me.vFree a = true → s.me.vFree d = true → s.me.mFree m.toNat = true →
    let busy := s.me.pending.any (fun p => decide (s.clk + 8 < p.ready) && (match p.dest with | .v _ => true | _ => false))
    let lanes := (List.range 32).map (fun l => if laneActive 32 (s.mv m.toNat) l then f (laneOf .f32 (s.vv a) l) else (0, 0))
    exec i s = .next (if busy then s.held else
      (s.later (.v d.toNat) (ofLanes .f32 (lanes.map (fun p => p.1))) (orFlags (lanes.map (fun p => p.2))) 12).past)

/-- R166-R168 (06), R172: conversions lane by lane, and bit transposes, both pending for 4 clk. -/
def Sys2Proof.Claims.Conversions : Prop :=
  ∀ (s : State) (d a : Reg) (tt ts : Fmt) (rm : RMode) (sat : Bool) (m : Reg3), s.lone = true → s.me.vFree a = true →
    s.me.vFree d = true →
    (s.me.mFree m.toNat = true →
      let n := min (laneCount ts) (laneCount tt)
      let lanes := (List.range n).map (fun l => if laneActive n (s.mv m.toNat) l then convert tt ts rm sat (laneOf ts (s.vv a) l)
        else (0, 0))
      exec (.vcvt d a tt ts rm sat m) s =
        .next (s.later (.v d.toNat) (ofLanes tt (lanes.map (fun p => p.1))) (orFlags (lanes.map (fun p => p.2))) 4).past) ∧
    (∃ v, exec (.vtrb d a ts) s = .next (s.later (.v d.toNat) v 0 4).past ∧
      ∀ j l, ts.isSlice = true → j < fmtBits ts → l < 64 → v.getLsbD (64 * j + l) = (laneOf ts (s.vv a) l).testBit j) ∧
    (∃ v, exec (.vtrbi d a ts) s = .next (s.later (.v d.toNat) v 0 4).past ∧
      ∀ j l, ts.isSlice = true → j < fmtBits ts → l < 64 → (laneOf ts v l).testBit j = (s.vv a).getLsbD (64 * j + l))

/-- R164-R168, R172 (06): reductions, transcendentals, conversions, bit transposes. -/
def Obligations.ReductionsAndConversions : Prop := Claims.VectorReductions ∧ Claims.Transcendentals ∧ Claims.Conversions

/-- R174 (06), R275 (11): VPARK takes the lowest free row and answers its handle, or says why it cannot; VUNPK gives the
vector back and frees the row; a handle that is not the activation's raises park-handle. -/
def Obligations.Parking : Prop :=
  ∀ (s : State) (xd va vd xa : Reg), s.lone = true → s.xOk [xd, xa] = true → s.me.vFree va = true → s.me.vFree vd = true →
    let mine := (s.myCl.parks.filter (fun p => decide (p.2 = s.me.owner))).length
    let r := (s.xv xa).toNat - 0x8000
    (mine = 32 → exec (.vpark xd va) s = .next (s.later (.x xd.toNat) 0x20000 0 4 .vector).past) ∧
    (mine ≠ 32 → firstFree (s.myCl.rowUsed s.clk) 2048 0 = none →
      exec (.vpark xd va) s = .next (s.later (.x xd.toNat) 0x10000 0 4 .vector).past) ∧
    (∀ n, mine ≠ 32 → firstFree (s.myCl.rowUsed s.clk) 2048 0 = some n →
      exec (.vpark xd va) s = .next ((s.modCl (clusterOf s.cur) (fun k => { k with
        acc := mset k.acc n (s.vv va), parks := mset k.parks n s.me.owner })).later (.x xd.toNat)
          ((0x8000 + BitVec.ofNat 64 n).setWidth 1024) 0 4 .vector).past) ∧
    (0x8000 ≤ (s.xv xa).toNat → (s.xv xa).toNat < 0x8800 → mget s.myCl.parks r = some s.me.owner →
      exec (.vunpk vd xa) s = .next ((s.modCl (clusterOf s.cur) (fun k => { k with
        parks := mdel k.parks r, freed := mset k.freed r s.clk })).later (.v vd.toNat) (mgetD s.myCl.acc r 0) 0 4).past) ∧
    (((s.xv xa).toNat < 0x8000 ∨ 0x8800 ≤ (s.xv xa).toNat ∨ mget s.myCl.parks r ≠ some s.me.owner) →
      exec (.vunpk vd xa) s = .next (s.raised .parkHandle (s.xv xa)))

/-! ### Matrix instructions -/

/-- R178, R176 (07), R275 (11): MZERO binds its handle to a fresh tile with no shape at issue, and its command releases the old one
when it completes. -/
def Sys2Proof.Claims.MzeroIssues : Prop :=
  ∀ (s : State) (ad : Reg) (k : Reg3), s.lone = true → s.matrixRoom = true → s.me.getK k.toNat < 255 →
    s.me.foot.length < 16 →
    let u := s.binds ad ⟨[], 0, 0, .none, 0, s.me.owner⟩
    exec (.mzero ad k) s = .next ((u.counts k.toNat True [] []).joins (command s (.mzero ((s.tileOf s.cur ad).map (fun t => t.1)))
      s.myCl.nextTile [] 0 0 .none k)).past

/-- R181, R177 (07): MSTOR takes its tile and the store operand at issue, and with F set gives up its handle; an unbound
handle raises tile-state, and a command that the queue has no room for stalls. -/
def Sys2Proof.Claims.MstorIssues : Prop :=
  ∀ (s : State) (aa b : Reg) (t : Fmt) (k : Reg3), s.lone = true → s.xOk [b, b + 1] = true →
    (s.tileOf s.cur aa = none → exec (.mstor aa b t k) s = .next (s.raised .tileState (BitVec.ofNat 64 aa.toNat))) ∧
    (∀ n tl g, s.tileOf s.cur aa = some (n, tl) → storeFmtOk tl.kind t = true →
      s.operand (s.xv b) (s.xv (b + 1)) (laneBits t) true false = some g →
      (s.matrixRoom = false → exec (.mstor aa b t k) s = .next s.held) ∧
      (s.matrixRoom = true → s.me.getK k.toNat < 255 → s.me.foot.length < 16 →
        let free := (s.xv (b + 1)).getLsbD 23
        exec (.mstor aa b t k) s = .next ((((s.counts k.toNat True []
          [((s.xv b).toNat, g.span (rowBytes (laneBits t) g.cols))]).joins
            (command s (.mstor t g free) n tl.rows tl.m tl.n tl.kind k)).onMe
              (fun c => { c with a := if free then mdel c.a aa.toNat else c.a })).past)))

/-- R183 (07), R275 (11): MLOAD gives its handle a fresh tile of the operand's shape, on the old tile's first rows and then the
lowest free ones, in ascending order; with too few rows free it raises tile-space. -/
def Sys2Proof.Claims.MloadIssues : Prop :=
  ∀ (s : State) (ad b : Reg) (k : Reg3) (g : Geo), s.lone = true → s.xOk [b, b + 1] = true →
    s.operand (s.xv b) (s.xv (b + 1)) 32 false true = some g →
    let old := s.tileOf s.cur ad
    let held := (old.map (fun t => t.2.rows)).getD []
    let need := tileRows g.rows g.cols
    (s.myCl.takeRows s.clk (need - held.length) = none →
      exec (.mload ad b k) s = .next (s.raised .tileSpace (BitVec.ofNat 64 ad.toNat))) ∧
    (∀ more, s.myCl.takeRows s.clk (need - held.length) = some more → s.matrixRoom = true → s.me.getK k.toNat < 255 →
      s.me.foot.length < 16 →
      let kind := if (s.xv (b + 1)).getLsbD 22 then TileKind.int else TileKind.float
      ∃ rows t, rows.Pairwise (fun x y => x ≤ y) ∧ rows.Perm (held.take need ++ more) ∧ exec (.mload ad b k) s = .next t ∧ s.movesOn t ∧ mget t.me.a ad.toNat = some s.myCl.nextTile ∧
        mget t.myCl.tiles s.myCl.nextTile = some ⟨rows, g.rows, g.cols, kind, 0, s.me.owner⟩ ∧
        t.myCl.nextTile = s.myCl.nextTile + 1 ∧ t.me.getK k.toNat = s.me.getK k.toNat + 1 ∧
        mgetD t.myCl.mat.queues (s.cur % 8) [] = mgetD s.myCl.mat.queues (s.cur % 8) [] ++
          [command s (.mload g (old.map (fun t => t.1))) s.myCl.nextTile rows g.rows g.cols kind k])

/-- R176-R183 (07): MZERO, MSTOR and MLOAD. -/
def Obligations.TileCommands : Prop := Claims.MzeroIssues ∧ Claims.MstorIssues ∧ Claims.MloadIssues

/-- R179, R180 (07): MMAC of two operands, each a register panel as it stands or a store operand, joins the command queue; into a
tile with no shape it first takes the lowest free rows, zeroed, and gives the tile its shape and kind. An unbound handle and
a tile of the other kind raise tile-state, operands or a tile of another shape operand-range, too few rows tile-space. -/
def Obligations.MmacIssues : Prop :=
  ∀ (s : State) (ad a b : Reg) (t : Fmt) (aSt bSt sat : Bool) (k : Reg3), s.lone = true →
    let handle := BitVec.ofNat 64 ad.toNat
    let kind := tileKindOf t
    let q := laneCount t / 4
    (s.tileOf s.cur ad = none → exec (.mmac ad a b t aSt bSt sat k) s = .next (s.raised .tileState handle)) ∧
    (∀ n tl, s.tileOf s.cur ad = some (n, tl) →
      (tl.kind ≠ .none → tl.kind ≠ kind → exec (.mmac ad a b t aSt bSt sat k) s = .next (s.raised .tileState handle)) ∧
      (∀ va ga ra vb gb rb, (tl.kind = .none ∨ tl.kind = kind) → s.panel a aSt t = some (va, ga, ra) →
        s.panel b bSt t = some (vb, gb, rb) →
        let m := (ga.map (fun g => g.rows)).getD 4
        let ka := (ga.map (fun g => g.cols)).getD q
        let kb := (gb.map (fun g => g.rows)).getD q
        let nn := (gb.map (fun g => g.cols)).getD 4
        let work := MatKind.mmac t sat va vb ga gb m nn ka
        ((ka ≠ kb ∨ (tl.m ≠ 0 ∧ (tl.m ≠ m ∨ tl.n ≠ nn))) → exec (.mmac ad a b t aSt bSt sat k) s =
          .next (s.raised .operandRange (if bSt then s.xv (b + 1) else 0))) ∧
        (ka = kb → tl.m = 0 → s.myCl.takeRows s.clk (tileRows m nn) = none →
          exec (.mmac ad a b t aSt bSt sat k) s = .next (s.raised .tileSpace handle)) ∧
        (ka = kb → s.matrixRoom = true → s.me.getK k.toNat < 255 → s.me.foot.length < 16 →
          (tl.m ≠ 0 → tl.m = m → tl.n = nn → exec (.mmac ad a b t aSt bSt sat k) s =
            .next ((s.counts k.toNat True (ra ++ rb) []).joins (command s work n tl.rows m nn kind k)).past) ∧
          (∀ rows, tl.m = 0 → s.myCl.takeRows s.clk (tileRows m nn) = some rows →
            ∃ u, exec (.mmac ad a b t aSt bSt sat k) s = .next u ∧ s.movesOn u ∧
              mget u.myCl.tiles n = some { tl with rows := rows, m := m, n := nn, kind := kind } ∧
              (∀ r, r ∈ rows → mget u.myCl.acc r = some 0) ∧ u.me.getK k.toNat = s.me.getK k.toNat + 1 ∧
              mgetD u.myCl.mat.queues (s.cur % 8) [] = mgetD s.myCl.mat.queues (s.cur % 8) [] ++
                [command s work n rows m nn kind k]))))

/-- R182, R178 (07): MREAD waits for the core's earlier matrix commands, then reads a tile's sticky flags, or a row's elements as
MSTOR converts them; MPRI sets the priority of later commands, no higher than YCEIL. -/
def Sys2Proof.Claims.MatrixReads : Prop :=
  ∀ (s : State) (vd aa b : Reg) (t : Fmt) (n : Nat) (tl : Tile), s.lone = true → s.xOk [b] = true → s.me.vFree vd = true →
    let sel := s.xv b
    ((s.xv b).toNat ≤ 31 → exec (.mpri b) s =
      .next (s.onMe (fun k => { k with mprio := min (s.xv b).toNat s.myCl.yceil.toNat })).past) ∧
    (31 < (s.xv b).toNat → exec (.mpri b) s = .next (s.raised .operandRange (s.xv b))) ∧
    (s.tileOf s.cur aa = some (n, tl) → bitsAt sel.toNat 21 42 = 0 →
      (sel.getLsbD 63 = true → t = .f32 → mgetD s.myCl.mat.queues (s.cur % 8) [] = [] →
        exec (.mread vd aa b t) s = .next (s.later (.v vd.toNat) (tl.flags.setWidth 1024) 0 4).past) ∧
      (sel.getLsbD 63 = false → storeFmtOk tl.kind t = true → mgetD s.myCl.mat.queues (s.cur % 8) [] ≠ [] →
        exec (.mread vd aa b t) s = .next s.held) ∧
      (sel.getLsbD 63 = false → storeFmtOk tl.kind t = true → mgetD s.myCl.mat.queues (s.cur % 8) [] = [] →
        let ch := s.myCl.getChan (bitsAt sel.toNat 16 5)
        let lanes := (List.range (laneCount t)).map (fun l => storeElem tl.kind t (s.myCl.getZ ch.scale) ch.rm
          (s.myCl.element tl.rows tl.m tl.n (sel.toNat % 256) (bitsAt sel.toNat 8 8 + l)))
        exec (.mread vd aa b t) s =
          .next (s.later (.v vd.toNat) (ofLanes t (lanes.map (fun p => p.1))) (orFlags (lanes.map (fun p => p.2))) 4).past))

/-- R183 (07): MSPAN of a span member reads its descriptor and sends the region to the other clusters of the span that its set
names; one of any other activation raises span-state. -/
def Sys2Proof.Claims.MspanIssues : Prop :=
  ∀ (s : State) (a : Reg) (k : Reg3), s.lone = true → s.xOk [a] = true →
    ((∀ act, s.running s.cur = some act → act.kind ≠ 4) → exec (.mspan a k) s = .next (s.raised .spanState 0)) ∧
    (∀ act id sp w0 w1 w2 g, s.running s.cur = some act → act.kind = 4 → act.span = some id → mget s.spans id = some sp →
      s.descriptor (s.xv a) 32 4 = some [w0, w1, w2, 0] → bitsAt w1.toNat 24 5 = 0 → bitsAt w2.toNat 62 2 ≠ 3 →
      bitsAt w2.toNat 20 42 = 0 → s.operand w0 w1 256 false false = some g →
      bitsAt w2.toNat 0 20 + g.span (rowBytes 256 g.cols) ≤ 2 ^ 20 → s.matrixRoom = true → s.me.getK k.toNat < 255 →
      s.me.foot.length < 16 →
      let n := g.span (rowBytes 256 g.cols)
      let off := bitsAt w2.toNat 0 20
      let targets := sp.others s.myCl (clusterOf s.cur) (bitsAt w2.toNat 62 2)
      exec (.mspan a k) s = .next ((s.counts k.toNat True [(w0.toNat, n)] (hull (targets.map (fun o => (offsetVa o off, n))))).joins
        (command s (.mspan g off targets) 0 [] 0 0 .none k)).past)

/-- R178, R182, R183 (07): MREAD, MPRI and MSPAN. -/
def Obligations.MatrixReadsAndSpans : Prop := Claims.MatrixReads ∧ Claims.MspanIssues

/-! ### Atoll instructions -/

/-- R185, R187, R189, R190 (07): LTLD, LWLD, LRUN and LFLUSH go to the Atoll, two clk away, and count on their token; a core has
at most two that wait; a number past the last table or context, and rings of the wrong slot size, fault at issue. -/
def Sys2Proof.Claims.AtollIssues : Prop :=
  ∀ (s : State) (hr hd b : Reg) (k : Reg3), s.lone = true → s.xOk [b] = true →
    let h := s.me.getH hr.toNat
    let o := s.me.getH hd.toNat
    let n := (s.xv b).toNat
    let cmd (kind : AtollKind) (i j : Nat) (ri rj : RingH) : AtollCmd :=
      ⟨s.nextId, s.cur, kind, i, j, ri, rj, k.toNat, s.clk + 2, s.issue.word⟩
    let sent (takes : Bool) (reads writes : List (Nat × Nat)) (c : AtollCmd) : State :=
      ((s.counts k.toNat (takes = true) reads writes).onMe (fun x => { x with atollQ := x.atollQ ++ [c] })).past
    (s.atollWaiting s.cur = 2 → exec (.lflush k) s = .next s.held) ∧
    (h.valid = true → 3 < n → exec (.ltld hr b k) s = .next (s.raised .operandRange (s.xv b))) ∧
    (h.valid = true → 7 < n → exec (.lwld hr b k) s = .next (s.raised .operandRange (s.xv b))) ∧
    (h.valid = true → o.valid = true → n < 2 ^ 32 → hd ≠ hr → h.slot ≠ selNi s.me.sel * 8 →
      exec (.lrun hd hr b k) s = .next (s.raised .ringGeometry (BitVec.ofNat 64 hr.toNat))) ∧
    (s.atollWaiting s.cur < 2 → s.me.getK k.toNat < 255 → s.me.foot.length < 16 →
      exec (.lflush k) s = .next (sent true [] [] (cmd .lflush 0 0 RingH.invalid RingH.invalid)) ∧
      (h.valid = true → n ≤ 3 → 4096 % h.slot = 0 → exec (.ltld hr b k) s =
        .next (sent true [h.range] [] (cmd (.ltld n) hr.toNat hr.toNat h h))) ∧
      (h.valid = true → n ≤ 7 → 3072 % h.slot = 0 → exec (.lwld hr b k) s =
        .next (sent true [h.range] [] (cmd (.lwld n) hr.toNat hr.toNat h h))) ∧
      (h.valid = true → o.valid = true → n < 2 ^ 32 → hd ≠ hr → h.slot = selNi s.me.sel * 8 → o.slot = selNo s.me.sel * 8 →
        exec (.lrun hd hr b k) s =
          .next (sent (decide (n ≠ 0)) [h.range] [o.range] (cmd (.lrun s.me.sel n) hr.toNat hd.toNat h o))))

/-- R188, R190 (07): LCTX sets the core's selection when its reserved bits are 0; LSTAT reads which banks and contexts are
loaded, how many commands wait and whether one is served. -/
def Sys2Proof.Claims.AtollState : Prop :=
  ∀ (s : State) (a d : Reg), s.lone = true → s.xOk [a, d] = true →
    (selOk (s.xv a) = true → exec (.lctx a) s = .next (s.onMe (fun k => { k with sel := s.xv a })).past) ∧
    (selOk (s.xv a) = false → exec (.lctx a) s = .next (s.raised .operandRange (s.xv a))) ∧
    exec (.lstat d) s = .next (s.putX d (BitVec.ofNat 64 ((if s.myCl.atoll.serving.isSome then 2 ^ 31 else 0) +
      min (s.myCl.atoll.arrivals.length + ((List.range 8).map (fun i => (s.core (clusterOf s.cur * 8 + i)).atollQ.length)).sum) 255 *
        2 ^ 16 + s.myCl.atoll.bankMask * 2 ^ 8 + s.myCl.atoll.ctxMask))).past

/-- R185-R190 (07): the Atoll. -/
def Obligations.AtollCommands : Prop := Claims.AtollIssues ∧ Claims.AtollState

/-! ### Messages, the journal, random numbers -/

/-- R191, R192 (07), R330 (15): XTEN, XPOST, XCAN and XPROBE send their command to the receive engine that its communicator
or handle names, where it arrives after the mesh time; x[d] is pending until the answer. -/
def Sys2Proof.Claims.EngineCommands : Prop :=
  ∀ (s : State) (d a b : Reg), s.lone = true → s.xOk [d, a, b] = true →
    let asks (e : Nat) (cmd : MsgCmd) : State :=
      let t : State := ({ s with nextId := s.nextId + 1 } : State).onMe (fun k => { k with
        waits := k.waits ++ (if d = 0 then [] else [⟨s.nextId, .x d.toNat, .none⟩]) })
      (t.modEngine e (fun g => { g with inbox := g.inbox ++ [⟨s.cur, s.nextId, s.partOf s.cur, s.myCl.region.getD 1024,
        s.clk + engineTime s.cur e, cmd⟩] })).past
    (1023 < (s.xv b).toNat → exec (.xten d a b) s = .next (s.raised .operandRange (s.xv b))) ∧
    (∀ ws, (s.xv b).toNat ≤ 1023 → s.descriptor (s.xv a) 16 6 = some ws →
      exec (.xten d a b) s = .next (asks 0 (.xten (s.xv b).toNat ws))) ∧
    (∀ w ws, s.descriptor (s.xv a) 16 6 = some (w :: ws) →
      exec (.xpost d a) s = .next (asks (engineOf (w.toNat / 2 ^ 48)) (.post (w :: ws)))) ∧
    exec (.xcan d a) s = .next (asks (bitsAt (s.xv a).toNat 16 2) (.cancel (s.xv a))) ∧
    (∀ w ws, s.descriptor (s.xv a) 16 2 = some (w :: ws) →
      exec (.xprobe d a) s = .next (asks (engineOf (w.toNat / 2 ^ 48)) (.probe (w :: ws))))

/-- R193 (07): an XSEND that the communicator does not let through answers 1 or 2 after 2 clk and counts on no token; one that
it does takes the next number of its source and destination, counts on its token with the payload as its footprint,
and answers 0; with no port up on the way to its destination's chip it fails with status 7 (15 R348). -/
def Sys2Proof.Claims.SendMessage : Prop :=
  ∀ (s : State) (d a b : Reg) (k : Reg3) (w0 w1 : Word) (ws : List Word), s.lone = true → s.xOk [d, a, b] = true →
    s.descriptor (s.xv a) 16 4 = some (w0 :: w1 :: ws) →
    let comm := w0.toNat / 2 ^ 48
    let dst := bitsAt w0.toNat 28 20
    let src := bitsAt w0.toNat 8 20
    let len := w1.toNat % 2 ^ 32
    let st := s.sendStatus (s.partOf s.cur) comm src dst
    (st ≠ 0 → exec (.xsend d a b k) s = .next (s.later (.x d.toNat) ((BitVec.ofNat 64 st).setWidth 1024) 0 2).past) ∧
    (∀ c, st = 0 → payloadPlace (s.xv b) len = some c → c ≠ .translation → exec (.xsend d a b k) s = .next (s.raised c (s.xv b))) ∧
    (∀ chip, st = 0 → payloadPlace (s.xv b) len = none → s.me.getK k.toNat < 255 → s.me.foot.length < 16 →
      s.rankChip comm dst = some chip →
      ∃ t h, exec (.xsend d a b k) s = .next t ∧ s.movesOn t ∧ h.comm = comm ∧
        h.src = src ∧ h.dst = dst ∧ h.len = len ∧ h.tag = w1.toNat / 2 ^ 32 ∧
        h.number = (s.engine (engineOf comm)).nextNumber (comm, src, dst) ∧
        (t.engine (engineOf comm)).nextNumber (comm, src, dst) = h.number + 1 ∧
        t.me.pending = s.me.pending ++ [⟨s.nextId + 1, .x d.toNat, 0, 0, s.clk + 2, .scalar⟩] ∧
        ((chip = s.chip.toNat ∨ (s.egressPort chip).isSome = true) → t.me.getK k.toNat = s.me.getK k.toNat + 1 ∧
          t.sends = s.sends ++ [⟨s.nextId, s.cur, k.toNat, s.partOf s.cur, s.xv b, h, s.issue.word, 0⟩]) ∧
        (chip ≠ s.chip.toNat → s.egressPort chip = none → mget s.me.fails k.toNat = none →
          (∀ x, x ∈ s.sends → x.id ≠ s.nextId) → t.me.getK k.toNat = s.me.getK k.toNat ∧ t.sends = s.sends ∧
          mget t.me.fails k.toNat = some ⟨7, s.xv b, s.issue.word, 0⟩))

/-- R194 (07), R357-R361 (16): JREC, JSYNC, JTRUNC and JSTAT. A partition that does not journal raises journal-state; a record
or truncation waits for its number; JSYNC counts on its token; JSTAT reads the unit. -/
def Sys2Proof.Claims.JournalCommands : Prop :=
  ∀ (s : State) (d a b : Reg) (k : Reg3), s.lone = true → s.xOk [d, a, b] = true → s.me.recordsDone = true →
    let v := s.xv a
    (∀ w ws, s.descriptor v 32 4 = some (w :: ws) → w.toNat / 256 % 256 = 0 → 1 ≤ w.toNat % 256 → w.toNat % 256 ≤ 4 →
      (s.journals s.cur = false → exec (.jrec d a) s = .next (s.raised .journalState 0)) ∧
      (s.journals s.cur = true → 4096 ≤ s.buffered → exec (.jrec d a) s = .next s.held) ∧
      (s.journals s.cur = true → s.buffered < 4096 → exec (.jrec d a) s = .next (({ s with nextId := s.nextId + 1 } : State).onMe
        (fun c => { c with recs := c.recs ++ [⟨s.nextId, w :: ws, v, none, s.clk⟩],
                           waits := c.waits ++ (if d = 0 then [] else [⟨s.nextId, .x d.toNat, .none⟩]) })).past)) ∧
    (s.journal.last < v.toNat → exec (.jsync a k) s = .next (s.raised .operandRange v)) ∧
    (v.toNat ≤ s.journal.last → s.me.getK k.toNat < 255 → s.me.foot.length < 16 → exec (.jsync a k) s =
      .next ((s.counts k.toNat True [] []).onMe (fun c => { c with jsyncs := c.jsyncs ++ [(s.nextId, v.toNat, k.toNat)] })).past) ∧
    (v.toNat < 2 ^ 48 → s.journals s.cur = false → exec (.jtrunc a b) s = .next (s.raised .journalState 0)) ∧
    (v.toNat < 2 ^ 48 → s.journals s.cur = true → s.buffered < 4096 → exec (.jtrunc a b) s =
      .next (({ s with nextId := s.nextId + 1 } : State).onMe (fun c => { c with
        recs := c.recs ++ [⟨s.nextId, [], 0, some (v.toNat, (s.xv b).toNat), s.clk⟩] })).past) ∧
    (3 < v.toNat → exec (.jstat d a) s = .next (s.raised .operandRange v)) ∧
    (v.toNat ≤ 3 → exec (.jstat d a) s = .next (s.later (.x d.toNat) ((BitVec.ofNat 64 (if v = 0 then s.journal.last
      else if v = 1 then s.journal.acked else if v = 2 then s.journal.state * 4096 + s.journal.partner
      else s.journal.buffer.length)).setWidth 1024) 0 2).past)

/-- R191-R194 (07): messages and the journal's instructions. -/
def Obligations.MessageCommands : Prop := Claims.EngineCommands ∧ Claims.SendMessage ∧ Claims.JournalCommands

/-- R195 (07): RNGC's sample is a function of its counter and its key alone, by the rounds of the rule, pending for 4 clk. -/
def Obligations.RandomSample : Prop :=
  ∀ (s : State) (d a b : Reg), s.lone = true → s.xOk [a, a + 1, b, b + 1, d] = true →
    let k0 := s.xv b
    let k1 := s.xv (b + 1)
    let x0 := s.xv a ^^^ k0
    let x1 := s.xv (a + 1) ^^^ k1 ^^^ 0x9e3779b97f4a7c15
    let y0 := x0 + x1
    let y1 := rotated x1 48 ^^^ y0
    let z0 := y0 + y1
    let z1 := rotated y1 32 ^^^ z0
    let u0 := z0 + k1 + (z1 + k0 + 1)
    let u1 := rotated (z1 + k0 + 1) 16 ^^^ u0
    let w0 := u0 + u1
    let w1 := rotated u1 48 ^^^ w0
    exec (.rngc d a b) s = .next (s.later (.x d.toNat) (((w0 + k1) + (w1 + k0 + 2)).setWidth 1024) 0 4).past


/-! ### The core's own units -/

/-- R78 (03), R158 (06): a result whose clk has come is written to its register, or pushed by a bound port, sets its flags, and is
pending no more. -/
def Sys2Proof.Claims.Writeback : Prop :=
  ∀ (s : State) (c id : Nat) (p : Pending), (s.core c).pending.find? (fun q => decide (q.id = id)) = some p → p.ready ≤ s.clk →
    let free := s.modCore c (fun k => { k with
      pending := k.pending.filter (fun q => decide (q.id ≠ id)), yflags := k.yflags ||| p.flags })
    ((s.core c).portOf p.dest = none → exec (.resultWriteback c id) s = .next (free.modCore c (fun k => k.put p.dest p.value))) ∧
    (∀ n b q, (s.core c).portOf p.dest = some (n, b) → mget s.queues (s.bindKey b) = some q → q.isOpen = true →
      0 < q.creditsOf (.core c n) → (s.core c).recs = [] → exec (.resultWriteback c id) s =
        .next ((free.push (s.bindKey b) (.core c n) [p.value.setWidth 64] false).modCore c
          (fun k => { k with ports := mset k.ports n { b with last := p.value.setWidth 64 } })))

/-- R130, R131 (05): a load that its port can perform puts the bytes of memory, as its core's earlier stores leave them, into its
destination, sign-extended for LD and zero-extended for LDZ; memory does not change. -/
def Sys2Proof.Claims.LoadPerformed : Prop :=
  ∀ (s : State) (c id key : Nat) (o : MemOp) (signed : Bool) (r : Nat),
    (s.core c).mem.find? (fun p => decide (p.id = id)) = some o → o.kind = .load signed → o.lanes = [(key, 0)] →
    s.portReady c o = true → s.sleepers o = [] → s.lanePoison key o.size = false → (s.core c).destsFor id = [.x r] →
    1 ≤ r → r < 24 → o.size ≤ 8 → 1 ≤ o.size →
    let v := ofBytes (s.laneBytes ((s.core c).before id) key o.size)
    exec (.loadReply c id) s = .next (s.modCore c (fun k => ({ k with
      mem := k.mem.filter (fun p => decide (p.id ≠ id)), waits := k.waits.filter (fun w => decide (w.id ≠ id)) }).setX r
        (if signed then signExtend o.size v else BitVec.ofNat 64 v)))

/-- R130 (05), R289 (12): a buffered store that its port can perform writes its bytes, least significant first, and no others; it
leaves the core's list, and no register of the core changes. -/
def Sys2Proof.Claims.StorePerformed : Prop :=
  ∀ (s : State) (c id key : Nat) (o : MemOp) (bs : List Byte),
    (s.core c).mem.find? (fun p => decide (p.id = id)) = some o → o.kind = .store [bs] → o.lanes = [(key, 0)] →
    s.portReady c o = true → s.sleepers o = [] → paSpace key ≤ 2 → s.memOk →
    ∃ t, exec (.storeDrain c id) s = .next t ∧ memRead t.mem key bs.length = bs ∧
      (∀ a, (a < key ∨ key + bs.length ≤ a) → memGet t.mem a = memGet s.mem a) ∧
      (t.core c).mem = (s.core c).mem.filter (fun p => decide (p.id ≠ id)) ∧ (t.core c).x = (s.core c).x ∧
      (t.core c).v = (s.core c).v ∧ (t.core c).pc = (s.core c).pc ∧ (∀ d, d ≠ c → t.core d = s.core d) ∧
      t.clusters = s.clusters ∧ t.queues = s.queues

/-- R169 (06): a VLD that its port can perform puts the 128 bytes of its sixteen units, in order, into its destination. -/
def Sys2Proof.Claims.RingLoadPerformed : Prop :=
  ∀ (s : State) (c id : Nat) (o : MemOp) (unit : Nat → Nat) (r : Nat),
    (s.core c).mem.find? (fun p => decide (p.id = id)) = some o → o.kind = .vload → o.size = 8 →
    o.lanes = (List.range 16).map (fun j => (unit j, j)) → s.portReady c o = true → s.sleepers o = [] →
    (∀ j, j < 16 → s.lanePoison (unit j) 8 = false) → (s.core c).destsFor id = [.v r] →
    exec (.loadReply c id) s = .next (s.modCore c (fun k => ({ k with
      mem := k.mem.filter (fun p => decide (p.id ≠ id)), waits := k.waits.filter (fun w => decide (w.id ≠ id)) }).setV r
        (BitVec.ofNat 1024 (ofBytes ((List.range 16).flatMap (fun j => s.laneBytes ((s.core c).before id) (unit j) 8))))))

/-- R411 (18): a load that meets a poisoned line supplies no data: its destination stays pending with a memory-error. -/
def Sys2Proof.Claims.PoisonMet : Prop :=
  ∀ (s : State) (c id key : Nat) (o : MemOp) (signed : Bool) (d : Dest),
    (s.core c).mem.find? (fun p => decide (p.id = id)) = some o → o.kind = .load signed → o.lanes = [(key, 0)] →
    s.portReady c o = true → s.sleepers o = [] → s.lanePoison key o.size = true → (s.core c).destsFor id = [d] →
    ∃ t, exec (.loadReply c id) s = .next t ∧ (t.core c).mem = (s.core c).mem.filter (fun p => decide (p.id ≠ id)) ∧
      (t.core c).waits = (s.core c).waits.map (fun w => if w.id = id then { w with err := .memory o.va } else w) ∧
      (t.core c).x = (s.core c).x ∧ (t.core c).v = (s.core c).v ∧ t.mem = s.mem ∧ (∀ e, e ≠ c → t.core e = s.core e)

/-- R138 (05): AMO at its port: memory takes the new value and the destination the old one, sign-extended, in one step. -/
def Sys2Proof.Claims.AmoPerformed : Prop :=
  ∀ (s : State) (c id key r : Nat) (o : MemOp) (op : AmoOp) (v : Word),
    (s.core c).mem.find? (fun p => decide (p.id = id)) = some o → o.kind = .amo op v → o.lanes = [(key, 0)] →
    s.portReady c o = true → s.sleepers o = [] → paSpace key ≤ 2 → s.lanePoison key o.size = false → s.memOk →
    (s.core c).destsFor id = [.x r] → 1 ≤ r → r < 24 → (o.size = 4 ∨ o.size = 8) →
    let old := ofBytes (memRead s.mem key o.size)
    let w := v.toNat % 2 ^ (8 * o.size)
    let less (a b : Nat) : Prop := (BitVec.ofNat (8 * o.size) a).toInt < (BitVec.ofNat (8 * o.size) b).toInt
    ∃ t, exec (.atomicAtPort c id) s = .next t ∧ (t.core c).getX r = signExtend o.size old ∧
      (∀ a, (a < key ∨ key + o.size ≤ a) → memGet t.mem a = memGet s.mem a) ∧
      (op = .add → ofBytes (memRead t.mem key o.size) = (old + w) % 2 ^ (8 * o.size)) ∧
      (op = .swap → ofBytes (memRead t.mem key o.size) = w) ∧ (op = .minu → ofBytes (memRead t.mem key o.size) = min old w) ∧
      (op = .maxu → ofBytes (memRead t.mem key o.size) = max old w) ∧
      (op = .and → ofBytes (memRead t.mem key o.size) = old &&& w) ∧
      (op = .or → ofBytes (memRead t.mem key o.size) = old ||| w) ∧
      (op = .xor → ofBytes (memRead t.mem key o.size) = old ^^^ w) ∧
      (op = .min → (less w old → ofBytes (memRead t.mem key o.size) = w) ∧ (¬less w old → ofBytes (memRead t.mem key o.size) = old)) ∧
      (op = .max → (less old w → ofBytes (memRead t.mem key o.size) = w) ∧ (¬less old w → ofBytes (memRead t.mem key o.size) = old)) ∧
      (∀ q, 1 ≤ q → q ≠ r → (t.core c).getX q = (s.core c).getX q)

/-- R139 (05): CAS at its port: memory takes the new value if it holds the compared one, and else stays as it is; the destination
takes the old value, sign-extended, either way. -/
def Sys2Proof.Claims.CasPerformed : Prop :=
  ∀ (s : State) (c id key r : Nat) (o : MemOp) (cmp new : Word),
    (s.core c).mem.find? (fun p => decide (p.id = id)) = some o → o.kind = .cas cmp new → o.lanes = [(key, 0)] →
    s.portReady c o = true → s.sleepers o = [] → paSpace key ≤ 2 → s.lanePoison key o.size = false → s.memOk →
    (s.core c).destsFor id = [.x r] → 1 ≤ r → r < 24 → (o.size = 4 ∨ o.size = 8) →
    let old := ofBytes (memRead s.mem key o.size)
    ∃ t, exec (.atomicAtPort c id) s = .next t ∧ (t.core c).getX r = signExtend o.size old ∧
      (∀ q, 1 ≤ q → q ≠ r → (t.core c).getX q = (s.core c).getX q) ∧
      (old = cmp.toNat % 2 ^ (8 * o.size) → ofBytes (memRead t.mem key o.size) = new.toNat % 2 ^ (8 * o.size) ∧
        ∀ a, (a < key ∨ key + o.size ≤ a) → memGet t.mem a = memGet s.mem a) ∧
      (old ≠ cmp.toNat % 2 ^ (8 * o.size) → t.mem = s.mem)

/-- R139 (05): CASQ at its port: the same for 16 bytes; the lower half of the old value goes to the even register of the pair, the
upper half to the odd one. -/
def Sys2Proof.Claims.CasqPerformed : Prop :=
  ∀ (s : State) (c id key r : Nat) (o : MemOp) (cmp new : BitVec 128),
    (s.core c).mem.find? (fun p => decide (p.id = id)) = some o → o.kind = .casq cmp new → o.lanes = [(key, 0)] → o.size = 16 →
    s.portReady c o = true → s.sleepers o = [] → paSpace key ≤ 2 → s.lanePoison key 16 = false → s.memOk →
    (s.core c).destsFor id = [.x r, .x (r + 1)] → r < 23 →
    let old := ofBytes (memRead s.mem key 16)
    ∃ t, exec (.atomicAtPort c id) s = .next t ∧ (t.core c).getX r = (if r = 0 then 0 else BitVec.ofNat 64 (old % 2 ^ 64)) ∧
      (t.core c).getX (r + 1) = BitVec.ofNat 64 (old / 2 ^ 64) ∧
      (old = cmp.toNat → memRead t.mem key 16 = leBytes 16 new.toNat ∧
        ∀ a, (a < key ∨ key + 16 ≤ a) → memGet t.mem a = memGet s.mem a) ∧
      (old ≠ cmp.toNat → t.mem = s.mem)

/-- R78 (03), R130-R139 (05), R169 (06), R411 (18): results, loads, stores and atomics as they are performed. -/
def Obligations.AccessesPerformed : Prop :=
  Claims.Writeback ∧ Claims.LoadPerformed ∧ Claims.RingLoadPerformed ∧ Claims.PoisonMet ∧ Claims.StorePerformed ∧
    Claims.AmoPerformed ∧ Claims.CasPerformed ∧ Claims.CasqPerformed

/-- R284-R287 (12): a walk that only its own cluster waits for ends: a leaf goes to the cluster's translation cache, its A set in
the table (and D before a write that W allows); an absent page is told to the cores and the engines' clients that wait. -/
def Sys2Proof.Claims.WalkEnds : Prop :=
  ∀ (s : State) (cl part va : Nat) (w : Walk), s.walksOf part va = [w] → w.cluster = cl → s.walkRuns cl part va = true →
    let t : State := { s with walks := s.walks.filter (fun w => !(decide (w.part = part) && decide (w.va / 65536 = va / 65536))) }
    (∀ key log2 e, s.walkTable part va = .leaf key log2 e → e = ofBytes (memRead s.mem key 8) →
      ∃ u, exec (.pageWalk cl part va) s = .next u ∧ u.walks = t.walks ∧
        u.mem = memWrite s.mem key (leBytes 8 ((e ||| 64) ||| (if e.testBit 7 || (w.write && e.testBit 3) then 128 else 0))) ∧
        (∃ f, f ∈ (u.cl cl).tlb ∧ f.part = part ∧ f.log2 = log2 ∧ f.vpage = w.va >>> log2 ∧ f.frame = e / 4096 * 4096 ∧
          f.r = e.testBit 2 ∧ f.w = e.testBit 3 ∧ f.sys = e.testBit 5) ∧ u.cores = s.cores) ∧
    (s.walkTable part va = .absent → ∃ u, exec (.pageWalk cl part va) s = .next u ∧ u.walks = t.walks ∧ u.mem = s.mem ∧
      u.absents = s.absents ++ w.clients.map (fun i => (i, va / 65536)) ∧
      ∀ c, (u.core c).absent = if c ∈ w.waiters then some (va / 65536) else (s.core c).absent)

/-- R288, R292 (12): once nothing uses an entry of the range, an invalidation leaves no cached entry and no walk in it, at clusters
or host ports, and no other entry is lost; the copies of the partition give up the rounds that have only read by such an entry,
and nothing else of a core changes. -/
def Sys2Proof.Claims.Invalidated : Prop :=
  ∀ (s : State) (part lo hi : Nat), s.inUse part lo hi = false →
    let within (e : TlbEntry) : Prop :=
      e.part = part ∧ lo ≤ e.vpage * 2 ^ e.log2 + 2 ^ e.log2 - 1 ∧ e.vpage * 2 ^ e.log2 ≤ hi
    ∃ t, exec (.invalidation part lo hi) s = .next t ∧ t.mem = s.mem ∧
      (∀ cl e, e ∈ (t.cl cl).tlb ↔ (e ∈ (s.cl cl).tlb ∧ ¬within e)) ∧
      (∀ p h, mget s.hosts p = some h → ∃ g, mget t.hosts p = some g ∧ ∀ e, e ∈ g.tlb ↔ (e ∈ h.tlb ∧ ¬within e)) ∧
      (∀ w, w ∈ t.walks ↔ (w ∈ s.walks ∧ ¬(w.part = part ∧ lo ≤ w.va ∧ w.va ≤ hi))) ∧
      ∀ c, t.core c = if s.partOf c = part then { s.core c with
        copies := (s.core c).copies.map (fun x => x.giveUp (s.dropsRound (clusterOf c) part lo hi)) } else s.core c

/-- R387 (17): a page-in of an absent page puts the page's far bytes into the frame and sets V of its entry.
The rights kept are the own choice of the model (log 13). -/
def Sys2Proof.Claims.PagedIn : Prop :=
  ∀ (s : State) (part va frame key : Nat), s.levelZero part va = some key →
    let pa := frame / 65536 * 65536 % 2 ^ 48
    ofBytes (memRead s.mem key 8) % 2 = 0 → s.hbmReady = true → pa + 65536 ≤ 384 * 2 ^ 30 →
    (key + 8 ≤ memKey 0 pa ∨ memKey 0 pa + 65536 ≤ key) → s.memOk →
    (∀ f, f ∈ s.far → Memory.wf f.cells = true ∧ ∀ c, c ∈ f.cells → c.1 < 65536) →
    let page := s.far.find? (fun f => decide (f.part = part) && decide (f.va = va / 65536 * 65536))
    ∃ t, exec (.pageIn part va frame) s = .next t ∧ ofBytes (memRead t.mem key 8) % 2 = 1 ∧
      ofBytes (memRead t.mem key 8) / 4096 * 4096 = (s.chip.toNat * 2 ^ 52 + pa) ∧
      (page = none → ∀ i, i < 65536 → memGet t.mem (memKey 0 pa + i) = 0) ∧
      (∀ f, page = some f → ∀ i, i < 65536 → memGet t.mem (memKey 0 pa + i) = memGet f.cells i) ∧ t.cores = s.cores ∧
      ∀ a, (a < key ∨ key + 8 ≤ a) → (a < memKey 0 pa ∨ memKey 0 pa + 65536 ≤ a) → memGet t.mem a = memGet s.mem a

/-- R389 (17): an eviction of a resident page that no open window meets and nothing uses clears V of its entry, keeps a dirty
page in far memory and invalidates it. -/
def Sys2Proof.Claims.Evicted : Prop :=
  ∀ (s : State) (part va key : Nat), s.levelZero part va = some key →
    let page := va / 65536 * 65536
    let e := ofBytes (memRead s.mem key 8)
    let pa := e / 4096 * 4096
    e % 4 = 3 → malformed s.chip.toNat 0 e = false → paChip pa = s.chip.toNat → paSpace pa = 0 →
    s.windowOver part page = false → s.inUse part page (page + 65535) = false → s.memOk →
    ∃ t, exec (.eviction part va) s = .next t ∧ ofBytes (memRead t.mem key 8) = e - 1 ∧
      (e.testBit 7 = true → t.far.head? = some ⟨part, page, memSlice s.mem (paKey pa) 65536⟩) ∧
      (e.testBit 7 = false → t.far = s.far) ∧
      (∀ cl f, f ∈ (t.cl cl).tlb → ¬(f.part = part ∧ page ≤ f.vpage * 2 ^ f.log2 + 2 ^ f.log2 - 1 ∧ f.vpage * 2 ^ f.log2 ≤ page + 65535)) ∧
      ∀ a, (a < key ∨ key + 8 ≤ a) → memGet t.mem a = memGet s.mem a

/-- R386 (17): the Skerry pair resets a stopped supervisor core and reports it. -/
def Sys2Proof.Claims.SupervisorReset : Prop :=
  ∀ (s : State) (c : Nat), isSup c = true → (s.core c).mode = .stopped →
    ∃ t, exec (.supervisorCoreReset c) s = .next t ∧ t.core c = Core.reset ∧ (∀ d, d ≠ c → t.core d = s.core d) ∧
      t.outbox = s.outbox ++ [.report [BitVec.ofNat 64 c]] ∧ t.mem = s.mem

/-- R284-R288 (12), R386-R389 (17): walks, invalidations, paging, and the reset of a stopped supervisor core. -/
def Obligations.TranslationAndPaging : Prop :=
  Claims.WalkEnds ∧ Claims.Invalidated ∧ Claims.PagedIn ∧ Claims.Evicted ∧ Claims.SupervisorReset

/-! ### The Atoll -/

/-- R185, R190 (07), R320, R322 (14): a command joins the arrival order when its clk comes; an idle Atoll takes the oldest. An LFLUSH
completes at once; an LRUN of a context or bank that is not loaded fails with status 12. -/
def Sys2Proof.Claims.AtollServes : Prop :=
  ∀ (s : State) (cl : Nat), (s.cl cl).awake = true →
    let t := (s.cl cl).atoll
    (∀ core c rest, clusterOf core = cl → (s.core core).atollQ = c :: rest → c.at_ ≤ s.clk →
      exec (.atollArrival core) s = .next ((s.modCore core (fun k => { k with atollQ := rest })).modAtoll cl
        (fun t => { t with arrivals := t.arrivals ++ [c] }))) ∧
    (∀ c rest, t.serving = none → t.arrivals = c :: rest → t.freeAt ≤ s.clk →
      ((∀ sel n, c.kind = .lrun sel n → n = 0 ∨ t.isLoaded sel = true) → c.kind ≠ .lflush →
        ∃ u v, exec (.atollServiceStart cl) s = .next u ∧ (u.cl cl).atoll.serving = some v ∧ v.cmd = c ∧ v.staged = [] ∧
          v.steps = 0 ∧ v.outs = [] ∧ (u.cl cl).atoll.arrivals = rest ∧ u.cores = s.cores ∧ u.mem = s.mem) ∧
      (c.kind = .lflush → c.token < 8 →
        ∃ u, exec (.atollServiceStart cl) s = .next u ∧ (u.cl cl).atoll.serving = none ∧ (u.cl cl).atoll.arrivals = rest ∧
          (u.core c.core).getK c.token = (s.core c.core).getK c.token - 1 ∧ u.mem = s.mem) ∧
      (∀ sel n, c.kind = .lrun sel n → n ≠ 0 → t.isLoaded sel = false → c.token < 8 → mget (s.core c.core).fails c.token = none →
        ∃ u f, exec (.atollServiceStart cl) s = .next u ∧ (u.cl cl).atoll.serving = none ∧
          mget (u.core c.core).fails c.token = some f ∧ f.status = 12 ∧
          (u.core c.core).getK c.token = (s.core c.core).getK c.token - 1 ∧ u.mem = s.mem))

/-- R187 (07), R321 (14): a load moves at most 64 bytes a clk; here one slot of 64 bytes, as the core's earlier stores leave it, which
is then released. In the clk after its last byte its contents go to the bank or context, whose bit is set; a context with a
reserved selector fails it with status 10 and loads nothing. -/
def Sys2Proof.Claims.TableLoads : Prop :=
  ∀ (s : State) (cl : Nat) (v : AtollServe), (s.cl cl).awake = true → (s.cl cl).atoll.serving = some v →
    let c := v.cmd
    let t := (s.cl cl).atoll
    (∃ u, exec (.tableLoadSlotRead cl) s = .next u ∧
      ∀ w, (u.cl cl).atoll.serving = some w → w.staged.length ≤ v.staged.length + 64) ∧
    (∀ keys, v.staged.length < c.kind.loadSize → v.staged.length % 64 = 0 → c.rIn.slot = 64 → v.nextAt < s.clk →
      1 ≤ (s.handle c.core c.hIn).filled →
      s.slotKeys c.core (c.rIn.slotAddr (s.handle c.core c.hIn).rpos.toNat) 64 false = .ok keys → s.atollFree c false keys = true →
      ∃ u w, exec (.tableLoadSlotRead cl) s = .next u ∧ (u.cl cl).atoll.serving = some w ∧
        w.staged = v.staged ++ keys.flatMap (fun k => s.readOwn c.core k 8) ∧ w.cmd = c ∧
        u.handle c.core c.hIn = (s.handle c.core c.hIn).advR 1 ∧ u.mem = s.mem) ∧
    (∀ b, c.kind = .ltld b → 4096 ≤ v.staged.length → v.nextAt < s.clk →
      ∃ u, exec (.tableLoadCommit cl) s = .next u ∧ mget (u.cl cl).atoll.banks b = some (v.staged.take 4096) ∧
        (u.cl cl).atoll.bankMask = t.bankMask ||| 2 ^ b ∧ (u.cl cl).atoll.ctxs = t.ctxs ∧ (u.cl cl).atoll.serving = none ∧
        u.mem = s.mem ∧ (c.token < 8 → (u.core c.core).getK c.token = (s.core c.core).getK c.token - 1)) ∧
    (∀ x, c.kind = .lwld x → 3072 ≤ v.staged.length → v.nextAt < s.clk →
      ((∀ b, b ∈ v.staged.take 3072 → badSelector b = false) →
        ∃ u, exec (.tableLoadCommit cl) s = .next u ∧ mget (u.cl cl).atoll.ctxs x = some (v.staged.take 3072) ∧
          (u.cl cl).atoll.ctxMask = t.ctxMask ||| 2 ^ x ∧ (u.cl cl).atoll.banks = t.banks ∧ (u.cl cl).atoll.serving = none ∧
          u.mem = s.mem ∧ (c.token < 8 → (u.core c.core).getK c.token = (s.core c.core).getK c.token - 1)) ∧
      ((v.staged.take 3072).any badSelector = true → c.token < 8 → mget (s.core c.core).fails c.token = none →
        ∃ u f, exec (.tableLoadCommit cl) s = .next u ∧ (u.cl cl).atoll.ctxs = t.ctxs ∧ (u.cl cl).atoll.ctxMask = t.ctxMask ∧
          (u.cl cl).atoll.serving = none ∧ mget (u.core c.core).fails c.token = some f ∧ f.status = 10 ∧ u.mem = s.mem))

/-- R188, R189 (07), R323-R325 (14): a step of a run takes one input slot, reserves one output slot, keeps its keys and computes its
outputs from the selected stages. Each step's slot is written when it is due, at the write position, which advances; the
last one completes the command. -/
def Sys2Proof.Claims.RunSteps : Prop :=
  ∀ (s : State) (cl n : Nat) (sel : Word) (v : AtollServe), (s.cl cl).atoll.serving = some v → v.cmd.kind = .lrun sel n →
    let c := v.cmd
    let hi := s.handle c.core c.hIn
    let ho := s.handle c.core c.hOut
    (∀ ki ko, (s.cl cl).awake = true → c.hIn ≠ c.hOut → v.steps < n → v.nextAt ≤ s.clk → 1 ≤ hi.filled → 1 ≤ ho.room →
      hi.valid = true → ho.valid = true →
      s.slotKeys c.core (c.rIn.slotAddr hi.rpos.toNat) c.rIn.slot false = .ok ki →
      s.slotKeys c.core (c.rOut.slotAddr (ho.wpos.toNat + ho.resv)) c.rOut.slot true = .ok ko →
      s.atollFree c false ki = true → s.atollFree c true ko = true → s.slotsRead c.core (ko.map (fun a => (a, 8))) = true →
      ∃ u w, exec (.lrunStep cl) s = .next u ∧ (u.cl cl).atoll.serving = some w ∧ w.steps = v.steps + 1 ∧
        w.nextAt = s.clk + selPasses sel ∧ w.outs = v.outs ++ [(s.clk + 8 * selPasses sel + 2, ko,
          (s.cl cl).atoll.run sel ((ki.map (fun k => BitVec.ofNat 64 (ofBytes (s.readOwn c.core k 8)))).take (selNi sel)))] ∧
        u.handle c.core c.hIn = hi.advR 1 ∧ u.handle c.core c.hOut = { ho with resv := ho.resv + 1 } ∧ u.mem = s.mem) ∧
    (∀ at' ko ws rest, v.outs = (at', ko, ws) :: rest → at' ≤ s.clk → ho.valid = true →
      ∃ u, exec (.lrunStepOutput cl) s = .next u ∧
        u.mem = (ko.zip ws).foldl (fun m p => memWrite m p.1 (leBytes 8 p.2.toNat)) s.mem ∧
        u.handle c.core c.hOut = { ho.advW 1 with resv := ho.resv - 1 } ∧
        (n ≤ v.steps ∧ rest = [] → (u.cl cl).atoll.serving = none) ∧
        (¬(n ≤ v.steps ∧ rest = []) → (u.cl cl).atoll.serving = some { v with outs := rest })) ∧
    (n = 0 → v.outs = [] → v.nextAt < s.clk → c.token < 8 →
      ∃ u, exec (.lrunStepOutput cl) s = .next u ∧ (u.cl cl).atoll.serving = none ∧ u.mem = s.mem ∧
        (u.core c.core).getK c.token = (s.core c.core).getK c.token - 1)

/-- R189 (07), R316, R317 (14): a lookup cell's output has, in each of its 64 lanes, the bit of its table that its six inputs
number there, the first input lowest; selectors name a slice of the two stages before, of the inputs, zero or ones. -/
def Sys2Proof.Claims.AllLookupCells : Prop :=
  (∀ (table a b c d e f : Word) (l : Nat), l < 64 →
    (cellOut table [a, b, c, d, e, f]).getLsbD l = table.getLsbD ((a.getLsbD l).toNat + 2 * (b.getLsbD l).toNat +
      4 * (c.getLsbD l).toNat + 8 * (d.getLsbD l).toNat + 16 * (e.getLsbD l).toNat + 32 * (f.getLsbD l).toNat)) ∧
  (∀ (i : Nat) (prev prev2 input : List Word), i < 64 →
    selected i prev prev2 input = prev.getD i 0 ∧ selected (64 + i) prev prev2 input = prev2.getD i 0 ∧
    selected (128 + i) prev prev2 input = input.getD i 0 ∧
    selected 192 prev prev2 input = 0 ∧ selected 193 prev prev2 input = BitVec.allOnes 64)

/-- R185-R190 (07), R316-R329 (14): the Atoll and its cells. -/
def Obligations.AtollAtWork : Prop :=
  Claims.AtollServes ∧ Claims.TableLoads ∧ Claims.RunSteps ∧ Claims.AllLookupCells

/-! ### The copy engine and remote operations -/

/-- R141, R150, R153 (05), R340 (15): the engine that holds fewer than 64 commands, pulls included, takes up the next queued one; a
firing of a template takes its footprint entry then, and one that finds none free lets the next command go first; an empty
copy is finished as it is taken up. -/
def Sys2Proof.Claims.EngineAccepts : Prop :=
  ∀ (s : State) (core : Nat) (c : CopyCmd), s.awakeAt core = true → (s.core core).flying + s.pullsOf core < 64 →
    (s.core core).copies.find? (fun c => decide (c.phase = .queued) &&
      (!(c.template.isSome && decide (c.total ≠ 0)) || decide ((s.core core).foot.length < 16))) = some c →
    ∃ t d, exec (.copyEngineAccept core) s = .next t ∧ (t.core core).copyOf c.id = some d ∧ d.since = s.clk ∧
      d.phase = (if c.total = 0 ∧ c.kind ≠ .carm ∧ c.isRemote = false then .finished else .flying) ∧
      (t.core core).foot = (if c.template.isSome ∧ c.total ≠ 0 then (s.core core).foot ++ [⟨c.id, c.extents.1, c.extents.2⟩]
        else (s.core core).foot) ∧ t.mem = s.mem ∧ ∀ o, o ≠ core → t.core o = s.core o

/-- A core's commands and accesses leave its copies to themselves: none of its accesses waits, none of its commands is a remote
operation, no other core's access counts as performed ahead of its port; one command has the identifier. -/
def Sys2Proof.Claims.alone (s : State) (core id : Nat) (cmd : CopyCmd) : Prop :=
  (s.core core).mem = [] ∧ (∀ x, x ∈ (s.core core).copies → x.isRemote = false) ∧ s.showing = none ∧
    (s.core core).copyOf id = some cmd ∧ ∀ x, x ∈ (s.core core).copies → x.id = id → x = cmd

/-- R145, R148 (05), R292 (12): a CPY within the own local store whose turn it is starts its last round while the engine has a
buffer free: the round holds the source's bytes, and memory does not change. -/
def Sys2Proof.Claims.RoundRead : Prop :=
  ∀ (s : State) (core id : Nat) (cmd : CopyCmd), core < 8208 → s.awakeAt core = true → Claims.alone s core id cmd →
    cmd.kind = .cpy → cmd.rounds = [] → cmd.carry.2 = [] → s.nextCopy core = some id → (s.core core).roundsInHand < 2 →
    cmd.total ≤ cmd.pos + 4096 →
    65536 ≤ cmd.a0.toNat → cmd.a0.toNat + cmd.total ≤ 131072 → 65536 ≤ cmd.b0.toNat → cmd.b0.toNat + cmd.total ≤ 131072 →
    let n := cmd.total - cmd.pos
    let src := localKey core (cmd.a0.toNat + cmd.pos - 65536)
    s.isPoisoned src n = false →
    ∃ t d r, exec (.copyRound core id) s = .next t ∧ (t.core core).copyOf id = some d ∧ d.rounds = [r] ∧ d.pos = cmd.total ∧
      r.pos = cmd.pos ∧ r.len = n ∧ r.stage = .full ∧ r.buf = memRead s.mem src n ∧ t.mem = s.mem ∧
      (t.core core).x = (s.core core).x ∧ (t.core core).k = (s.core core).k

/-- R145, R148 (05): a CPY's last round that has been read puts its bytes at the destination, here in the own local store, and
nothing else in memory; the command is finished. -/
def Sys2Proof.Claims.RoundWritten : Prop :=
  ∀ (s : State) (core id : Nat) (cmd : CopyCmd) (r : Round), core < 8208 → s.awakeAt core = true → Claims.alone s core id cmd →
    cmd.kind = .cpy → cmd.rounds = [r] → cmd.z.out = none → r.stage = .full → r.got = [] → r.buf.length = r.len → 1 ≤ r.len →
    r.pos + r.len = cmd.total → 65536 ≤ cmd.b0.toNat → cmd.b0.toNat + cmd.total ≤ 131072 → s.memOk →
    let dst := localKey core (cmd.b0.toNat + r.pos - 65536)
    ∃ t d, exec (.copyRound core id) s = .next t ∧ memRead t.mem dst r.len = r.buf ∧
      (∀ a, (a < dst ∨ dst + r.len ≤ a) → memGet t.mem a = memGet s.mem a) ∧
      (t.core core).copyOf id = some d ∧ d.phase = .finished ∧
      (t.core core).x = (s.core core).x ∧ (t.core core).k = (s.core core).k

/-- R143, R144 (05): a remote operation leaves for its target with the operands it took, once the commands counted on its ordering
token at its issue are done: into the own chip's ports, or as a flit to another chip. -/
def Sys2Proof.Claims.RemoteLeaves : Prop :=
  ∀ (s u : State) (core id pa : Nat) (cmd : CopyCmd) (op : RemOp), s.awakeAt core = true →
    (s.core core).copyOf id = some cmd → cmd.kind = .remote op → cmd.phase = .flying → cmd.rounds = [] →
    s.orderMet core cmd = true →
    s.engineXlate (.command id) core cmd.a0 (remNeeds op).1 (remNeeds op).2 = (.ok pa, u) → paSpace pa ≤ 1 →
    u.remoteHeld core id pa 8 = false →
    let sent (r : RemReq) : Prop := r.op = op ∧ r.addr = pa ∧ r.data = cmd.b0 ∧ r.cmp = cmd.b1 ∧ r.size = 8 ∧ r.core = core ∧
      r.tag = s.nextId ∧ r.srcChip = s.chip.toNat ∧ r.srcInc = s.inc.toNat ∧ r.gen = s.genOf core
    (paChip pa = s.chip.toNat → u.accessHeld core id (remNeeds op).2 [(paKey pa, 8)] = false →
      ∃ t r, exec (.copyRound core id) s = .next t ∧ t.remIn = s.remIn ++ [r] ∧ sent r ∧ t.straits = s.straits ∧ t.mem = s.mem) ∧
    (paChip pa ≠ s.chip.toNat → (s.egressPort (paChip pa)).isSome = true →
      ∃ (v : State) (r : RemReq), exec (.copyRound core id) s = .next (v.sendFlit ⟨paChip pa, s.chip.toNat, s.inc.toNat, r.srcPart, 0, r.gen, 0, .request r⟩) ∧
        sent r ∧ v.remIn = s.remIn ∧ v.straits = s.straits ∧ v.mem = s.mem) ∧
    (paChip pa ≠ s.chip.toNat → s.egressPort (paChip pa) = none → cmd.token < 8 → cmd.template = none →
      (s.core core).destsFor id = [] → mget (s.core core).fails cmd.token = none →
      ∃ t, exec (.copyRound core id) s = .next t ∧ mget (t.core core).fails cmd.token = some ⟨7, cmd.a0, cmd.word, 0⟩ ∧
        t.straits = s.straits ∧ t.mem = s.mem)

/-- R144 (05): until those commands are done, it does not leave. -/
def Sys2Proof.Claims.RemoteWaits : Prop :=
  ∀ (s : State) (core id i : Nat) (cmd : CopyCmd) (op : RemOp), (s.core core).copyOf id = some cmd → cmd.kind = .remote op →
    i ∈ cmd.after → i ∈ s.outstanding core → exec (.copyRound core id) s = .next s

/-- R148 (05), R292 (12), R388 (17): a round that finds a page absent is given up, with a fault item that names the address and the
command's pair, and the command's next round starts where it started. A voided command is taken up again once the page is
present, and not before. -/
def Sys2Proof.Claims.RoundRestarts : Prop :=
  ∀ (s : State) (core id : Nat) (cmd : CopyCmd), (s.core core).copyOf id = some cmd →
    (∀ r va, let t := s.voidRound core cmd r va
      ∃ d, (t.core core).copyOf id = some d ∧ d.phase = .voided ∧ d.pos = r.pos ∧ d.missing = BitVec.ofNat 64 va ∧
        d.rounds = cmd.rounds.filter (fun q => decide (q.pos < r.pos)) ∧ t.mem = s.mem) ∧
    (s.awakeAt core = true → cmd.phase = .voided →
      ((s.physOf core cmd.missing).isSome = true →
        exec (.roundRestart core id) s = .next (s.modCopy core id (fun c => { c with phase := .flying }))) ∧
      (s.physOf core cmd.missing = none → exec (.roundRestart core id) s = .next s))

/-- R141 (05): a finished command takes 1 from its token and gives up its footprint entry. -/
def Sys2Proof.Claims.CommandCompletes : Prop :=
  ∀ (s : State) (core id : Nat) (cmd : CopyCmd), s.awakeAt core = true → (s.core core).copyOf id = some cmd →
    cmd.template = none → cmd.counts = true → cmd.token < 8 → cmd.phase = .finished → (cmd.total ≠ 0 ∨ cmd.since < s.clk) →
    ∃ t, exec (.commandComplete core id) s = .next t ∧ (t.core core).getK cmd.token = (s.core core).getK cmd.token - 1 ∧
      (∀ k, k ≠ cmd.token → (t.core core).getK k = (s.core core).getK k) ∧
      (t.core core).copies = (s.core core).copies.filter (fun c => decide (c.id ≠ id)) ∧
      (t.core core).foot = (s.core core).foot.filter (fun f => decide (f.id ≠ id)) ∧ t.mem = s.mem ∧
      (t.core core).x = (s.core core).x

/-- R152 (05): the fields of a descriptor that passes its checks, bit by bit. -/
def Sys2Proof.Claims.DescriptorFields : Prop :=
  ∀ (s : State) (c t : Nat) (w0 w1 w2 w3 w4 w5 w6 w7 : Word) (p : Template),
    s.readTemplate c t [w0, w1, w2, w3, w4, w5, w6, w7] = some p →
    let op := (w0 >>> 8) &&& 255
    p.trig = (w0 >>> 48).toNat ∧ p.done = ((w0 >>> 32) &&& 65535).toNat ∧ p.dv = w0.getLsbD 19 ∧ p.addDst = w0.getLsbD 18 ∧
    p.addSrc = w0.getLsbD 17 ∧ ((op = 1 ∧ p.kind = .cpy) ∨ (op = 2 ∧ p.kind = .cpy2) ∨ (op = 5 ∧ p.kind = .cfill)) ∧
    p.a0 = w1 ∧ p.a1 = w2 ∧ p.b0 = w3 ∧ p.b1 = w4 ∧ w5 = 0 ∧ w6 = 0 ∧ w7 = 0 ∧ (w0 &&& 0xfff100ff) = 0

/-- R152 (05): CARM's descriptor is read from the own local store; one that passes arms its template and completes the command, and
another fails it with status 9 and leaves the template disarmed. -/
def Sys2Proof.Claims.DescriptorChecks : Prop :=
  ∀ (s : State) (core id : Nat) (cmd : CopyCmd), s.awakeAt core = true → (s.core core).copyOf id = some cmd →
    cmd.kind = .carm → cmd.template = none → cmd.phase = .flying → cmd.token < 8 →
    let key := localKey core (cmd.b0.toNat - 0x10000)
    let n := cmd.a0.toNat
    s.accessHeld core id false [(key, 64)] = false → (s.core core).footBlocked id [(cmd.b0.toNat, 64)] [] = false →
    s.isPoisoned key 64 = false →
    let found := s.readTemplate core n (wordsOfBytes 8 (s.readOwn core key 64))
    (∀ p, found = some p → ∃ t, exec (.descriptorCheck core id) s = .next t ∧
      mget (t.core core).templates n = some p ∧ (∀ m, m ≠ n → mget (t.core core).templates m = mget (s.core core).templates m) ∧
      (t.core core).getK cmd.token = (s.core core).getK cmd.token - 1 ∧
      (t.core core).copies = (s.core core).copies.filter (fun c => decide (c.id ≠ id)) ∧ t.mem = s.mem) ∧
    (found = none → (s.core core).destsFor id = [] → mget (s.core core).fails cmd.token = none →
      ∃ t, exec (.descriptorCheck core id) s = .next t ∧ mget (t.core core).templates n = none ∧
        (∀ m, m ≠ n → mget (t.core core).templates m = mget (s.core core).templates m) ∧
        mget (t.core core).fails cmd.token = some ⟨9, cmd.b0, cmd.word, 0⟩ ∧
        (t.core core).getK cmd.token = (s.core core).getK cmd.token - 1 ∧ t.mem = s.mem)

/-- R153 (05): an item at an armed template's trigger is popped and forms one command, its source and destination moved by the
item's words where the descriptor asks for it; a closed trigger disarms the template. -/
def Sys2Proof.Claims.TemplateFires : Prop :=
  ∀ (s : State) (core n : Nat) (p : Template), s.awakeAt core = true → mget (s.core core).templates n = some p →
    (s.core core).firing n = false →
    (∀ ws, s.headFor p.trig core = .item ws → copyCheck (p.command n s.nextId s.clk ws) = none →
      ∃ t cmd, exec (.templateFiring core n) s = .next t ∧
        t = { (s.popFor p.trig core).modCore core (fun k => { k with copies := k.copies ++ [cmd] }) with nextId := s.nextId + 1 } ∧
        cmd.kind = p.kind ∧ cmd.a0 = (if p.addSrc then p.a0 + ws.getD 0 0 else p.a0) ∧ cmd.a1 = p.a1 ∧
        cmd.b0 = (if p.addDst then p.b0 + ws.getD 1 0 else p.b0) ∧ cmd.b1 = p.b1 ∧ cmd.phase = .queued ∧ cmd.counts = false ∧
        cmd.template = some (n, ws) ∧ cmd.id = s.nextId) ∧
    (s.headFor p.trig core = .closed → ∃ t, exec (.templateFiring core n) s = .next t ∧
      mget (t.core core).templates n = none ∧ t.mem = s.mem ∧ (t.core core).k = (s.core core).k)

/-- R141-R153 (05): the copy engine. -/
def Sys2Proof.Claims.AllCopyEngineWorks : Prop :=
  Claims.EngineAccepts ∧ Claims.RoundRead ∧ Claims.RoundWritten ∧ Claims.RemoteLeaves ∧ Claims.RemoteWaits ∧
    Claims.RoundRestarts ∧ Claims.CommandCompletes ∧ Claims.DescriptorFields ∧ Claims.DescriptorChecks ∧ Claims.TemplateFires

/-- R143 (05), R298 (13), R354 (15): a request that is not permitted is answered with status 2 and does nothing; one of the own chip
is performed in one step, and its source gets the old value; it waits while its bytes are held by a core's access that
counts as performed already. -/
def Sys2Proof.Claims.RequestPerformed : Prop :=
  ∀ (s : State) (i : Nat) (r : RemReq), s.remIn[i]? = some r →
    let key := paKey r.addr
    let old := BitVec.ofNat 64 (ofBytes (memRead s.mem key 8))
    let done (v : Word) : List RemReply := s.remOut ++ [⟨r.core, r.tag, r.gen, v, [], 0⟩]
    let writes (t : State) (v : Word) : Prop := memRead t.mem key 8 = leBytes 8 v.toNat
    (s.permits r = false → exec (.remoteRequest i) s = .next (({ s with remIn := dropAt s.remIn i } : State).reply r 0 [] 2)) ∧
    (s.permits r = true → r.op ≠ .decode → r.op ≠ .copyLeave →
      s.shownHolds (if r.srcChip = s.chip.toNat then some r.core else none) (!remReads r) key r.size = true →
      exec (.remoteRequest i) s = .next s) ∧
    (r.srcChip = s.chip.toNat → s.frameHeld r.addr = false → s.isPoisoned key r.size = false →
      s.shownHolds (some r.core) (!remReads r) key r.size = false → s.memOk →
      ∃ t, exec (.remoteRequest i) s = .next t ∧ t.remIn = dropAt s.remIn i ∧ t.cores = s.cores ∧
        (r.op = .load → t.mem = s.mem ∧ t.remOut = done old) ∧
        (r.op = .store → writes t r.data ∧ t.remOut = done 0) ∧
        (r.op = .cas → t.remOut = done old ∧ (old ≠ r.cmp → t.mem = s.mem) ∧ (old = r.cmp → writes t r.data)) ∧
        (∀ op, r.op = .amo op → t.remOut = done old) ∧
        (r.op = .amo .add → writes t (old + r.data)) ∧ (r.op = .amo .swap → writes t r.data) ∧
        (r.op = .amo .and → writes t (old &&& r.data)) ∧ (r.op = .amo .or → writes t (old ||| r.data)) ∧
        (r.op = .amo .xor → writes t (old ^^^ r.data)) ∧
        (r.op = .amo .min → writes t (if r.data.toInt < old.toInt then r.data else old)) ∧
        (r.op = .amo .max → writes t (if old.toInt < r.data.toInt then r.data else old)) ∧
        (r.op = .amo .minu → writes t (if r.data.toNat < old.toNat then r.data else old)) ∧
        (r.op = .amo .maxu → writes t (if old.toNat < r.data.toNat then r.data else old)) ∧
        (r.op ≠ .copyWrite → ∀ a, (a < key ∨ key + 8 ≤ a) → memGet t.mem a = memGet s.mem a))

/-- R355 (15): a store to a held frame is not performed but logged, 32 bytes in the log's next slot, and waits while the log is
full; what reads it waits. -/
def Sys2Proof.Claims.HeldFrames : Prop :=
  ∀ (s : State) (i : Nat) (r : RemReq), s.remIn[i]? = some r → s.permits r = true → s.frameHeld r.addr = true →
    (r.op = .store → s.logTail - s.logHead < 4096 → s.memOk →
      s.shownHolds (if r.srcChip = s.chip.toNat then some r.core else none) true (paKey r.addr) r.size = false →
      let slot := memKey 0 (s.logBase.toNat % 2 ^ 48 + 32 * (s.logTail % 4096))
      ∃ t, exec (.remoteRequest i) s = .next t ∧ t.remIn = dropAt s.remIn i ∧ t.logTail = s.logTail + 1 ∧
        t.log = s.log ++ [⟨r, 1⟩] ∧ t.remOut = s.remOut ∧ t.straits = s.straits ∧
        memRead t.mem slot 8 = leBytes 8 (r.srcChip * 2 ^ 52 + r.srcInc * 2 ^ 44 + r.srcPart * 2 ^ 40 +
          r.tag % 65536 * 2 ^ 24 + 1 * 65536 + r.core % 65536) ∧
        memRead t.mem (slot + 8) 8 = leBytes 8 r.addr ∧ memRead t.mem (slot + 16) 8 = leBytes 8 r.data.toNat ∧
        memRead t.mem (slot + 24) 8 = leBytes 8 r.gen ∧
        ∀ a, (a < slot ∨ slot + 32 ≤ a) → memGet t.mem a = memGet s.mem a) ∧
    (r.op = .store → 4096 ≤ s.logTail - s.logHead → exec (.remoteRequest i) s = .next s) ∧
    ((r.op = .load ∨ r.op = .cas ∨ r.op = .copyRead ∨ ∃ op, r.op = .amo op) → exec (.remoteRequest i) s = .next s)

/-- R352, R355 (15): the oldest logged store is performed once its frame is free, or discarded if its source's incarnation has
passed. -/
def Sys2Proof.Claims.LogReplays : Prop :=
  ∀ (s : State) (e : LogEntry) (rest : List LogEntry), s.log = e :: rest → e.req.op = .store → s.memOk →
    (e.req.srcChip = s.chip.toNat → e.req.srcInc = s.inc.toNat → s.frameHeld e.req.addr = false →
      s.isPoisoned (paKey e.req.addr) e.req.size = false →
      ∃ t, exec .remoteFaultReplay s = .next t ∧ t.log = rest ∧ t.logHead = s.logHead + 1 ∧
        memRead t.mem (paKey e.req.addr) 8 = leBytes 8 e.req.data.toNat ∧
        t.remOut = s.remOut ++ [⟨e.req.core, e.req.tag, e.req.gen, 0, [], 0⟩]) ∧
    (∀ n, s.incarnationOf e.req.srcChip = some n → n ≠ e.req.srcInc →
      exec .remoteFaultReplay s = .next { s with log := rest, logHead := s.logHead + 1 })

/-- R143 (05), R353 (15): a reply of the region's generation completes its command: the destination takes the value and the token
loses 1; a reply with a status fails the command; one of another generation is dropped and counted. -/
def Sys2Proof.Claims.ReplyTaken : Prop :=
  ∀ (s : State) (i : Nat) (a : RemReply) (cmd : CopyCmd) (q : Round) (op : RemOp), s.remOut[i]? = some a →
    (s.core a.core).copies.findSome? (fun c => (c.rounds.find? (fun r => r.waitsFor a.tag)).map (fun r => (c, r))) = some (cmd, q) →
    cmd.kind = .remote op → cmd.template = none → cmd.token < 8 →
    (a.gen ≠ s.genOf a.core → exec (.remoteReply i) s = .next (({ s with remOut := dropAt s.remOut i } : State).modCl
      (clusterOf a.core) (fun k => { k with lateReplies := k.lateReplies + 1 }))) ∧
    (∀ r, a.gen = s.genOf a.core → a.status = 0 → (s.core a.core).destsFor cmd.id = [.x r] → 1 ≤ r → r < 24 →
      ∃ t, exec (.remoteReply i) s = .next t ∧ (t.core a.core).getX r = a.value ∧
        (∀ q, 1 ≤ q → q ≠ r → (t.core a.core).getX q = (s.core a.core).getX q) ∧
        (t.core a.core).getK cmd.token = (s.core a.core).getK cmd.token - 1 ∧
        (t.core a.core).waits = (s.core a.core).waits.filter (fun w => decide (w.id ≠ cmd.id)) ∧
        t.remOut = dropAt s.remOut i ∧ t.mem = s.mem) ∧
    (a.gen = s.genOf a.core → a.status ≠ 0 → cmd.isFirst q = true → (s.core a.core).destsFor cmd.id = [] →
      mget (s.core a.core).fails cmd.token = none →
      ∃ t, exec (.remoteReply i) s = .next t ∧
        mget (t.core a.core).fails cmd.token = some ⟨a.status, cmd.a0, cmd.word, 0⟩ ∧
        (t.core a.core).getK cmd.token = (s.core a.core).getK cmd.token - 1 ∧ t.mem = s.mem)

/-- R143, R144 (05), R353-R355 (15): remote operations at their target and as their source sees the reply. -/
def Sys2Proof.Claims.AllRemoteOperations : Prop :=
  Claims.RequestPerformed ∧ Claims.HeldFrames ∧ Claims.LogReplays ∧ Claims.ReplyTaken

/-- R143-R153 (05): copy engines and remote operations at work. -/
def Obligations.CopiesAndRemotesWork : Prop := Claims.AllCopyEngineWorks ∧ Claims.AllRemoteOperations

/-- R256, R257 (10): a block's mode 2 gives zeros and its mode 3 is invalid; in mode 1 exponents, signs and mantissas stand one after
the other (here one element of E4). -/
def Sys2Proof.Claims.BlockModes : Prop :=
  ∀ (e4 : Bool) (tables : Nat → List (Nat × Nat × Int)) (h : BitVec 16) (rest : List Byte) (x b : Byte),
    (h >>> 14 = 2 → zBlock e4 tables (leBytes 2 h.toNat ++ rest) = .ok (List.replicate (h.toNat % 64 + 1) 0, 2)) ∧
    (h >>> 14 = 3 → zBlock e4 tables (leBytes 2 h.toNat ++ rest) = .error .invalid) ∧
    (h >>> 14 = 1 → h &&& 63 = 0 → zBlock true tables (leBytes 2 h.toNat ++ [x, b] ++ rest) =
      .ok ([((b >>> 3) &&& 1) * 128 + (b >>> 4) * 8 + (b &&& 7)], 4))

/-- R259-R262 (10): it takes one block of a cluster in a clk. Bytes for a plain channel are written to the receiving slice as they
are, from the aperture's offset on, and the round is over; a block of a coded channel is decoded and staged; an invalid
one fails the copy with status 11, and output where tenants may not write fails it with status 4; neither writes. -/
def Sys2Proof.Claims.Decoding : Prop :=
  ∀ (s : State) (core id : Nat) (cmd : CopyCmd) (r : Round), (s.core core).copyOf id = some cmd → cmd.kind = .cpy →
    cmd.rounds.find? (fun r => decide (r.stage = .decode) && !r.asked) = some r →
    let z := cmd.z
    let out := z.out.getD 0
    let cl := apertureCluster out
    let o := apertureOff out
    let k := s.cl cl
    let entry := (mget z.entries z.base).getD (k.zEntryOf (apertureChan out))
    let fails (t : State) (status : Nat) : Prop :=
      t.mem = s.mem ∧ mget (t.core core).fails cmd.token = some ⟨status, cmd.b0 + BitVec.ofNat 64 z.base, cmd.word, 0⟩
    let counted : Prop :=
      cmd.template = none ∧ cmd.token < 8 ∧ (s.core core).destsFor id = [] ∧ mget (s.core core).fails cmd.token = none
    (k.decoded = some s.clk → exec (.decodeBlock core id) s = .next s) ∧
    (s.decodeTurn cl (z.since, core, id) = true → z.bytes ≠ [] →
      (entry.1.zs = false → z.staged = [] → o + z.base + z.bytes.length ≤ 2 ^ 20 →
        ((∀ i, i < z.bytes.length → s.mayLand cl (o + z.base + i) = true) → s.memOk →
          ∃ t d, exec (.decodeBlock core id) s = .next t ∧
            memRead t.mem (sliceKey cl (o + z.base)) z.bytes.length = z.bytes ∧
            (∀ a, (a < sliceKey cl (o + z.base) ∨ sliceKey cl (o + z.base) + z.bytes.length ≤ a) →
              memGet t.mem a = memGet s.mem a) ∧
            (t.core core).copyOf id = some d ∧ d.rounds = cmd.rounds.filter (fun q => decide (q.pos ≠ r.pos)) ∧
            d.phase = (if cmd.total ≤ r.pos + r.len then .finished else cmd.phase)) ∧
        (∀ i, i < z.bytes.length → s.mayLand cl (o + z.base + i) = false → counted →
          ∃ t, exec (.decodeBlock core id) s = .next t ∧ fails t 4)) ∧
      (∀ bs used, entry.1.zs = true → zBlock (decide (entry.1.fmt = .e4)) (codeTable entry.2) z.bytes = .ok (bs, used) →
        o + z.count + bs.length ≤ 2 ^ 20 → used < z.bytes.length →
        ∃ t d, exec (.decodeBlock core id) s = .next t ∧ t.mem = s.mem ∧ (t.core core).copyOf id = some d ∧
          d.rounds = cmd.rounds ∧ d.z.count = z.count + bs.length ∧ d.z.base = z.base + used ∧ d.z.bytes = z.bytes.drop used ∧
          d.z.staged = z.staged ++ bs.zipIdx.map (fun p => (o + z.count + p.2, p.1)) ∧ (t.cl cl).decoded = some s.clk) ∧
      (entry.1.zs = true → zBlock (decide (entry.1.fmt = .e4)) (codeTable entry.2) z.bytes = .error .invalid → counted →
        ∃ t, exec (.decodeBlock core id) s = .next t ∧ fails t 11))

/-- R253-R261 (10): the Z-stream decoder. -/
def Obligations.StreamDecoder : Prop := Claims.BlockModes ∧ Claims.Decoding

/-! ### The matrix unit -/

/-- R270, R271 (11): with no pass running or overtaken, the arbiter grants a pass to a ready core with a count left, the lowest such
core from the pointer on while this round has one, and takes 1 from its count. -/
def Sys2Proof.Claims.PassGranted : Prop :=
  ∀ (s : State) (cl n : Nat) (g : FMap Nat) (c : MatCmd), (s.cl cl).awake = true → (∀ m, m < 8 → s.settleHead cl m = s) →
    (s.cl cl).mat.running = none → (s.cl cl).mat.overtaken = none → s.matPick cl = some (n, g) →
    (s.cl cl).mat.head n = some c →
    (s.matReady cl n = true ∧ 0 < mgetD g n 0 ∧
      ∀ o, o < 8 → (s.cl cl).mat.ptr ≤ o → s.matReady cl o = true → 0 < mgetD (s.withCounts cl (s.cl cl).mat.grants) o 0 →
        (s.cl cl).mat.ptr ≤ n ∧ n ≤ o ∧ g = s.withCounts cl (s.cl cl).mat.grants) ∧
    ∃ t p, exec (.matrixPassGrant cl) s = .next t ∧ (t.cl cl).mat.running = some p ∧ p.core = n ∧ p.num = c.pass ∧ p.kPos = 0 ∧
      p.steps = c.kind.steps c.pass ∧ p.overtaking = false ∧ mgetD (t.cl cl).mat.grants n 0 = mgetD g n 0 - 1 ∧
      (t.cl cl).mat.ptr = n ∧ t.mem = s.mem ∧ t.cores = s.cores

/-- R272 (11): an MMAC pass that has taken a step and has not overtaken itself is overtaken by the ready MMAC of the highest effective
priority, at least 16 above its own at its grant; the pointer stays. -/
def Sys2Proof.Claims.PassOvertaken : Prop :=
  ∀ (s : State) (cl n : Nat) (p : Pass) (c : MatCmd), (s.cl cl).awake = true → (∀ m, m < 8 → s.settleHead cl m = s) →
    (s.cl cl).mat.running = some p → p.overtaking = false → p.taken ≠ 0 → (s.cl cl).mat.isMmac p.core = true → n < 8 →
    (s.cl cl).mat.isMmac n = true → s.matReady cl n = true → p.eff + 16 ≤ s.matEff cl n →
    (∀ o, o < 8 → o ≠ n → s.matReady cl o = true → s.matEff cl o < s.matEff cl n) → (s.cl cl).mat.head n = some c →
    ∃ t q, exec (.matrixPassGrant cl) s = .next t ∧ (t.cl cl).mat.running = some q ∧ q.core = n ∧ q.overtaking = true ∧
      q.num = c.pass ∧ (t.cl cl).mat.overtaken = some p ∧ (t.cl cl).mat.ptr = (s.cl cl).mat.ptr ∧ t.mem = s.mem

/-- R277 (11), R181, R183 (07): a head command that lacks a right when it would begin ends with status 4 before its first pass; here the
only core with commands. An MSPAN that names no target has no pass, and completes. -/
def Sys2Proof.Claims.HeadSettles : Prop :=
  ∀ (s : State) (cl n : Nat) (c : MatCmd), (s.cl cl).awake = true → n < 8 → (∀ m, m < 8 → m ≠ n → (s.cl cl).mat.head m = none) →
    (s.cl cl).mat.head n = some c → c.pass = 0 → c.checked = false → s.matFree cl n c = true → c.token < 8 →
    (s.matRights cl c = false → (s.cl cl).mat.isFirst n c.id = true → mget (s.core (cl * 8 + n)).fails c.token = none →
      ∃ t f, exec (.matrixPassGrant cl) s = .next t ∧ mget (t.core (cl * 8 + n)).fails c.token = some f ∧ f.status = 4 ∧
        (t.core (cl * 8 + n)).getK c.token = (s.core (cl * 8 + n)).getK c.token - 1 ∧ t.mem = s.mem) ∧
    (∀ g off, s.matRights cl c = true → c.kind = .mspan g off [] →
      ∃ t d, exec (.matrixPassGrant cl) s = .next t ∧ d ∈ mgetD (t.cl cl).mat.queues n [] ∧ d.id = c.id ∧ d.doneAt = some s.clk ∧
        t.mem = s.mem ∧ t.cores = s.cores)

/-- R267 (11): a fetch whose lines all lie in free banks ends: the command holds the rows of A and of B of its block.
When the bytes are read is the own reading of the model (log 15). -/
def Sys2Proof.Claims.FetchFills : Prop :=
  ∀ (s : State) (cl core : Nat) (cmd : MatCmd) (t : Fmt) (sat : Bool) (va vb : Option Vec) (ga gb : Option Geo) (m n k : Nat),
    (s.cl cl).awake = true → (s.cl cl).mat.fetchHead (core % 8) = some cmd → cmd.kind = .mmac t sat va vb ga gb m n k →
    cmd.kind.fetches = true → cmd.fetched = false → cmd.pass = 0 → 0 < cmd.kind.passes →
    s.matFree cl (core % 8) cmd = true → (cmd.checked = true ∨ s.matRights cl cmd = true) → cmd.lines = none →
    (fetchRanges t ga gb 0 0 k).find? (fun r => s.isPoisoned (sliceKey cl r.1) r.2) = none →
    (fetchLines ((s.cl cl).mat.used s.clk) (linesOf (fetchRanges t ga gb 0 0 k))).1 = [] →
    ∃ u d, exec (.operandFetch cl core) s = .next u ∧ (u.cl cl).mat.fetchHead (core % 8) = some d ∧ d.id = cmd.id ∧ d.fetched = true ∧
      d.aBuf = s.fetchA cl (cl * 8 + core % 8) t va ga k 0 ∧ d.bBuf = s.fetchB cl (cl * 8 + core % 8) t vb gb k 0 ∧
      d.pass = 0 ∧ u.mem = s.mem ∧ u.cores = s.cores

/-- R267 (11), R177 (07): an element of a row of an E4 store operand is the byte at the row's offset and its column; beyond the
operand's rows and columns it is 0. -/
def Sys2Proof.Claims.OperandRows : Prop :=
  ∀ (s : State) (cl core : Nat) (g : Geo) (r c0 n i : Nat), (s.core core).mem = [] → i < n →
    ((s.geoRow cl core .e4 g r c0 n).getD i 0 = if r < g.rows ∧ c0 + i < g.cols
      then (memGet s.mem (sliceKey cl (g.base + g.rowOff r + (c0 + i)))).toNat else 0)

/-- R267 (11): of distinct lines, those read in one clk lie in banks not yet used in it, and no two in one bank. -/
def Sys2Proof.Claims.OneLinePerBank : Prop :=
  ∀ (used lines : List Nat), lines.Nodup →
    let left := (fetchLines used lines).1
    (∀ l, l ∈ left → l ∈ lines) ∧ (∀ l, l ∈ lines → l ∉ left → l % 32 ∉ used) ∧
    (∀ a b, a ∈ lines → b ∈ lines → a ∉ left → b ∉ left → a % 32 = b % 32 → a = b)

/-- R276 (11): the integer sum of a pass and the tile's element wrap to 32 bits, or with saturation take the nearest end and set OF. -/
def Sys2Proof.Claims.MacIntegers : Prop :=
  ∀ (c : BitVec 32) (sum : Int),
    let x := c.toInt + sum
    macInt false c.toNat sum = ((BitVec.ofInt 32 x).toNat, 0) ∧
    (-(2 ^ 31) ≤ x → x < 2 ^ 31 → macInt true c.toNat sum = ((BitVec.ofInt 32 x).toNat, 0)) ∧
    (2 ^ 31 ≤ x → macInt true c.toNat sum = (0x7fffffff, fOF)) ∧ (x < -(2 ^ 31) → macInt true c.toNat sum = (0x80000000, fOF))

/-- R265, R266 (11), R180 (07): a k-step of an MMAC of one I8 element over at most 32 values of k adds the products' sum to it; its only
pass ends, and the command completes 6 clk later. -/
def Sys2Proof.Claims.MmacStep : Prop :=
  ∀ (s : State) (cl r kAll : Nat) (p : Pass) (c : MatCmd) (sat : Bool) (va vb : Vec), (s.cl cl).awake = true →
    (s.cl cl).mat.running = some p → (s.cl cl).mat.head p.core = some c →
    c.kind = .mmac .i8 sat (some va) (some vb) none none 1 1 kAll → c.rows = [r] → c.pass = 1 → kAll ≤ 32 →
    p.num = 0 → p.kPos = 0 → p.steps = 1 → p.sums = [] →
    (∀ q, q < kAll → ((p.aBuf.getD 0 []).getD q 0 < 256 ∧ (p.bBuf.getD q []).getD 0 0 < 256)) →
    let a (q : Nat) : BitVec 8 := BitVec.ofNat 8 ((p.aBuf.getD 0 []).getD q 0)
    let b (q : Nat) : BitVec 8 := BitVec.ofNat 8 ((p.bBuf.getD q []).getD 0 0)
    let sum := ((List.range kAll).map (fun q => (a q).toInt * (b q).toInt)).sum
    ∃ t, exec (.kStep cl) s = .next t ∧
      (t.cl cl).element [r] 1 1 0 0 = (macInt sat ((s.cl cl).element [r] 1 1 0 0) sum).1 ∧
      (∀ q, q ≠ r → mgetD (t.cl cl).acc q 0 = mgetD (s.cl cl).acc q 0) ∧
      (t.cl cl).mat.running = (s.cl cl).mat.overtaken.map (fun p => { p with taken := 0 }) ∧
      (∃ d, d ∈ mgetD (t.cl cl).mat.queues p.core [] ∧ d.id = c.id ∧ d.doneAt = some (s.clk + 6)) ∧
      t.mem = s.mem ∧ t.cores = s.cores

/-- R181 (07), R266 (11): the step of an MSTOR of one F32 element writes its four bytes at the operand's base, and no other byte. -/
def Sys2Proof.Claims.MstorStep : Prop :=
  ∀ (s : State) (cl : Nat) (p : Pass) (c : MatCmd) (g : Geo) (free : Bool), (s.cl cl).awake = true →
    (s.cl cl).mat.running = some p → (s.cl cl).mat.head p.core = some c → c.kind = .mstor .f32 g free →
    g.rows = 1 → g.cols = 1 → 1 ≤ c.tm → 1 ≤ c.tn → c.pass = 1 → p.num = 0 → p.kPos = 0 → p.steps = 1 → s.memOk →
    let x := (storeElem c.tkind .f32 g.scale g.rm ((s.cl cl).element c.rows c.tm c.tn 0 0)).1
    let key := sliceKey cl g.base
    ∃ t, exec (.kStep cl) s = .next t ∧ memRead t.mem key 4 = leBytes 4 x ∧
      (∀ a, (a < key ∨ key + 4 ≤ a) → memGet t.mem a = memGet s.mem a) ∧ t.cores = s.cores ∧ (t.cl cl).acc = (s.cl cl).acc

/-- R183 (07), R266 (11): the step of an MLOAD of one element puts the word at the operand's base into the tile. -/
def Sys2Proof.Claims.MloadStep : Prop :=
  ∀ (s : State) (cl r : Nat) (p : Pass) (c : MatCmd) (g : Geo) (old : Option Nat), (s.cl cl).awake = true →
    (s.cl cl).mat.running = some p → (s.cl cl).mat.head p.core = some c → c.kind = .mload g old → c.rows = [r] → c.tm = 1 →
    c.tn = 1 → g.rows = 1 → g.cols = 1 → c.pass = 1 → p.num = 0 → p.kPos = 0 → p.steps = 1 →
    (s.core (cl * 8 + p.core)).mem = [] → s.isPoisoned (sliceKey cl g.base) 4 = false →
    ∃ t, exec (.kStep cl) s = .next t ∧ (t.cl cl).element [r] 1 1 0 0 = ofBytes (memRead s.mem (sliceKey cl g.base) 4) ∧
      (∀ q, q ≠ r → mgetD (t.cl cl).acc q 0 = mgetD (s.cl cl).acc q 0) ∧ t.mem = s.mem ∧ t.cores = s.cores

/-- R183 (07), R266 (11): the step of an MSPAN of one 32-byte column copies it to the same offset of the target's slice, and writes no
other byte. -/
def Sys2Proof.Claims.MspanStep : Prop :=
  ∀ (s : State) (cl off target tc : Nat) (p : Pass) (c : MatCmd) (g : Geo), (s.cl cl).awake = true →
    (s.cl cl).mat.running = some p → (s.cl cl).mat.head p.core = some c → c.kind = .mspan g off [target] →
    (s.cl cl).offsetCluster target = some tc → g.rows = 1 → g.cols = 1 → c.pass = 1 → p.num = 0 → p.kPos = 0 → p.steps = 1 →
    (∀ i, i < 32 → s.isPoisoned (sliceKey cl (g.base + i)) 1 = false) → (s.core (cl * 8 + p.core)).mem = [] → c.stage = [] →
    s.memOk →
    ∃ t, exec (.kStep cl) s = .next t ∧ memRead t.mem (sliceKey tc off) 32 = memRead s.mem (sliceKey cl g.base) 32 ∧
      (∀ a, (a < sliceKey tc off ∨ sliceKey tc off + 32 ≤ a) → memGet t.mem a = memGet s.mem a) ∧ t.cores = s.cores

/-- R175, R184 (07), R275 (11): the oldest command of a core whose clk has come completes: its token loses 1 and its footprint entry
frees; an MSTOR that frees its tile gives up the tile and its rows. -/
def Sys2Proof.Claims.MatrixCompletes : Prop :=
  ∀ (s : State) (cl core at' : Nat) (c : MatCmd) (rest : List MatCmd), (s.cl cl).awake = true →
    mgetD (s.cl cl).mat.queues (core % 8) [] = c :: rest → c.doneAt = some at' → at' ≤ s.clk → c.token < 8 →
    let k := s.core (cl * 8 + core % 8)
    ∃ t, exec (.matrixCommandComplete cl core) s = .next t ∧
      (t.core (cl * 8 + core % 8)).getK c.token = k.getK c.token - 1 ∧
      (t.core (cl * 8 + core % 8)).foot = k.foot.filter (fun f => decide (f.id ≠ c.id)) ∧
      mgetD (t.cl cl).mat.queues (core % 8) [] = rest.filter (fun d => decide (d.id ≠ c.id)) ∧ t.mem = s.mem ∧
      (∀ f g tl, c.kind = .mstor f g true → mget (s.cl cl).tiles c.tile = some tl →
        mget (t.cl cl).tiles c.tile = none ∧ ∀ r, r ∈ tl.rows → mget (t.cl cl).freed r = some s.clk) ∧
      (∀ f sat a b ga gb m n q, c.kind = .mmac f sat a b ga gb m n q → (t.cl cl).tiles = (s.cl cl).tiles)

/-- R175-R184 (07), R265-R277 (11): the matrix unit. -/
def Obligations.MatrixUnitWorks : Prop :=
  Claims.PassGranted ∧ Claims.PassOvertaken ∧ Claims.HeadSettles ∧ Claims.FetchFills ∧ Claims.OperandRows ∧ Claims.OneLinePerBank ∧ Claims.MacIntegers ∧
    Claims.MmacStep ∧ Claims.MstorStep ∧ Claims.MloadStep ∧ Claims.MspanStep ∧ Claims.MatrixCompletes

/-! ### The receive engines -/

/-- R335 (15), R332: when a message matches a post's descriptor. -/
def Obligations.MessageMatching : Prop :=
  ∀ (s : State) (part : Nat) (w0 w1 : Word) (rest : List Word) (h : MsgHeader), h.src < 2 ^ 20 → h.tag < 2 ^ 32 →
    (s.fits part (w0 :: w1 :: rest) h = true ↔
      (h.comm = (w0 >>> 48).toNat ∧
       (((w0 >>> 28) &&& 0xfffff) ^^^ BitVec.ofNat 64 h.src) &&& ((w0 >>> 8) &&& 0xfffff) = 0 ∧
       ((w1 >>> 32) ^^^ BitVec.ofNat 64 h.tag) &&& (w1 &&& 0xffffffff) = 0 ∧
       ∃ m, mget s.comms h.comm = some m ∧ m.holder h.dst = some part))

/-- R192 (07), R336, R346 (15): a post that an engine takes is answered with its handle and takes the next slot in rotation that is
not busy, its decision due 4 clk later; one that fails a check takes no slot and is answered with its status. -/
def Sys2Proof.Claims.PostTaken : Prop :=
  ∀ (s : State) (e i : Nat) (r : EngReq) (ws : List Word), (s.engine e).taken s.clk i = some r → r.cmd = .post ws → e < 4 →
    let g := s.engine e
    let st := s.postStatus e r ws
    let answered (t : State) (v : Word) : Prop := (t.engine e).inbox = dropAt g.inbox i ∧
      (t.engine e).answers = g.answers ++ [(r.core, r.id, v, s.clk + 4 + engineTime r.core e)] ∧ t.mem = s.mem ∧ t.cores = s.cores
    (st ≠ 0 → st < 8 → ∃ t v, exec (.postAtEngine e i) s = .next t ∧ answered t v ∧ (t.engine e).slots = g.slots ∧
      (t.engine e).posted = g.posted ∧ v.getLsbD 31 = false ∧ (v >>> 28) &&& 7 = BitVec.ofNat 64 st ∧
      (v >>> 16) &&& 3 = BitVec.ofNat 64 e) ∧
    (∀ n, st = 0 → g.pick = some n →
      let gen := if (g.slot n).uses = 0 then (g.slot n).gen else ((g.slot n).gen + 1) % 256
      let v := BitVec.ofNat 64 (2 ^ 31 + gen * 2 ^ 20 + e * 2 ^ 16 + n)
      ∃ t, exec (.postAtEngine e i) s = .next t ∧ answered t v ∧
        ((t.engine e).slot n).state = .posted ∧ ((t.engine e).slot n).words = ws ∧ ((t.engine e).slot n).gen = gen ∧
        ((t.engine e).slot n).part = r.part ∧ ((t.engine e).slot n).core = r.core ∧ ((t.engine e).slot n).msg = none ∧
        (∀ m, m ≠ n → (t.engine e).slot m = g.slot m) ∧ (t.engine e).nextSlot = (n + 1) % 16384 ∧
        (t.engine e).deciding = g.deciding ++ [(s.clk + 4, .post n)] ∧ (t.engine e).posted = g.posted ∧
        (t.engine e).unexpected = g.unexpected)

/-- R336, R346 (15): a post's decision: it takes the first unexpected message that matches, in arrival order, out of the unexpected
queue; else it joins the end of the list. -/
def Sys2Proof.Claims.PostDecided : Prop :=
  ∀ (s : State) (e n due : Nat) (rest : List (Nat × Admission)), (s.engine e).deciding = (due, .post n) :: rest → due ≤ s.clk →
    let g := s.engine e
    let p := g.slot n
    (g.unexpected.find? (s.fits p.part p.words) = none → ∃ t, exec (.matchDecision e 0) s = .next t ∧
      (t.engine e).deciding = rest ∧ (t.engine e).posted = g.posted ++ [n] ∧ (t.engine e).slots = g.slots ∧
      (t.engine e).unexpected = g.unexpected ∧ t.mem = s.mem) ∧
    (∀ h, g.unexpected.find? (s.fits p.part p.words) = some h → ∃ t, exec (.matchDecision e 0) s = .next t ∧
      (t.engine e).deciding = rest ∧ ((t.engine e).slot n).state = .matched ∧ ((t.engine e).slot n).msg = some h ∧
      ((t.engine e).slot n).words = p.words ∧ ((t.engine e).slot n).ready = s.clk + 1 ∧
      (t.engine e).posted = g.posted.filter (fun x => decide (x ≠ n)) ∧
      (t.engine e).unexpected = g.unexpected.erase h ∧ t.mem = s.mem)

/-- R345 (15): a cancel answers 0 and removes a posted post, 1 once it is matched, 2 for a handle without V, of another partition or of
another generation; a probe answers the first matching unexpected message and removes nothing. -/
def Sys2Proof.Claims.CancelsAndProbes : Prop :=
  ∀ (s : State) (e i : Nat) (r : EngReq), (s.engine e).taken s.clk i = some r →
    let g := s.engine e
    let answered (t : State) (v : Word) : Prop := (t.engine e).inbox = dropAt g.inbox i ∧
      (t.engine e).answers = g.answers ++ [(r.core, r.id, v, s.clk + 1 + engineTime r.core e)] ∧ t.cores = s.cores
    (∀ h : Word, r.cmd = .cancel h →
      let n := h.toNat % 16384
      let p := g.slot n
      let stale := h.getLsbD 31 = false ∨ p.uses = 0 ∨ p.part ≠ r.part ∨ p.gen ≠ ((h >>> 20) &&& 255).toNat
      (stale → ∃ t, exec (.cancelAtEngine e i) s = .next t ∧ answered t 2 ∧ (t.engine e).slots = g.slots) ∧
      (¬stale → p.state = .posted → ∃ t, exec (.cancelAtEngine e i) s = .next t ∧ answered t 0 ∧
        ((t.engine e).slot n).state = .free ∧ (t.engine e).posted = g.posted.filter (fun x => decide (x ≠ n))) ∧
      (¬stale → (p.state = .matched ∨ p.state = .completing ∨ p.state = .pushed) →
        ∃ t, exec (.cancelAtEngine e i) s = .next t ∧ answered t 1 ∧ (t.engine e).slots = g.slots)) ∧
    (∀ ws, r.cmd = .probe ws →
      (g.unexpected.find? (s.fits r.part ws) = none → ∃ t, exec (.probeAtEngine e i) s = .next t ∧ answered t 0 ∧
        (t.engine e).unexpected = g.unexpected) ∧
      (∀ h, g.unexpected.find? (s.fits r.part ws) = some h → ∃ t, exec (.probeAtEngine e i) s = .next t ∧
        answered t (BitVec.ofNat 64 (2 ^ 63 + h.src * 2 ^ 32 + h.len)) ∧ (t.engine e).unexpected = g.unexpected))

/-- R333 (15), R191 (07): a tensor record that passes takes a table entry, the one its number had or the lowest free one, and is
answered 0; an invalid one is answered 2, one whose number an active post names 3, one that finds no entry free 1, and nothing
changes. -/
def Sys2Proof.Claims.TensorMapped : Prop :=
  ∀ (s : State) (e i n : Nat) (r : EngReq) (ws : List Word) (p : Program), (s.engine e).taken s.clk i = some r →
    r.cmd = .xten n ws → mget s.progs r.region = some p →
    let ok := tensorInvalid (s.cl r.region) ws = false
    let said (t : State) (v : Word) : Prop :=
      (t.engine e).answers = (s.engine e).answers ++ [(r.core, r.id, v, s.clk + 1 + engineTime r.core e)]
    (¬ok → ∃ t, exec (.tensorMapAtEngine e i) s = .next t ∧ said t 2 ∧ t.tensors = s.tensors ∧ t.progs = s.progs) ∧
    (ok → s.tensorBusy r.region n = true → ∃ t, exec (.tensorMapAtEngine e i) s = .next t ∧ said t 3 ∧
      t.tensors = s.tensors ∧ t.progs = s.progs) ∧
    (ok → s.tensorBusy r.region n = false → mget p.tens n = none →
      firstFree (fun i => (mget s.tensors i).isSome) 16384 0 = none →
      ∃ t, exec (.tensorMapAtEngine e i) s = .next t ∧ said t 1 ∧ t.tensors = s.tensors ∧ t.progs = s.progs) ∧
    (∀ j, ok → s.tensorBusy r.region n = false →
      (mget p.tens n = some j ∨ (mget p.tens n = none ∧ firstFree (fun i => (mget s.tensors i).isSome) 16384 0 = some j)) →
      ∃ t, exec (.tensorMapAtEngine e i) s = .next t ∧ said t 0 ∧ mget t.tensors j = some ⟨r.part, r.region, ws⟩ ∧
        t.tensorOf r.region n = some ws)

/-- R191 (07): an engine's answer whose clk has come is the value of the destination that waits for it. -/
def Sys2Proof.Claims.EngineAnswered : Prop :=
  ∀ (s : State) (core id e d at' : Nat) (g : Engine) (v : Word),
    s.engines.find? (fun p => p.2.answers.any (fun a => decide (a.1 = core) && decide (a.2.1 = id))) = some (e, g) →
    g.answers.find? (fun a => decide (a.1 = core) && decide (a.2.1 = id)) = some (core, id, v, at') → at' ≤ s.clk →
    (s.core core).destsFor id = [.x d] → 1 ≤ d → d < 24 →
    ∃ t, exec (.engineAnswer core id) s = .next t ∧ (t.core core).getX d = v ∧
      (t.core core).waits = (s.core core).waits.filter (fun w => decide (w.id ≠ id)) ∧
      (∀ q, 1 ≤ q → q ≠ d → (t.core core).getX q = (s.core core).getX q) ∧ t.mem = s.mem ∧ (t.core core).k = (s.core core).k

/-- R333-R346 (15), R191, R192 (07): commands at a receive engine. -/
def Sys2Proof.Claims.AllEngineCommands : Prop :=
  Claims.PostTaken ∧ Claims.PostDecided ∧ Claims.CancelsAndProbes ∧ Claims.TensorMapped ∧ Claims.EngineAnswered

/-- R338, R339, R346 (15): a header with the expected number is admitted, its decision due 4 clk later; one that is early is held, or
refused while 64 are held. -/
def Sys2Proof.Claims.HeaderArrives : Prop :=
  ∀ (s : State) (e at' : Nat) (h : MsgHeader) (rest : List (Nat × MsgHeader)), (s.engine e).wire = (at', h) :: rest →
    (s.engine e).firstHeader s.clk = some 0 → h.sender ≠ s.chip.toNat →
    let g := s.engine e
    (h.number = g.admits (h.comm, h.src, h.dst) → g.held = [] → ∃ t, exec (.messageHeaderArrival e 0) s = .next t ∧
      (t.engine e).wire = rest ∧ (t.engine e).deciding = g.deciding ++ [(s.clk + 4, .header h)] ∧ (t.engine e).slots = g.slots ∧
      t.mem = s.mem) ∧
    (h.number ≠ g.admits (h.comm, h.src, h.dst) → g.held.length < 64 → ∃ t, exec (.messageHeaderArrival e 0) s = .next t ∧
      (t.engine e).wire = rest ∧ (t.engine e).held = g.held ++ [h] ∧ (t.engine e).deciding = g.deciding ∧ t.mem = s.mem) ∧
    (h.number ≠ g.admits (h.comm, h.src, h.dst) → 64 ≤ g.held.length → ∃ t, exec (.messageHeaderArrival e 0) s = .next t ∧
      (t.engine e).wire = rest ∧ (t.engine e).held = g.held ∧ (t.engine e).deciding = g.deciding ∧ t.mem = s.mem)

/-- R340 (15), R193 (07): an eager message of the own chip takes its payload with it, and its send completes. -/
def Sys2Proof.Claims.EagerLeaves : Prop :=
  ∀ (s u : State) (e at' : Nat) (h : MsgHeader) (rest : List (Nat × MsgHeader)) (x : Sending) (bs : List Byte),
    (s.engine e).wire = (at', h) :: rest → (s.engine e).firstHeader s.clk = some 0 → h.sender = s.chip.toNat → h.len ≤ 4096 →
    s.sendOf h.cmd = some x →
    (s.modEngine e (fun g => { g with wire := rest })).payload x 0 h.len = (.ok bs, u) → x.token < 8 →
    h.number = (s.engine e).admits (h.comm, h.src, h.dst) → (s.engine e).held = [] →
    ∃ t, exec (.messageHeaderArrival e 0) s = .next t ∧
      (t.engine e).deciding = (s.engine e).deciding ++ [(s.clk + 4, .header { h with payload := bs })] ∧
      t.sendOf h.cmd = none ∧ (t.core x.core).getK x.token = (s.core x.core).getK x.token - 1 ∧ t.mem = u.mem

/-- R337-R341 (15): the decision of an admitted header: the first post of the list that matches takes it; else it joins the unexpected
queue while its partition's shares have room; else it goes back to its sending engine and waits its back-off. -/
def Sys2Proof.Claims.HeaderDecided : Prop :=
  ∀ (s : State) (e due : Nat) (h : MsgHeader) (rest : List (Nat × Admission)), (s.engine e).deciding = (due, .header h) :: rest →
    due ≤ s.clk → h.number = (s.engine e).expects (h.comm, h.src, h.dst) → (s.engine e).held = [] →
    let g := s.engine e
    let found := g.posted.find? (fun n => s.fits (g.slot n).part (g.slot n).words h)
    (∀ n, found = some n → ∃ t, exec (.matchDecision e 0) s = .next t ∧ ((t.engine e).slot n).state = .matched ∧
      ((t.engine e).slot n).msg = some h ∧ ((t.engine e).slot n).ready = s.clk + 1 ∧
      (t.engine e).posted = g.posted.filter (fun x => decide (x ≠ n)) ∧ (t.engine e).expects (h.comm, h.src, h.dst) = h.number + 1 ∧
      (t.engine e).deciding = rest ∧ t.mem = s.mem) ∧
    (found = none → s.unexpectedRoom e h = true → ∃ t, exec (.matchDecision e 0) s = .next t ∧
      (t.engine e).unexpected = g.unexpected ++ [h] ∧ (t.engine e).expects (h.comm, h.src, h.dst) = h.number + 1 ∧
      (t.engine e).slots = g.slots ∧ (t.engine e).deciding = rest ∧ t.mem = s.mem) ∧
    (found = none → s.unexpectedRoom e h = false → h.sender = s.chip.toNat → ∃ t, exec (.matchDecision e 0) s = .next t ∧
      (t.engine e).refused = g.refused ++ [({ h with refusals := h.refusals + 1 }, backoff h.refusals, s.clk + backoff h.refusals)] ∧
      (t.engine e).unexpected = g.unexpected ∧ (t.engine e).expects (h.comm, h.src, h.dst) = h.number ∧ t.mem = s.mem) ∧
    (found = none → s.unexpectedRoom e h = false → h.sender ≠ s.chip.toNat → ∃ u : State, exec (.matchDecision e 0) s =
      .next (u.sendFlit ⟨h.sender, s.chip.toNat, s.inc.toNat, s.partFor h, 0, 0, 0, .refusal e { h with payload := [] }⟩) ∧
      (u.engine e).unexpected = g.unexpected ∧ (u.engine e).expects (h.comm, h.src, h.dst) = h.number ∧ u.mem = s.mem)

/-- R341 (15): the back-off of a message is 1,024 clk and doubles at each refusal up to 65,536. -/
def Sys2Proof.Claims.BackOff : Prop :=
  backoff 0 = 1024 ∧ ∀ n, backoff (n + 1) = min (2 * backoff n) 65536

/-- R341, R346 (15): a refused header whose back-off has ended is sent again, the lowest number of its triple first; to a rank of the
own chip it crosses only the mesh. -/
def Sys2Proof.Claims.RefusedRetries : Prop :=
  ∀ (s : State) (e i w at' : Nat) (h : MsgHeader), (s.engine e).refused[i]? = some (h, w, at') → at' ≤ s.clk →
    s.rankChip h.comm h.dst = some s.chip.toNat →
    (∀ r ∈ (s.engine e).refused, (r.1.comm, r.1.src, r.1.dst) = (h.comm, h.src, h.dst) → h.number ≤ r.1.number) →
    ∃ t, exec (.retryBackoffExpiry e i) s = .next t ∧ (t.engine e).refused = dropAt (s.engine e).refused i ∧
      (t.engine e).wire = (s.engine e).wire ++ [(s.clk + 2, h)] ∧ t.straits = s.straits ∧ t.mem = s.mem

/-- R337-R341, R346 (15), R193 (07): headers from their arrival to their decision, and their retries. -/
def Sys2Proof.Claims.AllMessageHeaders : Prop :=
  Claims.HeaderArrives ∧ Claims.EagerLeaves ∧ Claims.HeaderDecided ∧ Claims.BackOff ∧ Claims.RefusedRetries

/-- R191-R193 (07), R330-R343 (15): receive engines, their commands and headers. -/
def Obligations.EnginesAndHeaders : Prop := Claims.AllEngineCommands ∧ Claims.AllMessageHeaders

/-- R334 (15): the address of a tensor's byte position: dimension 0 first, each index times its stride (here an 8-bit format of two
dimensions). -/
def Sys2Proof.Claims.TensorPositions : Prop :=
  ∀ (ws : List Word) (q n0 n1 : Nat), tensorRank ws = 2 → tensorUnit ws = 1 → tensorNibble ws = false →
    tensorExtent ws 0 = n0 → tensorExtent ws 1 = n1 → 0 < n0 → q < n0 * n1 →
    tensorBytes ws = n0 * n1 ∧
    tensorAddr ws q = (tensorBase ws + (q % n0) * tensorStride ws 0 + (q / n0) * tensorStride ws 1) % 2 ^ 64

/-- R340, R342 (15): an eager message that lands ends its post's landing, its bytes cut to the post's maximum and its status 1 if they
were; a landing that fails ends with status 3 and nothing landed. -/
def Sys2Proof.Claims.EagerLands : Prop :=
  ∀ (s u : State) (e n : Nat) (h : MsgHeader), ((s.engine e).slot n).msg = some h → ((s.engine e).slot n).state = .matched →
    let p := (s.engine e).slot n
    h.len ≤ 4096 → h.payload.length = h.len → p.ready ≤ s.clk → (s.cl (clusterOf p.core)).frozen = false →
    let m := min h.len (postMax p.words)
    (s.land e n p (h.payload.take m) = (.ok (h.payload.take m), u) → u.engines = s.engines → ∃ t, exec (.eagerLanding e n) s = .next t ∧
      ((t.engine e).slot n).state = .completing ∧ ((t.engine e).slot n).landed = m ∧ t.mem = u.mem ∧
      ((t.engine e).slot n).status = (if postMax p.words < h.len then 1 else 0) ∧ ((t.engine e).slot n).ready = s.clk + (m + 63) / 64) ∧
    (∀ st va, s.land e n p (h.payload.take m) = (.bad st va, u) → u.engines = s.engines → ∃ t, exec (.eagerLanding e n) s = .next t ∧
      ((t.engine e).slot n).state = .completing ∧ ((t.engine e).slot n).status = 3 ∧
      ((t.engine e).slot n).landed = p.landed ∧ t.mem = u.mem)

/-- R340, R344 (15): a matched rendezvous message of the own chip is pulled in rounds of 4,096 bytes; the last round ends its send. -/
def Sys2Proof.Claims.RendezvousPulls : Prop :=
  ∀ (s u : State) (e n : Nat) (h : MsgHeader) (x : Sending) (bs : List Byte), ((s.engine e).slot n).msg = some h →
    let p := (s.engine e).slot n
    let m := min 4096 (min h.len (postMax p.words) - p.landed)
    p.state = .matched → 4096 < h.len → p.ready ≤ s.clk → p.asked = false → p.buf = [] → p.pulling = true →
    (s.cl (clusterOf p.core)).frozen = false → h.sender = s.chip.toNat → 0 < m → s.sendOf h.cmd = some x → x.token < 8 →
    s.payload x p.landed m = (.ok bs, u) → u.engines = s.engines → u.sends = s.sends → u.cores = s.cores →
    ∃ t, exec (.rendezvousPull e n) s = .next t ∧ ((t.engine e).slot n).buf = bs ∧ ((t.engine e).slot n).state = .matched ∧
      ((t.engine e).slot n).ready = s.clk + (m + 63) / 64 ∧ t.mem = u.mem ∧
      (p.landed + m = min h.len (postMax p.words) → t.sendOf h.cmd = none ∧
        (t.core x.core).getK x.token = (s.core x.core).getK x.token - 1) ∧
      (p.landed + m ≠ min h.len (postMax p.words) → t.sends = s.sends ∧ t.cores = s.cores)

/-- R343, R352 (15): the pull of a message whose sending chip has been reset since ends its landing with status 2. -/
def Sys2Proof.Claims.PullAfterReset : Prop :=
  ∀ (s : State) (e n k : Nat) (h : MsgHeader), ((s.engine e).slot n).msg = some h →
    let p := (s.engine e).slot n
    p.state = .matched → 4096 < h.len → p.ready ≤ s.clk → p.asked = false → p.buf = [] → p.pulling = true →
    (s.cl (clusterOf p.core)).frozen = false → h.sender ≠ s.chip.toNat → s.incarnationOf h.sender = some k → k ≠ h.inc →
    ∃ t, exec (.rendezvousPull e n) s = .next t ∧ ((t.engine e).slot n).state = .completing ∧ ((t.engine e).slot n).status = 2 ∧
      ((t.engine e).slot n).landed = p.landed ∧ t.mem = s.mem ∧ t.sends = s.sends

/-- R344 (15): a pulled round that lands adds to the bytes landed; the last one ends the landing; one that fails ends it with status
3.
That rounds are counted from the start of a landing is the own reading of the model (log 41). -/
def Sys2Proof.Claims.RoundLands : Prop :=
  ∀ (s u : State) (e n : Nat) (h : MsgHeader), ((s.engine e).slot n).msg = some h →
    let p := (s.engine e).slot n
    let m := min h.len (postMax p.words)
    p.state = .matched → p.buf ≠ [] → p.ready ≤ s.clk →
    (s.land e n p p.buf = (.ok p.buf, u) → u.engines = s.engines → ∃ t, exec (.landingRound e n) s = .next t ∧
      ((t.engine e).slot n).landed = p.landed + p.buf.length ∧ ((t.engine e).slot n).buf = [] ∧ t.mem = u.mem ∧
      (p.landed + p.buf.length = m → ((t.engine e).slot n).state = .completing ∧
        ((t.engine e).slot n).status = (if postMax p.words < h.len then 1 else 0)) ∧
      (p.landed + p.buf.length ≠ m → ((t.engine e).slot n).state = .matched)) ∧
    (∀ st va, s.land e n p p.buf = (.bad st va, u) → u.engines = s.engines → p.landed + p.buf.length = m →
      ∃ t, exec (.landingRound e n) s = .next t ∧ ((t.engine e).slot n).state = .completing ∧
        ((t.engine e).slot n).status = 3 ∧ ((t.engine e).slot n).landed = p.landed ∧ t.mem = u.mem)

/-- R343 (15): the oldest match whose landing has ended pushes its completion item, word by word, once its queue has room, and takes no
producer's credit; its slot is free once the item has left the mesh.
When the queue counts as full is the own choice of the model (log 41). -/
def Sys2Proof.Claims.CompletionPushed : Prop :=
  ∀ (s : State) (e n : Nat) (p : Post) (h : MsgHeader) (q : Queue), p.msg = some h → (s.engine e).slot n = p →
    ((s.engine e).oldest = some (n, p) → p.state = .completing → p.ready ≤ s.clk →
      mget s.queues (postQueue p.words) = some q →
      (q.fullFor = false → ∃ t k f, exec (.completionPush e) s = .next t ∧ mget t.queues (postQueue p.words) = some k ∧
        k.flight = q.flight ++ [f] ∧ k.credits = q.credits ∧ f.credit = false ∧
        f.elem.words = [p.words.getD 4 0, BitVec.ofNat 64 (h.tag * 2 ^ 32 + p.landed),
          BitVec.ofNat 64 (h.comm * 2 ^ 48 + h.src * 2 ^ 28 + h.dst * 2 ^ 8 + p.status),
          BitVec.ofNat 64 (h.len * 2 ^ 32) ||| BitVec.ofNat 64 (2 ^ 31 + p.gen * 2 ^ 20 + e * 2 ^ 16 + n)] ∧
        ((t.engine e).slot n).state = .pushed ∧ t.mem = s.mem) ∧
      (q.fullFor = true → exec (.completionPush e) s = .next s)) ∧
    (p.state = .pushed → mget s.queues (postQueue p.words) = none → ∃ t, exec (.postSlotFree e n) s = .next t ∧
      ((t.engine e).slot n).state = .free ∧ t.mem = s.mem) ∧
    (p.state = .pushed → mget s.queues (postQueue p.words) = some q → q.flight = [] → q.relays = [] →
      ∃ t, exec (.postSlotFree e n) s = .next t ∧ ((t.engine e).slot n).state = .free ∧ t.mem = s.mem)

/-- R334, R340-R344 (15): landings, pulls and completions. -/
def Obligations.Landings : Prop :=
  Claims.TensorPositions ∧ Claims.EagerLands ∧ Claims.RendezvousPulls ∧ Claims.PullAfterReset ∧ Claims.RoundLands ∧ Claims.CompletionPushed

/-! ### The mesh, the queues and the Strait -/

/-- R219, R419 (09): each hop of a route brings a flit one router nearer, until it is there (the order of the hops is the model's own
choice, log 20). -/
def Sys2Proof.Claims.RoutesShorten : Prop :=
  (∀ a, nextHop a a = none) ∧
  ∀ (a b : Nat), a < 1024 → b < 1024 → a ≠ b →
    ∃ d r, nextHop a b = some (d, r) ∧ d < 4 ∧ r < 1024 ∧
      (r / 32 - b / 32) + (b / 32 - r / 32) + (r % 32 - b % 32) + (b % 32 - r % 32) + 1 =
        (a / 32 - b / 32) + (b / 32 - a / 32) + (a % 32 - b % 32) + (b % 32 - a % 32)

/-- R223 (09): of the flits that may leave by a link, express goes first, but for a flit of another class after three express ones in a
row, the input ports in turn; then the one that has waited longest, if 256 clk or more; then the one of highest priority, and among
equal priorities the input ports in turn. The order of the ports in their turn is the own choice of the model (log 20). -/
def Sys2Proof.Claims.HopOrder : Prop :=
  ∀ (s : State) (router dir : Nat) (y : Nat × Nat × Queue × Flit), s.hopPick router dir = some y →
    y ∈ s.hopCandidates router dir ∧
    (3 ≤ s.expressRun router dir → (∃ x, x ∈ s.hopCandidates router dir ∧ x.2.2.1.cls ≠ 1) → y.2.2.1.cls ≠ 1) ∧
    (s.expressRun router dir < 3 → ∀ x, x ∈ s.hopCandidates router dir →
      (x.2.2.1.cls = 1 → y.2.2.1.cls = 1) ∧
      (x.2.2.1.cls ≠ 1 → y.2.2.1.cls ≠ 1 → x.2.2.2.since + 256 ≤ s.clk → y.2.2.2.since ≤ x.2.2.2.since) ∧
      (x.2.2.1.cls ≠ 1 → y.2.2.1.cls ≠ 1 → s.clk < y.2.2.2.since + 256 → x.2.2.1.prio ≤ y.2.2.1.prio) ∧
      (x.2.2.1.cls = 1 → portTurn (s.link router dir).express y.2.2.2.port ≤ portTurn (s.link router dir).express x.2.2.2.port) ∧
      (x.2.2.1.cls ≠ 1 → y.2.2.1.cls ≠ 1 → s.clk < x.2.2.2.since + 256 → s.clk < y.2.2.2.since + 256 → x.2.2.1.prio = y.2.2.1.prio →
        portTurn (s.link router dir).other y.2.2.2.port ≤ portTurn (s.link router dir).other x.2.2.2.port))

/-- R219, R223, R419 (09): the flit that a link serves moves on one router; across the die edge it is there 14 clk later. -/
def Sys2Proof.Claims.FlitHops : Prop :=
  ∀ (s : State) (router dir key i : Nat) (q : Queue) (f : Flit) (b dest d nr : Nat),
    s.hopPick router dir = some (key, i, q, f) → s.asleep q f = [] → f.branches = [b] → q.targets f = [(b, dest)] →
    nextHop f.place dest = some (d, nr) →
    ∃ t k g, exec (.flitHop router dir) s = .next t ∧ mget t.queues key = some k ∧
      k.flight = q.flight.take i ++ [g] ++ q.flight.drop (i + 1) ∧ g.place = nr ∧ g.port = sideOf d ∧ g.elem = f.elem ∧ g.branches = [b] ∧
      g.since = s.clk + (if nr / 512 = f.place / 512 then 0 else 14) ∧
      (mget t.linkUse (router * 4 + d)).map (fun u => u.clk) = some s.clk ∧ t.mem = s.mem ∧ t.cores = s.cores

/-- R218, R220 (09): while the buffer of the next router is full of the queue's flits, its flits do not leave. -/
def Sys2Proof.Claims.FlitWaits : Prop :=
  ∀ (s : State) (router dir i key d nr dest b : Nat) (q : Queue) (f : Flit), f.branches = [b] → q.targets f = [(b, dest)] →
    nextHop f.place dest = some (d, nr) → q.there f = false →
    s.routerRoom ≤ (q.flight.filter (fun g => decide (g.place = nr) && decide (g.port = sideOf d) &&
      !(q.there g && !q.inOrder g))).length →
    s.hopPick router dir ≠ some (key, i, q, f)

/-- A flit that has come to where it is bound, on this chip, and may be accepted there. -/
def Sys2Proof.Claims.arrived (s : State) (qu : Queue) (i : Nat) (f : Flit) : Prop :=
  qu.flight[i]? = some f ∧ (∀ t, t ∈ qu.targets f → t.2 = f.place) ∧ f.branches ≠ [] ∧ qu.mayMove s.clk i f = true ∧
    s.pushGate qu f = true ∧ (∀ c, c ∈ qu.ends f → s.takesFlits c = true) ∧ qu.farOf f = none

/-- R218, R220 (09), R206 (08), R364 (16): an item that has reached its consumers is stored in every branch that it has come to, or,
while one of them is full or has an earlier item of the queue's sequence still to take, in none; its credit is due when no
other copy is left. -/
def Sys2Proof.Claims.ItemAccepted : Prop :=
  ∀ (s : State) (q i : Nat) (qu : Queue) (f : Flit), mget s.queues q = some qu → Claims.arrived s qu i f →
    qu.relays[f.stage]? = none → qu.merge = false → (∀ b, b ∈ f.branches → ∃ br, qu.branches[b]? = some br) →
    ((∃ b, b ∈ f.branches ∧ qu.branchRoom b = false) → exec (.itemAccept q i) s = .next s) ∧
    (qu.inOrder f = false → exec (.itemAccept q i) s = .next s) ∧
    (qu.inOrder f = true → (∀ b, b ∈ f.branches → qu.branchRoom b = true) → ∃ t k, exec (.itemAccept q i) s = .next t ∧ mget t.queues q = some k ∧
      k.flight = dropAt qu.flight i ∧
      (∀ b br, qu.branches[b]? = some br → ∃ nb, k.branches[b]? = some nb ∧ nb.consumer = br.consumer ∧ nb.store =
        if b ∈ f.branches then br.store ++ [{ f.elem with released := decide (f.elem.stamp ≤ s.journal.acked) }] else br.store) ∧
      (f.credit = true → (∀ g, g ∈ dropAt qu.flight i ++ qu.beyond → g.seq ≠ f.seq) → k.returns = qu.returns ++ [f.elem.src]) ∧
      (f.credit = false → k.returns = qu.returns) ∧ t.mem = s.mem ∧ t.cores = s.cores)

/-- R221 (09): a relay with room stores an item that has reached it; R225, R226 (09): in a keyed merge an item joins the sub-queue of
its producer. -/
def Sys2Proof.Claims.RelayAndMergeAccept : Prop :=
  ∀ (s : State) (q i : Nat) (qu : Queue) (f : Flit), mget s.queues q = some qu → Claims.arrived s qu i f →
    let e := { f.elem with released := decide (f.elem.stamp ≤ s.journal.acked) }
    (∀ cl l, qu.relays[f.stage]? = some (cl, l) → l.length < 2 ^ qu.log2 → ∃ t k, exec (.itemAccept q i) s = .next t ∧
      mget t.queues q = some k ∧ k.relays[f.stage]? = some (cl, l ++ [e]) ∧ k.flight = dropAt qu.flight i ∧
      k.branches = qu.branches ∧ t.cores = s.cores) ∧
    (∀ cl l, qu.relays[f.stage]? = some (cl, l) → 2 ^ qu.log2 ≤ l.length → exec (.itemAccept q i) s = .next s) ∧
    (∀ n l, qu.relays[f.stage]? = none → qu.merge = true → qu.subOf f.elem.src = some n → qu.subs[n]? = some l →
      2 ^ qu.log2 ≤ l.length → exec (.itemAccept q i) s = .next s) ∧
    (∀ n l, qu.relays[f.stage]? = none → qu.merge = true →
      qu.subOf f.elem.src = some n → qu.subs[n]? = some l → l.length < 2 ^ qu.log2 → ∃ t k, exec (.itemAccept q i) s = .next t ∧
      mget t.queues q = some k ∧ k.subs[n]? = some (l ++ [e]) ∧ k.flight = dropAt qu.flight i ∧ t.cores = s.cores)

/-- R221 (09): a relay's first item goes on to the next stage once every branch of that stage has a slot for it besides those that
are on their way there, and waits till then. -/
def Sys2Proof.Claims.RelayForwards : Prop :=
  ∀ (s : State) (q r cl : Nat) (qu : Queue) (e : Elem) (rest : List Elem), mget s.queues q = some qu →
    qu.relays[r]? = some (cl, e :: rest) → qu.relays[r + 1]? = none → qu.merge = false → s.takesFlits cl = true →
    s.branchesFor qu e ≠ [] →
    let coming (b : Nat) : Nat := (qu.flight.filter (fun f => decide (f.stage = r + 1) && f.branches.contains b)).length
    ((∃ b, b ∈ s.branchesFor qu e ∧ 2 ^ qu.log2 ≤ qu.heldBy b + coming b) → exec (.relayForward q r) s = .next s) ∧
    ((∀ b, b ∈ s.branchesFor qu e → qu.heldBy b + coming b < 2 ^ qu.log2) → ∃ t k f, exec (.relayForward q r) s = .next t ∧ mget t.queues q = some k ∧ k.relays[r]? = some (cl, rest) ∧
      k.flight = qu.flight ++ [f] ∧ f.elem = e ∧ f.place = cl ∧ f.stage = r + 1 ∧ f.branches = s.branchesFor qu e ∧
      f.credit = false ∧ t.cores = s.cores)

/-- R218 (09): a credit that is due returns to its producer, which never holds more than the flow window; none goes to a binding
that has ended.
That it returns at once is the own choice of the model (log 20). -/
def Sys2Proof.Claims.CreditReturns : Prop :=
  ∀ (s : State) (q i c p : Nat) (qu : Queue), mget s.queues q = some qu → q < 65536 → qu.returns[i]? = some (.core c p) →
    (qu.credits.find? (fun x => decide (x.1 = .core c p)) = none → exec (.creditReturn q i) s =
      .next { s with queues := mset s.queues q { qu with returns := dropAt qu.returns i } }) ∧
    ∀ n, qu.credits.find? (fun x => decide (x.1 = .core c p)) = some (.core c p, n) → ∃ t k, exec (.creditReturn q i) s = .next t ∧ mget t.queues q = some k ∧ k.creditsOf (.core c p) = min (n + 1) qu.window ∧
      k.returns = dropAt qu.returns i ∧ (∀ x, x ≠ .core c p → k.creditsOf x = qu.creditsOf x) ∧ t.cores = s.cores

/-- R86 (03): a cluster learns whether its system-call queue is full. -/
def Sys2Proof.Claims.FullSignals : Prop :=
  ∀ (s : State) (q cl : Nat) (qu : Queue), mget s.queues q = some qu → (s.cl cl).sysq = some q →
    ∃ t, exec (.fullSignal q cl) s = .next t ∧ t.cores = s.cores ∧ t.mem = s.mem ∧
      ((t.cl cl).sysFull = true ↔ ∃ b, b ∈ qu.branches ∧ 2 ^ qu.log2 ≤ b.store.length)

/-- R218-R226, R419 (09), R86 (03): the mesh, storage, relays and credits. -/
def Sys2Proof.Claims.AllMeshAndStorage : Prop :=
  Claims.RoutesShorten ∧ Claims.HopOrder ∧ Claims.FlitHops ∧ Claims.FlitWaits ∧ Claims.ItemAccepted ∧ Claims.RelayAndMergeAccept ∧
    Claims.RelayForwards ∧ Claims.CreditReturns ∧ Claims.FullSignals

/-- The key of an item: its first word, unsigned (09 R225). -/
def Sys2Proof.Claims.keyOf (e : Elem) : Nat := (e.words.headD 0).toNat

/-- R225-R227 (09), R364 (16): what a keyed-merge queue delivers next. It is closed when an end-of-run item stands at the head of every
sub-queue, and reopening takes those away; it delivers nothing while a sub-queue is empty; otherwise it delivers the head of smallest key,
of equal keys that of the lowest-numbered producer, and a pop takes that item and no other. On a guarded queue an unreleased item is not
delivered. -/
def Obligations.KeyedMerge : Prop :=
  (∀ (q : Queue), q.merge = true → q.subs ≠ [] →
    (∀ l, l ∈ q.subs → ∀ e, e ∈ l → e.marker = false ∧ e.words ≠ [] ∧ (q.cls = 2 → e.released = true)) →
    let last := 2 ^ 64 - 1
    ((∀ l, l ∈ q.subs → ∃ e r, l = e :: r ∧ Claims.keyOf e = last) →
      q.headAt 0 = .closed ∧ q.reopen = { q with subs := q.subs.map List.tail }) ∧
    ([] ∈ q.subs → q.headAt 0 = .empty) ∧
    (∀ (n : Nat) (e : Elem) (r : List Elem), [] ∉ q.subs → q.subs[n]? = some (e :: r) → Claims.keyOf e ≠ last →
      (∀ (m : Nat) (f : Elem) (t : List Elem), q.subs[m]? = some (f :: t) → Claims.keyOf e < Claims.keyOf f ∨ (Claims.keyOf e = Claims.keyOf f ∧ n ≤ m)) →
      q.headAt 0 = .item e.words ∧ (q.popAt 0).subs[n]? = some r ∧ ∀ m, m ≠ n → (q.popAt 0).subs[m]? = q.subs[m]?)) ∧
  (∀ (q : Queue) (b : Nat) (br : Branch) (e : Elem) (r : List Elem), q.merge = false → q.branches[b]? = some br → br.store = e :: r →
    (q.cls = 2 → e.released = false → q.headAt b = .empty) ∧
    ((q.cls = 2 → e.released = true) → q.headAt b = if e.marker then .marker else .item e.words))

/-- R350 (15): which flit a port's next slot takes of those that can be formed: a guarded one that has waited seven slots, else an
express one, but for one slot in four while another waits; of a class, the one that has waited longest. -/
def Sys2Proof.Claims.SlotOrder : Prop :=
  ∀ (t : Strait) (ok : StraitFlit → Bool) (i : Nat) (f : StraitFlit), t.pick ok = some i → t.egress[i]? = some f →
    ok f = true ∧
    (7 ≤ t.gap → (∃ g, g ∈ t.egress ∧ ok g = true ∧ g.cls = 2) → f.cls = 2) ∧
    (t.gap < 7 → t.run < 3 → (∃ g, g ∈ t.egress ∧ ok g = true ∧ g.cls = 1) → f.cls = 1) ∧
    (3 ≤ t.run → (∃ g, g ∈ t.egress ∧ ok g = true ∧ g.cls ≠ 1) → f.cls ≠ 1) ∧
    (∀ j g, j < i → t.egress[j]? = some g → ok g = true → g.cls ≠ f.cls)

/-- R350 (15): the counts after a slot: express flits in a row while another flit waits, and slots that a guarded flit has waited. -/
def Sys2Proof.Claims.SlotCounts : Prop :=
  ∀ (t : Strait) (cls : Nat) (rest : List StraitFlit),
    (t.count cls rest).egress = rest ∧
    (t.count cls rest).run = (if cls = 1 ∧ ∃ g, g ∈ rest ∧ g.cls ≠ 1 then min (t.run + 1) 3 else 0) ∧
    (t.count cls rest).gap = (if cls ≠ 2 ∧ ∃ g, g ∈ rest ∧ g.cls = 2 then t.gap + 1 else 0)

/-- R348, R350 (15): a port that is up sends the flit whose slot it is; one that is not sends none. -/
def Sys2Proof.Claims.SlotSends : Prop :=
  ∀ (s : State) (p : Nat),
    ((s.strait p).state ≠ 3 → exec (.straitSlot p) s = .next s) ∧
    (∀ i f, (s.strait p).state = 3 → (s.strait p).pick (fun f => !s.waitsToForm f) = some i → (s.strait p).egress[i]? = some f →
      (∀ g, g ∈ (s.strait p).egress → s.waitsToForm g = false) →
      ((∃ r, f.body = .request r) ∨ (∃ r, f.body = .reply r) ∨ (∃ q w m, f.body = .item q w m) ∨ ∃ q, f.body = .credit q) →
      ∃ t, exec (.straitSlot p) s = .next t ∧ t.outbox = s.outbox ++ [.flit p f] ∧
        t.strait p = (s.strait p).count f.cls (dropAt (s.strait p).egress i) ∧ t.mem = s.mem ∧ t.cores = s.cores)

/-- R352, R353 (15), R228, R229 (09), R143 (05): a flit of another incarnation than the one known of its source is dropped and
counted; a request waits to be performed; an item enters the mesh for its queue, or is dropped and counted where the queue does
not exist; a flit for another chip goes on. -/
def Sys2Proof.Claims.FlitsEnter : Prop :=
  ∀ (s : State) (p : Nat) (f : StraitFlit), (s.strait p).state = 3 →
    let live := ∀ n, s.incarnationOf f.srcChip = some n → n = f.inc
    let here := live ∧ f.dstChip = s.chip.toNat
    (¬live → ∃ t, exec (.flitIngress p f) s = .next t ∧
      (t.strait p).stale = (s.strait p).stale + 1 ∧ t.queues = s.queues ∧ t.remIn = s.remIn ∧ t.remOut = s.remOut ∧
      t.engines = s.engines ∧ t.mem = s.mem ∧ t.cores = s.cores) ∧
    (live → f.dstChip ≠ s.chip.toNat → exec (.flitIngress p f) s = .next (s.sendFlit f)) ∧
    (∀ r, here → f.body = .request r → exec (.flitIngress p f) s = .next
      { s with remIn := s.remIn ++ [{ r with srcChip := f.srcChip, srcPart := f.part, srcInc := f.inc, gen := f.gen }] }) ∧
    (∀ r, here → f.body = .reply r → exec (.flitIngress p f) s = .next { s with remOut := s.remOut ++ [{ r with gen := f.gen }] }) ∧
    (∀ q words qu, here → f.body = .item q words false → mget s.queues q = some qu →
      ∃ t k g, exec (.flitIngress p f) s = .next t ∧ mget t.queues q = some k ∧ k.flight = qu.flight ++ [g] ∧
        g.elem.words = words ∧ g.elem.src = .far f.srcChip p ∧ g.elem.marker = false ∧ t.cores = s.cores) ∧
    (∀ q words m, here → f.body = .item q words m → mget s.queues q = none → ∃ t, exec (.flitIngress p f) s = .next t ∧
      (t.strait p).lost = (s.strait p).lost + 1 ∧ t.queues = s.queues ∧ t.mem = s.mem ∧ t.cores = s.cores)

/-- Nothing waits for a port of the chip, but perhaps at port `p`; the ports stand in order. -/
def Sys2Proof.Claims.nothingWaits (s : State) (p : Nat) : Prop :=
  s.unrouted = [] ∧ (mkeys s.straits).Pairwise (· < ·) ∧ ∀ t, t ∈ s.straits → t.2.state ≠ 3 → t.1 ≠ p → t.2.egress = []

/-- R351, R352 (15): a port that joins records its peer, the peer's incarnation and its fibre pairs, and is up; a join of a peer not
known before, other than the journal's partner, changes nothing else, if no flit waits for a port. -/
def Sys2Proof.Claims.PortJoins : Prop :=
  ∀ (s : State) (p peer inc pairs : Nat), (∀ t ∈ s.straits, t.2.joined = true → t.2.peer ≠ peer) → Claims.nothingWaits s p →
    (peer ≠ s.journal.partner ∨ s.journal.state = 0) →
    ∃ t, exec (.portJoin p peer inc pairs) s = .next t ∧ (t.strait p).peer = peer ∧ (t.strait p).pinc = inc ∧
      (t.strait p).state = 3 ∧ (t.strait p).pairs = pairs ∧ (t.strait p).egress = (s.strait p).egress ∧
      (∀ o, o ≠ p → t.strait o = s.strait o) ∧ t.cores = s.cores ∧ t.queues = s.queues ∧ t.journal = s.journal

/-- R348, R351 (15): a port that goes down shows its state, no longer up; with nothing outstanding and no flit that waits, nothing
else changes. -/
def Sys2Proof.Claims.PortGoesDown : Prop :=
  ∀ (s : State) (p st pairs : Nat), (s.strait p).egress = [] → Claims.nothingWaits s p → s.sends = [] →
    (∀ c ∈ s.cores, c.2.copies = []) →
    ∃ t, exec (.portDown p st pairs) s = .next t ∧ (t.strait p).state = min st 2 ∧ (t.strait p).pairs = pairs ∧
      (∀ o, o ≠ p → t.strait o = s.strait o) ∧ t.cores = s.cores ∧ t.mem = s.mem

/-- R348-R353 (15): the Strait ports. -/
def Sys2Proof.Claims.AllStraitPorts : Prop :=
  Claims.SlotOrder ∧ Claims.SlotCounts ∧ Claims.SlotSends ∧ Claims.FlitsEnter ∧ Claims.PortJoins ∧ Claims.PortGoesDown

/-- R217-R228 (09), R348-R351 (15): queues over the mesh and the Strait. -/
def Obligations.MeshAndStrait : Prop := Claims.AllMeshAndStorage ∧ Claims.AllStraitPorts

/-! ### The journal unit -/

/-- R357, R358, R360 (16): a record that reaches the unit, with no open replay of its sequence, takes the next jsn, joins the append
buffer, goes to its slot of the own copy if that is free and no earlier record waits for one, else behind the records that wait, and is
answered with its jsn no earlier than 6 clk after it left; with 4,096 records in the append buffer it waits. -/
def Sys2Proof.Claims.RecordAppended : Prop :=
  ∀ (s : State) (core id : Nat) (r : RecReq) (rest : List RecReq), (s.core core).recs = r :: rest → r.id = id → r.trunc = none →
    r.at_ + 1 ≤ s.clk →
    let j := s.journal.last + 1
    let w := r.words ++ [BitVec.ofNat 64 (s.partOf core)]
    let free := s.journal.unwritten = [] ∧ (s.ring 0).freeSlot (j % 2 ^ 25) = true
    (4096 ≤ s.journal.buffer.length → exec (.recordArrival core id) s = .next s) ∧
    (s.journal.buffer.length < 4096 → s.replayOf (s.partOf core) (recSeq w) = none →
      ∃ t, exec (.recordArrival core id) s = .next t ∧ t.journal.last = j ∧ t.journal.buffer = s.journal.buffer ++ [(j, w)] ∧
        (free → t.journal.unwritten = [] ∧ mget (t.ring 0).slots (j % 2 ^ 25) = some w) ∧
        (¬free → t.journal.unwritten = s.journal.unwritten ++ [(j, w)] ∧ t.rings = s.rings) ∧ (t.core core).recs = rest ∧
        (t.core core).recAns = (s.core core).recAns ++ [(id, j, max (r.at_ + 6) (s.clk + 1), none)] ∧ t.mem = s.mem)

/-- R371, R372 (16): a record of a sequence under replay that equals the next replayed one is appended and the replay goes on; one that
differs takes no jsn, closes the replay, and its answer is the divergence. -/
def Sys2Proof.Claims.RecordReplayed : Prop :=
  ∀ (s : State) (core id n : Nat) (r : RecReq) (rest : List RecReq) (e : Replay), (s.core core).recs = r :: rest → r.id = id →
    r.trunc = none → r.at_ + 1 ≤ s.clk → s.journal.buffer.length < 4096 →
    s.replayOf (s.partOf core) (recSeq (r.words ++ [BitVec.ofNat 64 (s.partOf core)])) = some (n, e) →
    let same := (mgetD (s.ring 15).slots e.slot []).take 4 = r.words
    (same → ∃ t, exec (.recordArrival core id) s = .next t ∧ t.journal.last = s.journal.last + 1 ∧
      mget t.replays n = some { e with slot := (e.slot + 1) % 2 ^ 25, count := e.count - 1, valid := decide (1 < e.count) } ∧
      (t.core core).recAns = (s.core core).recAns ++ [(id, s.journal.last + 1, max (r.at_ + 10) (s.clk + 1), none)]) ∧
    (¬same → ∃ t, exec (.recordArrival core id) s = .next t ∧ t.journal = s.journal ∧
      mget t.replays n = some { e with valid := false } ∧
      (t.core core).recAns = (s.core core).recAns ++ [(id, 0, max (r.at_ + 10) (s.clk + 1), some r.addr)])

/-- R358, R371, R372 (16): a record's answer gives its register the jsn, or 0 where the record diverged; a divergence stays with the
core until it is raised. -/
def Sys2Proof.Claims.RecordAnswered : Prop :=
  ∀ (s : State) (core id j at' : Nat) (div : Option Word),
    (s.core core).recAns.find? (fun a => decide (a.1 = id)) = some (id, j, at', div) → at' ≤ s.clk →
    (∀ d, div = none → (s.core core).destsFor id = [.x d] → 1 ≤ d → d < 24 → ∃ t, exec (.jrecAnswer core id) s = .next t ∧
      (t.core core).getX d = BitVec.ofNat 64 j ∧ (t.core core).recAns = (s.core core).recAns.filter (fun a => decide (a.1 ≠ id)) ∧
      (t.core core).waits = (s.core core).waits.filter (fun w => decide (w.id ≠ id)) ∧
      (∀ q, 1 ≤ q → q ≠ d → (t.core core).getX q = (s.core core).getX q)) ∧
    (∀ a d st, div = some a → (s.core core).diverged = none →
      (s.core core).waits.find? (fun w => decide (w.id = id)) = some ⟨id, .x d, st⟩ → 1 ≤ d → d < 24 →
      ∃ t, exec (.jrecAnswer core id) s = .next t ∧ (t.core core).diverged = some a ∧ (t.core core).getX d = 0 ∧
        (∀ q, 1 ≤ q → q ≠ d → (t.core core).getX q = (s.core core).getX q) ∧
        (∀ w, w ∈ (t.core core).waits → w.id = id → w.err = .diverged a))

/-- R357-R359, R370-R372 (16): records from their arrival to their answer. -/
def Sys2Proof.Claims.AllJournalRecords : Prop := Claims.RecordAppended ∧ Claims.RecordReplayed ∧ Claims.RecordAnswered

/-- R362, R363 (16): a paired unit sends its next records in jsn order, two of one partition to a flit; the partner stores it in its slot, or waits while the slot is
occupied, and acknowledges the last one stored. -/
def Sys2Proof.Claims.RecordsShipped : Prop :=
  (∀ (s : State) (j : Nat) (w : List Word), s.journal.state = 1 → s.journal.truncs = [] →
    s.journal.buffer.find? (fun p => decide (s.journal.sent < p.1)) = some (j, w) →
    let next := s.journal.buffer.find? (fun p => decide (p.1 = j + 1) && decide (recPart p.2 = recPart w))
    ∀ (n : Nat) (ws : List Word), ((next = none ∧ n = j ∧ ws = w) ∨ (∃ w2, next = some (j + 1, w2) ∧ w2 ≠ [] ∧ n = j + 1 ∧ ws = w ++ w2)) →
    ∃ t, exec .recordSend s = .next t ∧ t.journal.sent = n ∧ t.journal.buffer = s.journal.buffer ∧ t.rings = s.rings ∧
      t.straits = (s.sendFlit (s.flitTo s.journal.partner (recPart w) 2 0 (.journalRecord j ws))).straits ∧ t.cores = s.cores) ∧
  (∀ (s : State) (n j : Nat) (w : List Word) (rest : List (Nat × List Word)), (s.ring n).arrived = (j, w) :: rest →
    (s.ring n).wrote < j → (w.getD 0 0).toNat % 256 ≠ 0 →
    ((s.ring n).freeSlot (j % 2 ^ 25) = true → ∃ t, exec (.partnerRecordWrite n) s = .next t ∧
      mget (t.ring n).slots (j % 2 ^ 25) = some w ∧ (t.ring n).wrote = j ∧ (t.ring n).arrived = rest ∧ t.cores = s.cores) ∧
    ((s.ring n).freeSlot (j % 2 ^ 25) = false → exec (.partnerRecordWrite n) s = .next s)) ∧
  (∀ (s : State) (n : Nat), (s.ring n).ackd < (s.ring n).wrote → ∃ t, exec (.ackSend n) s = .next t ∧
    (t.ring n).ackd = (s.ring n).wrote ∧ (t.ring n).slots = (s.ring n).slots ∧
    t.straits = (s.sendFlit (s.flitTo (s.ring n).chip 0 2 0 (.journalAck (s.ring n).wrote))).straits) ∧
  (∀ (s : State) (n : Nat), (s.ring n).wrote ≤ (s.ring n).ackd → exec (.ackSend n) s = .next s)

/-- R363, R368 (16), R194 (07): an acknowledgement drops the records it covers from the append buffer and completes the JSYNCs it
covers, which take 1 from their tokens; one past the last record changes nothing. A JSYNC issued on an acknowledged jsn completes without another.
The clk of that is the own reading of the model (log 59). -/
def Sys2Proof.Claims.Acknowledged : Prop :=
  (∀ (s : State) (j : Nat), s.journal.state = 1 →
    (s.journal.last < j → exec (.ackArrival j) s = .next s) ∧
    (j ≤ s.journal.last → s.journal.acked ≤ j → ∃ t, exec (.ackArrival j) s = .next t ∧ t.journal.acked = j ∧
      t.journal.buffer = s.journal.buffer.filter (fun p => decide (j < p.1)) ∧ t.journal.last = s.journal.last ∧
      (∀ c, (t.core c).jsyncs = (s.core c).jsyncs.filter (fun x => decide (j < x.2.1))) ∧
      (∀ c x, (s.core c).jsyncs = [x] → x.2.1 ≤ j → x.2.2 < 8 → (t.core c).getK x.2.2 = (s.core c).getK x.2.2 - 1) ∧
      t.mem = s.mem)) ∧
  (∀ (s : State) (c id jsn tok : Nat), (s.core c).jsyncs = [(id, jsn, tok)] → (s.core c).copyOf id = none → s.awakeAt c = true → tok < 8 →
    (s.journal.acked < jsn → exec (.commandComplete c id) s = .next s) ∧
    (jsn ≤ s.journal.acked → ∃ t, exec (.commandComplete c id) s = .next t ∧ (t.core c).jsyncs = [] ∧
      (t.core c).getK tok = (s.core c).getK tok - 1 ∧ t.journal = s.journal ∧ t.mem = s.mem))

/-- R364 (16): a stored guarded item whose stamp is acknowledged is released to its consumer, and no other item. -/
def Sys2Proof.Claims.GuardedReleased : Prop :=
  ∀ (s : State) (q b n : Nat) (qu : Queue) (br : Branch) (e : Elem), mget s.queues q = some qu → qu.branches[b]? = some br →
    br.store[n]? = some e →
    ∃ t k nb f, exec (.guardedRelease q) s = .next t ∧ mget t.queues q = some k ∧ k.branches[b]? = some nb ∧
      nb.store[n]? = some f ∧ f.words = e.words ∧ (f.released = true ↔ (e.released = true ∨ e.stamp ≤ s.journal.acked)) ∧
      nb.store.length = br.store.length ∧ t.cores = s.cores ∧ t.mem = s.mem

/-- R376, R377 (16): a truncation of a whole sequence, in its turn, leaves in the own copy no record of the sequence that stands before it,
and every other record; a replay of it closes. A truncation that arrives takes its place behind the last record. -/
def Sys2Proof.Claims.Truncated : Prop :=
  (∀ (s : State) (core id seq pos : Nat) (r : RecReq) (rest : List RecReq), (s.core core).recs = r :: rest → r.id = id →
    r.trunc = some (seq, pos) → r.at_ + 1 ≤ s.clk → ∃ t, exec (.recordArrival core id) s = .next t ∧ (t.core core).recs = rest ∧
      t.journal.truncs = s.journal.truncs ++ [(seq, pos, s.partOf core, s.journal.last)] ∧ t.journal.last = s.journal.last ∧
      t.rings = s.rings ∧ t.mem = s.mem) ∧
  ∀ (s : State) (seq part j : Nat) (rest : List (Nat × Nat × Nat × Nat)),
    s.journal.truncs = (seq, 2 ^ 64 - 1, part, j) :: rest → s.journal.state = 0 → s.journal.unwritten = [] →
    ∃ t, exec (.truncation 0) s = .next t ∧ t.journal.truncs = rest ∧ t.journal.last = s.journal.last ∧
      (t.ring 0).slots = (s.ring 0).slots.filter (fun p =>
        !(decide (jsnAt s.journal.last p.1 ≤ j) && decide (recSeq p.2 = seq) && decide (recPart p.2 = part))) ∧
      (∀ p, p ∈ t.replays → p.2.seq = seq → p.2.part = part → p.2.valid = false) ∧ t.mem = s.mem ∧ t.cores = s.cores

/-- R362, R367, R369 (16): the unit loses a partner that no port has reached for 2^16 clk; Lemnani names a partner; a source that is
lost is marked. -/
def Sys2Proof.Claims.Partners : Prop :=
  (∀ (s : State), s.journal.state = 1 → s.chipDown s.journal.partner (2 ^ 16) = true →
    ∃ t, exec .partnerDownTimeout s = .next t ∧ t.journal.state = 2 ∧ t.journal.buffer = s.journal.buffer ∧
      t.journal.last = s.journal.last ∧ t.rings = s.rings ∧ t.cores = s.cores) ∧
  (∀ (s : State), s.chipDown s.journal.partner (2 ^ 16) = false → exec .partnerDownTimeout s = .next s) ∧
  (∀ (s : State) (chip inc : Nat), s.journal.state = 0 → ∃ t, exec (.partnerWrite chip inc) s = .next t ∧
    t.journal.state = 1 ∧ t.journal.partner = chip ∧ t.journal.pInc = inc ∧ t.journal.buffer = s.journal.buffer ∧
    t.rings = s.rings ∧ t.cores = s.cores) ∧
  (∀ (s : State) (n : Nat), (s.ring n).valid = true → ∃ t, exec (.sourceLost n) s = .next t ∧ (t.ring n).lost = true ∧
    (t.ring n).slots = (s.ring n).slots ∧ (t.ring n).valid = true ∧ (∀ o, o ≠ n → t.ring o = s.ring o) ∧ t.journal = s.journal)

/-- R370, R373 (16): a replay puts the records into consecutive slots of ring 15, opens the first free entry on them, and pushes its job. -/
def Sys2Proof.Claims.ReplayOpens : Prop :=
  ∀ (s : State) (part seq n q : Nat) (records : List (List Word)) (job : List Word) (qu : Queue),
    firstFree (fun i => (mgetD s.replays i Replay.reset).valid) 4096 0 = some n → mget s.queues q = some qu →
    records.length ≤ 2 ^ 25 → (∀ w, w ∈ records → w.length = 4) →
    ∃ t e, exec (.sequenceReplay part seq records q job) s = .next t ∧ mget t.replays n = some e ∧ e.seq = seq ∧ e.part = part ∧
      e.count = records.length ∧ (e.valid = true ↔ records ≠ []) ∧
      (∀ i w, records[i]? = some w → mget (t.ring 15).slots ((e.slot + i) % 2 ^ 25) = some w) ∧
      t.queues = (s.push q .service job false).queues ∧ t.cores = s.cores

/-- R360-R377 (16): records at the partner, acknowledgement, guarded items, truncation, partners and replay. -/
def Sys2Proof.Claims.AllJournalPartners : Prop :=
  Claims.RecordsShipped ∧ Claims.Acknowledged ∧ Claims.GuardedReleased ∧ Claims.Truncated ∧ Claims.Partners ∧ Claims.ReplayOpens

/-- R356-R378 (16): the journal unit at work. -/
def Obligations.JournalUnit : Prop := Claims.AllJournalRecords ∧ Claims.AllJournalPartners

/-! ### The host ports -/

/-- R403 (18): the checks of a transaction in order; the first that fails gives the status. -/
def Sys2Proof.Claims.HostChecks : Prop :=
  ∀ (s : State) (p : Nat) (t : HostTx) (kind : Nat) (e : ClientEntry),
    ((s.host p).entryOf t.client = none → s.hostStatus p t kind = 1) ∧
    ((s.host p).entryOf t.client = some e →
      ((s.host p).malformed t e kind = true → s.hostStatus p t kind = 3) ∧
      ((s.host p).malformed t e kind = false →
        (e.allows kind = false → s.hostStatus p t kind = 1) ∧
        (e.allows kind = true → t.inc ≠ s.inc.toNat → s.hostStatus p t kind = 4) ∧
        (e.allows kind = true → t.inc = s.inc.toNat → e.share ≤ ((s.host p).outstanding t.client).length →
          s.hostStatus p t kind = 5) ∧
        (e.allows kind = true → t.inc = s.inc.toNat → ((s.host p).outstanding t.client).length < e.share → kind ≠ 3 →
          s.hostStatus p t kind = 0)))

/-- The transaction goes at once: nothing of the client's waits before it, and it releases nothing. -/
def Sys2Proof.Claims.goesAtOnce (s : State) (p : Nat) (t : HostTx) : Prop :=
  s.hostOpen p = true ∧ (s.host p).waiting = [] ∧ (s.host p).pushed = [] ∧ txReleases t = false

/-- R403-R407 (18): a transaction that a check refuses is answered with its status and does nothing; a read returns the bytes of the
client's partition, or status 8 where they are poisoned; a write stores its bytes, and no others; a page that the client may not use gives
status 2.
That one is performed and answered in one step is the own reading of the model (log 57). -/
def Sys2Proof.Claims.HostAccesses : Prop :=
  ∀ (s u : State) (p key : Nat) (t : HostTx) (e : ClientEntry),
    (∀ st, s.hostOpen p = true → s.hostStatus p t 1 = st → st ≠ 0 →
      exec (.hostRead p t) s = .next { s with outbox := s.outbox ++ [.response p t.client t.tag st s.inc.toNat []] }) ∧
    (Claims.goesAtOnce s p t → t.kind = 1 → s.hostStatus p t 1 = 0 → (s.host p).entryOf t.client = some e →
      s.hostKey p e.part t.addr false = .at key u → s.shownHolds none false key t.len = false →
      ∃ v, exec (.hostRead p t) s = .next v ∧ v.mem = u.mem ∧ v.cores = s.cores ∧
        (s.isPoisoned key t.len = false →
          v.outbox = s.outbox ++ [.response p t.client t.tag 0 s.inc.toNat (memRead s.mem key t.len)]) ∧
        (s.isPoisoned key t.len = true → v.outbox = s.outbox ++ [.response p t.client t.tag 8 s.inc.toNat []])) ∧
    (Claims.goesAtOnce s p t → t.kind = 2 → s.hostStatus p t 2 = 0 → (s.host p).entryOf t.client = some e →
      s.hostKey p e.part t.addr true = .at key u → s.shownHolds none true key t.len = false → s.memOk →
      t.enables = List.replicate t.len true → t.data.length = t.len →
      ∃ v, exec (.hostWrite p t) s = .next v ∧ memRead v.mem key t.len = t.data ∧
        (∀ a, (a < key ∨ key + t.len ≤ a) → memGet v.mem a = memGet u.mem a) ∧
        v.outbox = s.outbox ++ [.response p t.client t.tag 0 s.inc.toNat []] ∧ v.cores = s.cores) ∧
    (Claims.goesAtOnce s p t → (t.kind = 1 ∨ t.kind = 2) → s.hostStatus p t t.kind = 0 → (s.host p).entryOf t.client = some e →
      s.hostKey p e.part t.addr (decide (t.kind = 2)) = .refused →
      (t.kind = 2 → true ∈ t.enables.take t.len) →
      ∃ v, exec (if t.kind = 1 then .hostRead p t else .hostWrite p t) s = .next v ∧ v.mem = s.mem ∧ v.cores = s.cores ∧
        v.outbox = s.outbox ++ [.response p t.client t.tag 2 s.inc.toNat []])

/-- R404, R406 (18), R408 (18): a push, and a flush that releases, wait for the client's flush; a plain flush is answered at once; a
credit returns the client's slots. -/
def Sys2Proof.Claims.HostOrders : Prop :=
  ∀ (s : State) (p : Nat) (t : HostTx),
    (s.hostOpen p = true → s.hostStatus p t 3 = 0 → t.kind = 3 → ∃ v, exec (.hostPush p t) s = .next v ∧
      (v.host p).waiting = (s.host p).waiting ++ [t] ∧ v.queues = s.queues ∧ v.mem = s.mem ∧ v.outbox = s.outbox) ∧
    (Claims.goesAtOnce s p t → s.hostStatus p t 5 = 0 → t.kind = 5 → ∃ v, exec (.hostFlush p t) s = .next v ∧
      v.outbox = s.outbox ++ [.response p t.client t.tag 0 s.inc.toNat []] ∧ v.mem = s.mem ∧ v.queues = s.queues) ∧
    (∀ qu b br, Claims.goesAtOnce s p t → s.hostStatus p t 4 = 0 → t.kind = 4 → mget s.queues t.queue = some qu →
      qu.clientBranch t.client = some b → qu.branches[b]? = some br → br.credited + t.len ≤ br.tail →
      ∃ v k nb, exec (.hostCredit p t) s = .next v ∧ mget v.queues t.queue = some k ∧ k.branches[b]? = some nb ∧
        nb.credited = br.credited + t.len ∧ nb.tail = br.tail ∧
        v.outbox = s.outbox ++ [.response p t.client t.tag 0 s.inc.toNat []]) ∧
    (∀ qu, (s.host p).waiting = [t] → (s.host p).pushed = [] → (s.host p).tails = [] → t.kind = 3 →
      mget s.queues t.queue = some qu → 0 < qu.creditsOf (.client t.client) →
      ∃ v, exec (.flushAck p t.client) s = .next v ∧ (v.host p).waiting = [] ∧
        v.queues = (s.pushAt (hostRouter p) t.queue (.client t.client) (wordsOfBytes qu.words t.data) false).queues ∧
        (v.host p).pushed = [(t, s.nextId)] ∧ v.mem = s.mem)

/-- R408 (18): an item for a client leaves for the client's next slot, and its tail waits for the client's flush. -/
def Sys2Proof.Claims.ClientDelivered : Prop :=
  ∀ (s : State) (q b id router tail credited n : Nat) (qu : Queue) (e : Elem) (rest : List Elem) (h : HostPort),
    mget s.queues q = some qu → qu.branches[b]? = some ⟨.client id, router, e :: rest, tail, credited⟩ → e.marker = false →
    (qu.cls ≠ 2 ∨ e.released = true) →
    s.hosts.find? (fun h => h.2.clients.any (fun c =>
      decide (bitsAt c.2.w0.toNat 48 16 = id) && decide (bitsAt c.2.w0.toNat 39 1 = 1) && decide (bitsAt c.2.w0.toNat 37 1 = 1))) =
      some (n, h) →
    ∃ t k, exec (.clientDelivery q b) s = .next t ∧ mget t.queues q = some k ∧
      k.branches[b]? = some ⟨.client id, router, rest, tail + 1, credited⟩ ∧
      t.outbox = s.outbox ++ [.deliver id q (tail % 2 ^ qu.log2) e.words] ∧ (id, q) ∈ (t.host n).tails ∧ t.mem = s.mem

/-- R409 (18): after a reset every transaction that it cut short is answered with status 4 once the link rejoins. -/
def Sys2Proof.Claims.LinkRejoins : Prop :=
  ∀ (s : State) (p : Nat), ∃ t, exec (.hostLinkRejoin p) s = .next t ∧ (t.host p).aborted = [] ∧ t.mem = s.mem ∧ t.cores = s.cores ∧
    t.outbox = s.outbox ++ (s.host p).aborted.map (fun x => .response p x.client x.tag 4 s.inc.toNat [])

/-- R402-R409 (18): the host ports. -/
def Obligations.HostPorts : Prop :=
  Claims.HostChecks ∧ Claims.HostAccesses ∧ Claims.HostOrders ∧ Claims.ClientDelivered ∧ Claims.LinkRejoins

/-! ### The scheduler -/

/-- R200 (08), R227, R230 (09): an item at the head of a trigger's queue, or its closed state, forms one run-queue entry at the queue's
priority, while the run queue has room: 64 entries for an express queue, 60 for another. -/
def Sys2Proof.Claims.EntryForms : Prop :=
  ∀ (s : State) (core handler : Nat) (g : Trigger) (q : Queue),
    (s.core core).triggers.find? (fun g => decide (g.handler = handler)) = some g → mget s.queues g.queue = some q →
    ((∃ ws, s.headFor g.queue core = .item ws) ∨ s.headFor g.queue core = .closed) → (s.core core).triggerWaits handler = false → (s.cl (clusterOf core)).awake = true →
    let room := if q.cls = 1 then 64 else 60
    ((s.core core).runq.length < room → ∃ t e, exec (.triggerEntry core handler) s = .next t ∧
      (t.core core).runq = (s.core core).runq ++ [e] ∧ e.kind = .trigger handler g.queue g.entry (decide (q.cls = 1)) ∧
      e.time = s.clk ∧ e.base = min q.prio (s.cl (clusterOf core)).yceil.toNat ∧ t.queues = s.queues ∧ t.mem = s.mem) ∧
    (room ≤ (s.core core).runq.length → exec (.triggerEntry core handler) s = .next s)

/-- R231-R233 (09): which entry of a run queue comes first: an express one before any other; among the others one of the highest
effective priority, and among equals the oldest. -/
def Sys2Proof.Claims.EntryOrder : Prop :=
  ∀ (k : Cluster) (clk i : Nat) (l : List RunEntry) (e : RunEntry), bestEntry k clk l = some (i, e) →
    let eff (x : RunEntry) := effective x.base (clk - x.time) k
    l[i]? = some e ∧ ∀ x, x ∈ l →
      (x.isExpress = true → e.isExpress = true ∧ e.time ≤ x.time) ∧
      (e.isExpress = false → eff x ≤ eff e ∧ (eff x = eff e → e.time ≤ x.time))

/-- R231 (09): the effective priority grows by 1 for each ageing interval waited, up to the ceiling; an interval of 0 counts as
65,536. -/
def Sys2Proof.Claims.Ageing : Prop :=
  ∀ (base waited : Nat) (k : Cluster),
    (k.yagei ≠ 0 → effective base waited k = min (base + waited / k.yagei.toNat) k.yceil.toNat) ∧
    (k.yagei = 0 → effective base waited k = min (base + waited / 65536) k.yceil.toNat)

/-- R232, R235, R236 (09): an idle core selects an express entry, else the oldest resumed caller, else the entry that comes first; a
continuation's first pair issues 11 clk later, another's 2. -/
def Sys2Proof.Claims.Selects : Prop :=
  ∀ (s : State) (core : Nat), s.maySelect core = true →
    let k := s.core core
    (∀ i e, bestEntry (s.cl (clusterOf core)) s.clk k.runq = some (i, e) → (e.isExpress = true ∨ k.resumed = []) →
      ∃ t, exec (.select core) s = .next t ∧ (t.core core).runq = dropAt k.runq i ∧
        (t.core core).mode = .starting e (effective e.base (s.clk - e.time) (s.cl (clusterOf core)))
          (s.clk + (match e.kind with | .cont _ => 11 | _ => 2)) ∧ (t.core core).resumed = k.resumed ∧ t.mem = s.mem) ∧
    (∀ n at' rest, k.resumed = (n, at') :: rest → (∀ e, e ∈ k.runq → e.isExpress = false) →
      ∃ t e eff, exec (.select core) s = .next t ∧ (t.core core).resumed = rest ∧ (t.core core).act = some n ∧
        (t.core core).mode = .starting e eff (s.clk + 11) ∧ e.kind = .cont n ∧ (t.core core).runq = k.runq)

/-- R201 (08), R227 (09): a triggered activation starts: its item is popped into x10-x17, or the closed queue reopens and x10 is all
ones; x2 is the top of the local store, every other register is 0, and the pc is its handler's entry. -/
def Sys2Proof.Claims.TriggerStarts : Prop :=
  ∀ (s : State) (core h q entry eff at' n : Nat) (ex : Bool) (e : RunEntry) (ws : List Word) (popped : State),
    (s.core core).mode = .starting e eff at' → e.kind = .trigger h q entry ex → at' ≤ s.clk + 1 →
    (s.cl (clusterOf core)).awake = true → (s.cl (clusterOf core)).freeAct = some n →
    ((s.headFor q core = .item ws ∧ ws.length ≤ 8 ∧ popped = s.popFor q core) ∨
      (s.headFor q core = .closed ∧ ws = [BitVec.allOnes 64] ∧ popped = s.modQ q Queue.reopen)) →
    ∃ t a, exec (.activationStart core) s = .next t ∧ t.act? (clusterOf core) n = some a ∧ a.queue = q ∧ a.handler = h ∧
      a.kind = 0 ∧ a.eff = eff ∧ (t.core core).act = some n ∧ (t.core core).mode = .running ∧
      (t.core core).pc = 0x10000 + BitVec.ofNat 64 entry ∧ (t.core core).getX 2 = 0x20000 ∧
      (∀ i, i < 8 → (t.core core).getX (10 + i) = ws.getD i 0) ∧
      (∀ r, r ≠ 2 → (r < 10 ∨ 18 ≤ r) → (t.core core).getX r = 0) ∧ (∀ r, (t.core core).getV r = 0) ∧
      (∀ r, (t.core core).getK r = 0) ∧ (t.core core).yflags = 0 ∧ t.mem = s.mem ∧
      t.queues = popped.queues

/-- R201, R236 (08, 09), R112 (04): a task starts at its word's entry with its arguments, once the accesses before it have been
performed and its core has its role whole. -/
def Sys2Proof.Claims.TaskStarts : Prop :=
  ∀ (s : State) (core n eff at' : Nat) (e : RunEntry) (a : Act), (s.core core).mode = .starting e eff at' → e.kind = .task n →
    at' ≤ s.clk + 1 → (s.cl (clusterOf core)).awake = true → s.act? (clusterOf core) n = some a → a.args.length ≤ 8 →
    (s.gateOpen .cl a.gate = true → (s.core core).roleCopy = none →
      ∃ t, exec (.activationStart core) s = .next t ∧ (t.core core).mode = .running ∧
      (t.core core).act = some n ∧ (t.core core).pc = a.start ∧ (t.core core).getX 2 = 0x20000 ∧
      (∀ i, i < a.args.length → (t.core core).getX (10 + i) = a.args.getD i 0) ∧ t.queues = s.queues ∧ t.mem = s.mem) ∧
    ((s.gateOpen .cl a.gate = false ∨ (s.core core).roleCopy ≠ none) → exec (.activationStart core) s = .next s)

/-- R84 (03), R117 (04), R201 (08), R235 (09): a continuation starts with the registers that its frame's bytes hold, and with tokens at 0;
a completed call's words are in x10-x17; the masks and vector registers are 0, or a fault frame's. -/
def Sys2Proof.Claims.ContinuationStarts : Prop :=
  ∀ (s : State) (core n eff at' : Nat) (e : RunEntry) (a : Act) (f : Frame), (s.core core).mode = .starting e eff at' →
    e.kind = .cont n → at' ≤ s.clk + 1 → (s.cl (clusterOf core)).awake = true → s.act? (clusterOf core) n = some a →
    a.frame = some f → f.endOnly = false →
    ∃ t, exec (.activationStart core) s = .next t ∧ (t.core core).mode = .running ∧ (t.core core).act = some n ∧
      (t.core core).pc = BitVec.ofNat 64 (s.framePart (clusterOf core) f 0x0b8 8) ∧
      (t.core core).yflags = BitVec.ofNat 6 (s.framePart (clusterOf core) f 0x0c8 8) ∧ (∀ r, (t.core core).getK r = 0) ∧
      (t.core core).h = f.h ∧ (t.core core).a = f.a ∧ (∀ r, 1 ≤ r → r < 24 → (r < 10 ∨ 18 ≤ r ∨ (∀ c ws, a.place ≠ .resumed c ws)) →
        (t.core core).getX r = BitVec.ofNat 64 (s.framePart (clusterOf core) f (8 * (r - 1)) 8)) ∧
      (∀ c ws, a.place = .resumed c ws → ∀ i, i < 8 → (t.core core).getX (10 + i) = ws.getD i 0) ∧
      (f.fault = false → ∀ r, (t.core core).getV r = 0 ∧ (1 ≤ r → (t.core core).getM r = 0)) ∧
      (f.fault = true → (∀ r, r < 32 → (t.core core).getV r = BitVec.ofNat 1024 (s.framePart (clusterOf core) f (0x300 + 128 * r) 128)) ∧
        ∀ r, 1 ≤ r → r < 8 → (t.core core).getM r = BitVec.ofNat 128 (s.framePart (clusterOf core) f (0x280 + 16 * (r - 1)) 16)) ∧
      (∃ b, t.act? (clusterOf core) n = some b ∧ b.frame = none ∧ b.place = .running core) ∧ t.mem = s.mem

/-- R200, R201 (08), R227-R236 (09): entries, selection and starts. -/
def Sys2Proof.Claims.AllEntriesAndStarts : Prop :=
  Claims.EntryForms ∧ Claims.EntryOrder ∧ Claims.Ageing ∧ Claims.Selects ∧ Claims.TriggerStarts ∧ Claims.TaskStarts ∧
    Claims.ContinuationStarts

/-- R116, R117 (04), R234 (09): when the last child has ended and the frame is whole, the continuation joins the run queue of a core of
its cluster that holds its role and has room, the one with the fewest entries; with no room it waits, marked ready, and an older one that
waits for a core of its role goes first. -/
def Sys2Proof.Claims.ContinuationReady : Prop :=
  ∀ (s : State) (cl n since : Nat) (a : Act) (f : Frame), s.act? cl n = some a → a.frame = some f → (s.cl cl).awake = true →
    let best := s.fewest cl (fun c => decide ((s.core c).role = a.role) && decide ((s.core c).runq.length < 64))
    let due := (a.place = .waitChildren ∧ a.children = 0 ∧ since = s.clk) ∨ a.place = .ready since none
    ((a.place = .waitChildren ∧ a.children ≠ 0) ∨ s.clk ≤ f.savedAt → exec (.continuationReady cl n) s = .next s) ∧
    (due → f.savedAt < s.clk → (s.cl cl).olderReady n a since = false → ∀ c, best = some c → clusterOf c = cl →
      ∃ t e b, exec (.continuationReady cl n) s = .next t ∧ (t.core c).runq = (s.core c).runq ++ [e] ∧ e.kind = .cont n ∧
        e.base = a.base ∧ e.time = s.clk ∧ t.act? cl n = some b ∧ b.place = .queued c ∧ b.frame = a.frame ∧ t.mem = s.mem) ∧
    (due → f.savedAt < s.clk → ((s.cl cl).olderReady n a since = true ∨ best = none) →
      ∃ t b, exec (.continuationReady cl n) s = .next t ∧ t.cores = s.cores ∧ t.act? cl n = some b ∧ b.place = .ready since none ∧
        b.frame = a.frame ∧ t.mem = s.mem)

/-- R114, R125 (04): after its inline child's END the parent goes on on its core: x[d] of its frame is 1, nothing else of its frame
changes, and its first pair issues 10 clk later. -/
def Sys2Proof.Claims.InlineReturns : Prop :=
  ∀ (s : State) (core n d : Nat) (a : Act) (f : Frame), s.inlineDue core = some (n, a, d) → a.frame = some f →
    s.memOk → f.bytes = [] → s.isIdle core = true → (s.cl (clusterOf core)).awake = true → 1 ≤ d → d < 24 →
    ∃ t e b, exec (.inlineChildReturn core) s = .next t ∧ (t.core core).act = some n ∧
      (t.core core).mode = .starting e a.eff (s.clk + 10) ∧ e.kind = .cont n ∧ t.act? (clusterOf core) n = some b ∧
      b.frame = a.frame ∧ t.framePart (clusterOf core) f (8 * (d - 1)) 8 = 1 ∧
      (∀ off, off < 0x280 → (off < 8 * (d - 1) ∨ 8 * d ≤ off) →
        t.framePart (clusterOf core) f off 1 = s.framePart (clusterOf core) f off 1)

/-- R115, R125 (04): a crew whose cores are all idle starts on them at once, 2 clk later, and its slot is free (here one core that holds
the role). -/
def Sys2Proof.Claims.CrewStarts : Prop :=
  ∀ (s : State) (cl c n : Nat) (w : Crew), (s.cl cl).crew = some w → w.span = none → maskCores cl w.mask = [c] →
    (s.core c).role = some w.role → (s.cl cl).freeAct = some n → (s.cl cl).awake = true →
    (s.isIdle c = true → (s.core c).roleCopy = none → s.gateOpen .cl (w.issuer, w.gate) = true → ∃ t e a, exec (.crewStart cl) s = .next t ∧ (t.cl cl).crew = none ∧
      (t.core c).mode = .starting e w.prio (s.clk + 2) ∧ e.kind = .task n ∧ (t.core c).act = some n ∧ t.act? cl n = some a ∧
      a.kind = 3 ∧ a.rank = 0 ∧ a.size = 1 ∧ a.start = w.start ∧ a.args = w.args ∧ a.member = true ∧ t.mem = s.mem) ∧
    ((s.isIdle c = false ∨ (s.core c).roleCopy ≠ none) → exec (.crewStart cl) s = .next s)

/-- R112, R113 (04): a request to another cluster is placed there by the rules of R112, and its status travels back to the register
that waits for it. -/
def Sys2Proof.Claims.RequestsAnswered : Prop :=
  (∀ (s t : State) (i st : Nat) (r : ActReq), s.actReqs[i]? = some r → r.answer = none → r.at_ ≤ s.clk →
    (s.cl r.cluster).awake = true →
    let aw := ActWord.ofWord r.word
    s.actAt r.core r.cluster r.role aw ((aw.new r.args (aw.base r.prio (s.cl r.cluster).yceil) r.core r.role r.gate).act none) 5
      (clusterOf r.core) = (st, t) →
    ∃ u q, exec (.actRequestArrival i) s = .next u ∧ u.actReqs[i]? = some q ∧ q.answer = some st ∧ q.core = r.core ∧ q.id = r.id ∧
      q.at_ = s.clk + meshTime (clusterOf r.core) r.cluster ∧ u.cores = t.cores ∧ u.clusters = t.clusters) ∧
  (∀ (s : State) (core id st d : Nat) (r : ActReq),
    s.actReqs.find? (fun r => decide (r.core = core) && decide (r.id = id)) = some r → r.answer = some st → r.at_ < s.clk →
    (s.core core).destsFor id = [.x d] → 1 ≤ d → d < 24 →
    ∃ t, exec (.actAnswer core id) s = .next t ∧ (t.core core).getX d = BitVec.ofNat 64 st ∧
      (t.core core).waits = (s.core core).waits.filter (fun w => decide (w.id ≠ id)) ∧ t.mem = s.mem)

/-- R112-R116 (04), R234-R237 (09): continuations, inline children, crews and requests. -/
def Sys2Proof.Claims.AllContinuationsAndCrews : Prop :=
  Claims.ContinuationReady ∧ Claims.InlineReturns ∧ Claims.CrewStarts ∧ Claims.RequestsAnswered

/-- R230-R239 (09): entries, selections, starts, continuations and crews. -/
def Obligations.SchedulersWork : Prop := Claims.AllEntriesAndStarts ∧ Claims.AllContinuationsAndCrews

/-- R121, R125 (04): in the clk after a phase completes its waiters are released; arrivals since then that fill another phase complete
it. -/
def Sys2Proof.Claims.BarrierReleases : Prop :=
  ∀ (s : State) (cl bar at' : Nat) (b : Barrier), (s.cl cl).awake = true → mget (s.cl cl).bars bar = some b →
    b.doneAt = some at' →
    (s.clk ≤ at' → exec (.barrierRelease cl bar) s = .next s) ∧
    (at' < s.clk → b.a < b.n → ∃ t, exec (.barrierRelease cl bar) s = .next t ∧
      mget (t.cl cl).bars bar = some { b with rel := [], doneAt := none } ∧ t.cores = s.cores ∧ t.mem = s.mem) ∧
    (at' < s.clk → 0 < b.n → b.n ≤ b.a → ∃ t, exec (.barrierRelease cl bar) s = .next t ∧
      mget (t.cl cl).bars bar = some { b with a := b.a - b.n, pend := [], rel := b.pend, doneAt := some s.clk } ∧ t.cores = s.cores)

/-- R240 (09): an arrival that reaches the network counts; the one that fills the phase sends every member's release, each for the time
to its cluster; a release that has come clears the member's pending bit. -/
def Sys2Proof.Claims.SpanBarriers : Prop :=
  (∀ (s : State) (span i bar core at' : Nat) (sp : Span), mget s.spans span = some sp → sp.inFlight[i]? = some (bar, core, at') →
    at' ≤ s.clk → s.awakeAt core = true →
    let b := mgetD sp.bars bar Barrier.reset
    let all := mgetD sp.counted bar [] ++ [core]
    (b.a + 1 < b.n → ∃ t u, exec (.spanBarrierArrival span i) s = .next t ∧ mget t.spans span = some u ∧
      (mgetD u.bars bar Barrier.reset).a = b.a + 1 ∧ mgetD u.counted bar [] = all ∧ u.releases = sp.releases ∧
      u.inFlight = dropAt sp.inFlight i ∧ t.cores = s.cores) ∧
    (b.a + 1 = b.n → b.doneAt ≠ some s.clk → ∃ t u, exec (.spanBarrierArrival span i) s = .next t ∧ mget t.spans span = some u ∧
      (mgetD u.bars bar Barrier.reset).a = 0 ∧ mgetD u.counted bar [] = [] ∧
      u.releases = sp.releases ++ all.map (fun c => (bar, c, s.clk + sp.delay (clusterOf c))) ∧ t.cores = s.cores)) ∧
  (∀ (s : State) (span i bar core at' : Nat) (sp : Span), mget s.spans span = some sp → sp.releases[i]? = some (bar, core, at') →
    at' ≤ s.clk → s.awakeAt core = true → core ∉ mgetD sp.counted bar [] → (∀ x, x ∈ sp.inFlight → ¬(x.1 = bar ∧ x.2.1 = core)) →
    ∃ t u, exec (.spanBarrierRelease span i) s = .next t ∧ mget t.spans span = some u ∧ u.releases = dropAt sp.releases i ∧
      (∀ c, c ∈ (mgetD u.bars bar Barrier.reset).pend ↔ (c ∈ (mgetD sp.bars bar Barrier.reset).pend ∧ c ≠ core)) ∧ t.cores = s.cores)

/-- R84, R85 (03), R235 (09), R400 (17): a completion goes to the caller that its tag names, in order of activation number among those of
one clk, ready to go on with its words, or to the member that waits on that core; one of another generation, or that names nobody that
waits on that core, is dropped and counted.
Which version word 7 carries is the own reading of the model (log 50). -/
def Sys2Proof.Claims.Completions : Prop :=
  ∀ (s : State) (w0 w1 w2 w3 w4 w5 w6 tag : Word),
    let words := [w0, w1, w2, w3, w4, w5, w6, tag]
    let core := (tag &&& 0x3fff).toNat
    let gen := ((tag >>> 14) &&& 0xffff).toNat
    let n := ((tag >>> 30) &&& 0xffff).toNat
    let cl := clusterOf core
    let v := BitVec.ofNat 64 (mgetD s.services ((s.cl cl).sysq.getD 0) 0 % 2 ^ 32) <<< 32 ||| (tag &&& 0xffffffff)
    let got := [w0, w1, w2, w3, w4, w5, w6, v]
    let none' := { s with dropped := s.dropped + 1 }
    (gen ≠ (s.cl cl).gen → exec (.completionArrival words) s = .next none') ∧
    (gen = (s.cl cl).gen → s.act? cl n = none → exec (.completionArrival words) s = .next none') ∧
    (∀ a c, gen = (s.cl cl).gen → s.act? cl n = some a → a.place = .inCall c → c ≠ core →
      exec (.completionArrival words) s = .next none') ∧
    (∀ a, gen = (s.cl cl).gen → s.act? cl n = some a → a.place = .inCall core → ∃ t, exec (.completionArrival words) s = .next t ∧
      t.act? cl n = some { a with place := .resumed core got } ∧
      (t.core core).resumed = joinResumed (s.core core).resumed n s.clk ∧ t.mem = s.mem) ∧
    (∀ a, gen = (s.cl cl).gen → s.act? cl n = some a → a.place = .running core → (s.core core).mode = .memberCall n →
      ∃ t, exec (.completionArrival words) s = .next t ∧ (t.core core).mode = .running ∧ t.mem = s.mem ∧ t.clusters = s.clusters ∧
        (∀ i, i < 8 → (t.core core).getX (10 + i) = got.getD i 0) ∧
        (∀ r, (r < 10 ∨ 18 ≤ r) → (t.core core).getX r = (s.core core).getX r))

/-- R235 (09): a resumed caller stands behind those whose completions were popped in an earlier clk, and in order of activation number
among those of its clk. -/
def Sys2Proof.Claims.ResumedOrder : Prop :=
  ∀ (l : List (Nat × Nat)) (n clk : Nat), (∀ p, p ∈ l → p.2 ≤ clk) →
    l.Pairwise (fun p q => p.2 < q.2 ∨ (p.2 = q.2 ∧ p.1 ≤ q.1)) →
    (joinResumed l n clk).Pairwise (fun p q => p.2 < q.2 ∨ (p.2 = q.2 ∧ p.1 ≤ q.1)) ∧
    (joinResumed l n clk).Perm ((n, clk) :: l)

/-- R86 (03): the oldest parked caller whose core can call pushes its call and waits for the completion. -/
def Sys2Proof.Claims.CallerResumes : Prop :=
  ∀ (s : State) (cl n c q : Nat) (a : Act) (rest : List Nat), (s.cl cl).callers = n :: rest → s.act? cl n = some a →
    s.canCall a.home = true → a.place = .parkedCall c → clusterOf c = cl → (s.cl cl).awake = true → (s.cl cl).sysq = some q →
    ∃ t, exec (.parkedCallerResume cl) s = .next t ∧ t.act? cl n = some { a with place := .inCall c } ∧
      (t.cl cl).callers = rest.filter (fun m => decide (m ≠ n)) ∧ t.queues = (s.push q (callParty c) a.call false).queues ∧
      t.cores = s.cores ∧ t.mem = s.mem

/-- R238, R239, R245 (09): a span-start call that the allocator refuses completes with its status, after the mesh time from the service;
one that it takes becomes a span, which claims its clusters' crew slots one by one, in ascending order, places its members once every
masked core is idle and holds its role whole, and completes with status 0 once every member has started. -/
def Sys2Proof.Claims.SpansForm : Prop :=
  (∀ (s : State) (q st : Nat) (qu : Queue) (ws : List Word), mget s.queues q = some qu → qu.headAt 0 = .item ws →
    (ws.getD 0 0).toNat % 65536 = 0x0100 → s.ready.getLsbD 4 = true → s.askSpan ws = .error st →
    ∃ t, exec (.spanStartCall q) s = .next t ∧ t.queues = (s.setQ q (qu.popAt 0)).queues ∧ t.cores = s.cores ∧
      t.clusters = s.clusters ∧ t.spans = s.spans ∧
      t.calls = s.calls ++ [(s.clk + meshTime 0 (clusterOf (ws.getD 7 0 &&& 0x3fff).toNat),
        [BitVec.ofNat 64 st, 0, 0, 0, 0, 0, 0, ws.getD 7 0])]) ∧
  (∀ (s : State) (i at' : Nat) (ws : List Word), s.calls[i]? = some (at', ws) →
    (s.clk < at' → execCallAnswered i s = .next s) ∧
    (at' ≤ s.clk → execCallAnswered i s = exec (.completionArrival ws) { s with calls := dropAt s.calls i })) ∧
  (∀ (s : State) (q : Nat) (qu : Queue) (ws : List Word) (sp : Span), mget s.queues q = some qu → qu.headAt 0 = .item ws →
    (ws.getD 0 0).toNat % 65536 = 0x0100 → s.ready.getLsbD 4 = true → s.askSpan ws = .ok sp →
    ∃ t, exec (.spanStartCall q) s = .next t ∧ mget t.spans s.nextId = some sp ∧ mget t.queues q = some (qu.popAt 0) ∧
      t.cores = s.cores ∧ t.clusters = s.clusters) ∧
  (∀ (s : State) (span c : Nat) (sp : Span), mget s.spans span = some sp → sp.placed = false →
    sp.clusters.find? (fun c => !sp.claimed.contains c) = some c →
    ((s.cl c).crew = none → (s.cl c).span = none → (s.cl c).awake = true → ∃ t u w, exec (.spanMembersPlaced span) s = .next t ∧
      mget t.spans span = some u ∧ u.claimed = sp.claimed ++ [c] ∧ (t.cl c).span = some span ∧ (t.cl c).crew = some w ∧
      w.span = some span ∧ w.mask = sp.mask ∧ t.cores = s.cores) ∧
    ((s.cl c).crew ≠ none → exec (.spanMembersPlaced span) s = .next s)) ∧
  (∀ (s : State) (span : Nat) (sp : Span), mget s.spans span = some sp → sp.placed = false →
    (∀ c, c ∈ sp.clusters → c ∈ sp.claimed) →
    (∀ c, c ∈ sp.clusters → (s.cl c).awake = true ∧ ∀ i, i ∈ maskCores c sp.mask → s.isIdle i = true) →
    let cores := sp.clusters.flatMap (fun c => maskCores c sp.mask)
    ((∃ i, i ∈ cores ∧ (s.core i).role = none) → ∃ t, exec (.spanMembersPlaced span) s = .next t ∧ t.spans = s.spans ∧
      ∀ i, i ∈ cores → (t.core i).role = some ((s.core i).role.getD sp.role)) ∧
    ((∀ i, i ∈ cores → (s.core i).role ≠ none) → (∃ i, i ∈ cores ∧ (s.core i).roleCopy ≠ none) →
      exec (.spanMembersPlaced span) s = .next s) ∧
    ((∀ i, i ∈ cores → (s.core i).role ≠ none ∧ (s.core i).roleCopy = none) →
      ∃ t u, exec (.spanMembersPlaced span) s = .next t ∧ mget t.spans span = some u ∧ u.placed = true ∧
        u.members = sp.clusters.length * maskCount sp.mask ∧ u.started = sp.started ∧ t.mem = s.mem)) ∧
  (∀ (s : State) (span : Nat) (sp : Span), mget s.spans span = some sp → sp.placed = true → sp.started = false →
    (∀ c, c ∈ sp.clusters → s.spanStarted c sp.mask = true) →
    ∃ t u, exec (.spanMembersPlaced span) s = .next t ∧ mget t.spans span = some u ∧ u.started = true ∧ t.cores = s.cores ∧
      (∀ c, c ∈ sp.clusters → ((s.cl c).crew.bind (fun w => w.span)) = some span → (t.cl c).crew = none) ∧
      t.calls = s.calls ++ [(s.clk + meshTime 0 (clusterOf (sp.tag &&& 0x3fff).toNat), [0, 0, 0, 0, 0, 0, 0, sp.tag])])

/-- R84-R86 (03), R120-R125 (04), R235-R240 (09): barriers, spans and system calls. -/
def Obligations.BarriersSpansAndCalls : Prop :=
  Claims.BarrierReleases ∧ Claims.SpanBarriers ∧ Claims.Completions ∧ Claims.ResumedOrder ∧ Claims.CallerResumes ∧ Claims.SpansForm

/-! ### Loading and replacing programs -/

/-- The program of a region. -/
def Sys2Proof.Claims.holds (s : State) (org : Nat) (p : Program) : Prop := mget s.progs org = some p

/-- R30, R32 (01), R416 (18): a request that fails a check is answered with its status and changes nothing else; the order of the first
checks.
The place of status 14 is the own choice of the model (log 22). -/
def Sys2Proof.Claims.LoadRefused : Prop :=
  ∀ (s : State) (r : LoadReq),
    (∀ st, s.loadStatus r = st → st ≠ 0 → exec (.loadRequest r) s =
      .next { s with outbox := s.outbox ++ [.status 0 (32 * r.row0 + r.col0) st (wordAt r.words 6)] }) ∧
    ((s.ready.getLsbD 3 = false ∨ s.ready.getLsbD 4 = false) → s.loadStatus r = 14) ∧
    (s.ready.getLsbD 3 = true → s.ready.getLsbD 4 = true →
      (headerOk r.words = false → s.loadStatus r = 1) ∧
      (headerOk r.words = true → s.signatureOk r.words = false → s.loadStatus r = 2) ∧
      (headerOk r.words = true → s.signatureOk r.words = true → directoryOk r.words = false → s.loadStatus r = 3))

/-- R26, R27 (01), R397 (17): a request that passes claims its region: every cluster of it gets the region, its generation, its tables and
the partition's ceiling, every core its role and a local store of zeros, and its blocks start at the root of the boot tree. -/
def Sys2Proof.Claims.LoadBegins : Prop :=
  ∀ (s : State) (r : LoadReq) (pt : Partition), s.loadStatus r = 0 → s.part? r.part = some pt →
    let m := imageOf r.words
    let org := 32 * r.row0 + r.col0
    ∃ t p, exec (.loadRequest r) s = .next t ∧ Claims.holds t org p ∧ p.phase = .loading ∧ p.image = m ∧ p.part = r.part ∧
      p.blocks = m.blocks org ∧
      (∀ o, o ∈ m.offsets → (t.cl (org + o)).region = some org ∧ (t.cl (org + o)).gen = s.newGen ∧
        (t.cl (org + o)).part = r.part ∧ (t.cl (org + o)).row0 = r.row0 ∧ (t.cl (org + o)).col0 = r.col0 ∧
        (t.cl (org + o)).yceil = BitVec.ofNat 5 pt.ceil ∧ (t.cl (org + o)).acts = [] ∧
        ∀ i, i < 8 → (t.core (8 * (org + o) + i)).role = (m.roleAt o i).map (fun x => (x.num, org)) ∧
          ∀ a, a < 65536 → memGet t.mem (localKey (8 * (org + o) + i) a) = 0) ∧
      t.clk = s.clk

/-- R26 (01), R204 (08): a block that has reached a cluster goes on along the edges below which its role is placed, once the forwarder
cores run no activation; a block of a load is kept by the cluster, and a staged block changes no memory. -/
def Sys2Proof.Claims.BlockMoves : Prop :=
  ∀ (s : State) (region cluster i tr piece : Nat) (p : Program), Claims.holds s region p → (s.cl cluster).awake = true →
    p.blocks[i]? = some (cluster, tr, piece) →
    let on := p.incoming.onward (offsetIn region cluster) (tr % 256)
    ((∀ e, e ∈ on → (s.core (8 * cluster + e.2.2)).act = none) → ∃ t q, exec (.imageBlock region cluster i) s = .next t ∧
      Claims.holds t region q ∧ q.blocks = dropAt p.blocks i ++ on.map (fun e => (region + e.2.1, tr, piece)) ∧ q.phase = p.phase ∧
      (p.phase = .loading → t.mem = (s.keepBlock p.image region cluster (tr / 256) (tr % 256) piece).mem ∧
        t.clusters = (s.keepBlock p.image region cluster (tr / 256) (tr % 256) piece).clusters) ∧
      (p.phase = .staging → t.mem = s.mem ∧ t.clusters = s.clusters) ∧ t.cores = s.cores) ∧
    ((∃ e, e ∈ on ∧ (s.core (8 * cluster + e.2.2)).act ≠ none) → exec (.imageBlock region cluster i) s = .next s)

/-- R31 (01), R211 (08): the last core that reports loaded sends the start items; the last that acknowledges makes the live point, of a
load or of a replacement, at which the queues open and cut mode ends. -/
def Sys2Proof.Claims.LiveComes : Prop :=
  ∀ (s : State) (core org : Nat) (p : Program), s.progOf core = some (org, p) → s.awakeAt core = true →
    (p.phase = .loading → (s.core core).reported = false → p.waitsBlock org (clusterOf core) = false →
      ∃ t, exec (.loadedReport core) s = .next t ∧ (t.core core).reported = true ∧ t.mem = s.mem ∧ t.queues = s.queues ∧
        ((∀ c, c ∈ p.cores org → c ≠ core → (s.core c).reported = true) → Claims.holds t org { p with phase := .starting }) ∧
        ((∃ c, c ∈ p.cores org ∧ c ≠ core ∧ (s.core c).reported = false) → t.progs = s.progs)) ∧
    ((p.phase = .starting ∨ p.phase = .committing) → (s.core core).acked = false → core ∈ p.cores org →
      ((∃ c, c ∈ p.cores org ∧ c ≠ core ∧ (s.core c).acked = false) → ∃ t, exec (.startAck core) s = .next t ∧
        (t.core core).acked = true ∧ t.progs = s.progs ∧ t.queues = s.queues) ∧
      ((∀ c, c ∈ p.cores org → c ≠ core → (s.core c).acked = true) → ∃ t q, exec (.startAck core) s = .next t ∧
        Claims.holds t org q ∧ q.phase = .live ∧ q.image = p.image ∧
        (∀ c, c ∈ p.cores org → (t.core c).ywoob = 0 ∧ (t.core c).cut = false) ∧
        (∀ n k, mget t.queues n = some k → k.region = some org → k.isOpen = true) ∧
        t.outbox = s.outbox ++ [.status (if p.phase = .committing then 1 else 0) org 0 p.image.id] ∧ t.mem = s.mem))

/-- R397 (17), R30 (01), R211 (08): a program that is unloaded, or whose load is aborted, is gone: its cores are as after reset, its
clusters belong to no region and have a new generation, its queues do not exist. -/
def Sys2Proof.Claims.ProgramEnds : Prop :=
  ∀ (s : State) (org : Nat) (p : Program), Claims.holds s org p →
    let ended (t : State) : Prop := mget t.progs org = none ∧ (∀ c, c ∈ p.cores org → t.core c = Core.reset) ∧
      (∀ k, k ∈ p.clusters org → (t.cl k).region = none ∧ (t.cl k).gen = s.newGen ∧ (t.cl k).acts = []) ∧
      (∀ n q, (n, q) ∈ t.queues → q.region ≠ some org) ∧ t.mem = s.mem
    (∃ t, exec (.unloadRequest org) s = .next t ∧ ended t ∧ t.outbox = s.outbox ++ [.status 2 org 0 p.image.id]) ∧
    ((p.phase = .loading ∨ p.phase = .starting ∨ p.phase = .committing) → ∃ t, exec (.loadAborted org) s = .next t ∧ ended t ∧
      t.outbox = s.outbox ++ [.status (if p.phase = .committing then 1 else 0) org 10 p.image.id]) ∧
    ((p.phase = .live ∨ p.phase = .staging ∨ p.phase = .cutting) → exec (.loadAborted org) s = .next s)

/-- R26-R32 (01), R397, R416 (17, 18): loading a program, its live point and its end. -/
def Obligations.Loading : Prop :=
  Claims.LoadRefused ∧ Claims.LoadBegins ∧ Claims.BlockMoves ∧ Claims.LiveComes ∧ Claims.ProgramEnds

/-- R203, R204 (08): a replacement that a check refuses is answered with its status; one that passes is staged, with a timeout of 2^26
clk where it names none; the last staged report begins the cut on every core of the region in one clk. -/
def Sys2Proof.Claims.ReplacementStages : Prop :=
  ∀ (s : State) (r : LoadReq) (p : Program),
    let org := 32 * r.row0 + r.col0
    Claims.holds s org p →
    (∀ st, s.replaceStatus r = st → st ≠ 0 → exec (.replacementRequest r) s =
      .next { s with outbox := s.outbox ++ [.status 1 org st (wordAt r.words 6)] }) ∧
    (s.replaceStatus r = 0 → ∃ t q, exec (.replacementRequest r) s = .next t ∧ Claims.holds t org q ∧ q.phase = .staging ∧
      q.next = some (imageOf r.words) ∧ q.image = p.image ∧ q.timeout = (if r.timeout = 0 then 2 ^ 26 else r.timeout) ∧
      (∀ c, c ∈ p.cores org → (t.core c).reported = false) ∧ t.mem = s.mem ∧ t.queues = s.queues) ∧
    (∀ core, s.progOf core = some (org, p) → s.awakeAt core = true → p.phase = .staging → (s.core core).reported = false →
      p.waitsBlock org (clusterOf core) = false →
      ((∃ c, c ∈ p.cores org ∧ c ≠ core ∧ (s.core c).reported = false) → ∃ t, exec (.stagedReport core) s = .next t ∧
        (t.core core).reported = true ∧ t.progs = s.progs ∧ t.queues = s.queues) ∧
      ((∀ c, c ∈ p.cores org → c ≠ core → (s.core c).reported = true) → ∃ t q, exec (.stagedReport core) s = .next t ∧
        Claims.holds t org q ∧ q.phase = .cutting ∧ q.cutAt = s.clk ∧ (∀ c, c ∈ p.cores org → (t.core c).cut = true) ∧
        (∀ c, c ∈ p.cores org → ∃ k, (t.core c).cutState = some k ∧ k.acts = 0 ∧ k.reported = false)))

/-- R207, R208 (08): a marker at an input's head counts; one that leaves others awaited is removed, and the one that completes the count
stays. -/
def Sys2Proof.Claims.MarkersCount : Prop :=
  ∀ (s : State) (core q : Nat) (k : Cut) (i : CutInput), s.awakeAt core = true → (s.core core).cutState = some k →
    k.inputs.find? (fun i => decide (i.queue = q)) = some i →
    (i.awaited ≤ i.seen → exec (.markerAtHead core q) s = .next s) ∧
    (s.markedFor q core = false → exec (.markerAtHead core q) s = .next s) ∧
    (i.seen < i.awaited → s.markedFor q core = true → ∃ t u, exec (.markerAtHead core q) s = .next t ∧
      (t.core core).cutState = some u ∧ u.inputs = k.inputs.map (fun x => if x.queue = q then { x with seen := i.seen + 1 } else x) ∧
      (i.seen + 1 < i.awaited → t.queues = (s.popFor q core).queues) ∧ (i.awaited ≤ i.seen + 1 → t.queues = s.queues) ∧
      t.mem = s.mem)

/-- R209-R211 (08): a core whose inputs are cut, which runs nothing and has nothing in flight, pushes its marker onto each queue of its
cut output set, one after the other, each once it holds a credit, and then reports its cut, once; the last report commits the new
image: every core takes its new role, with no template armed, and every cluster's barriers are 0. -/
def Sys2Proof.Claims.CutReports : Prop :=
  ∀ (s : State) (core org : Nat) (p : Program) (k : Cut), s.progOf core = some (org, p) → (s.core core).cutState = some k →
    s.awakeAt core = true → p.phase = .cutting →
    (k.reported = true → exec (.cutReport core) s = .next s) ∧
    ((∃ i, i ∈ k.inputs ∧ i.seen < i.awaited) → exec (.cutReport core) s = .next s) ∧
    (s.cutQuiet core = false → exec (.cutReport core) s = .next s) ∧
    (s.cutDrained core = false → exec (.cutReport core) s = .next s) ∧
    (k.reported = false → (∀ i, i ∈ k.inputs → i.awaited ≤ i.seen) → s.cutQuiet core = true → s.cutDrained core = true →
      let words := cutWords p.image.id core k.inputs.length k.markers k.acts
      (∀ q qu rest, k.toMark = q :: rest → mget s.queues q = some qu →
        ((s.inRegion org qu = false ∨ qu.markable core = true) → ∃ t, exec (.cutReport core) s = .next t ∧
          (t.core core).cutState = some { k with
            done := k.done ++ [q], markers := k.markers + (if s.inRegion org qu then 1 else 0) } ∧
          t.queues = (s.pushElem (Party.router (.core core 0)) q (s.cutMark org (qu.partyOf core))).queues ∧ t.outbox = s.outbox ∧
          t.progs = s.progs ∧ t.mem = s.mem) ∧
        (s.inRegion org qu = true → qu.markable core = false → exec (.cutReport core) s = .next s)) ∧
      (k.toMark = [] → ((∃ c, c ∈ p.cores org ∧ c ≠ core ∧ (s.core c).cutDone = false) → ∃ t, exec (.cutReport core) s = .next t ∧
        (t.core core).cutDone = true ∧ t.outbox = s.outbox ++ [.cutReport words] ∧ t.progs = s.progs ∧ t.mem = s.mem) ∧
      (∀ m, p.next = some m → (∀ c, c ∈ p.cores org → c ≠ core → (s.core c).cutDone = true) →
        ∃ t q, exec (.cutReport core) s = .next t ∧ Claims.holds t org q ∧ q.phase = .committing ∧ q.image = m ∧
          (∀ c, c ∈ p.cores org → (t.core c).role = (m.roleAt (offsetIn org (clusterOf c)) (c % 8)).map (fun x => (x.num, org)) ∧
            (t.core c).templates = [] ∧ (t.core c).sel = 0) ∧
          (∀ n, n ∈ p.clusters org → (t.cl n).bars = []) ∧ t.outbox = s.outbox ++ [.cutReport words])))

/-- R212-R214 (08): a cut whose timeout has passed, or that the requester cancels, ends as if it had not begun: every core leaves cut
mode, no marker of the cut is left in any queue, and every other element stays; the status is 13; a stray marker at a head is removed.
That an abort removes the markers behind the heads too is the own reading of the model (log 45). -/
def Sys2Proof.Claims.CutEnds : Prop :=
  ∀ (s : State) (org : Nat) (p : Program), Claims.holds s org p →
    let ended (t : State) : Prop := (∃ q, Claims.holds t org q ∧ q.phase = .live ∧ q.image = p.image ∧ q.next = none) ∧
      (∀ c, c ∈ p.cores org → (t.core c).cut = false ∧ (t.core c).cutState = none) ∧
      (∀ n k, mget s.queues n = some k → ∃ k', mget t.queues n = some k' ∧ k'.branches = k.branches.map (fun b =>
        { b with store := b.store.filter (fun e => !(e.marker && decide (e.cut = some org))) })) ∧
      t.outbox = s.outbox ++ [.status 1 org 13 ((p.next.map (fun m => m.id)).getD 0)] ∧ t.mem = s.mem
    (p.phase = .cutting → p.cutAt + p.timeout ≤ s.clk → (s.cl org).frozen = false → ∃ t, exec (.cutTimeout org) s = .next t ∧ ended t) ∧
    ((p.phase ≠ .cutting ∨ s.clk < p.cutAt + p.timeout ∨ (s.cl org).frozen = true) → exec (.cutTimeout org) s = .next s) ∧
    ((p.phase = .cutting ∨ p.phase = .staging) → ∃ t, exec (.cutCancel org) s = .next t ∧ ended t) ∧
    (p.phase ≠ .cutting → p.phase ≠ .staging → exec (.cutCancel org) s = .next s) ∧
    (∀ q b qu br e rest, mget s.queues q = some qu → qu.merge = false → qu.branches[b]? = some br → br.store = e :: rest →
      ∃ t k nb, exec (.markerRemoval q b) s = .next t ∧ mget t.queues q = some k ∧ k.branches[b]? = some nb ∧
        nb.store = (if e.marker then rest else e :: rest) ∧ t.cores = s.cores) ∧
    (∀ q b qu, mget s.queues q = some qu → qu.merge = true → ∃ t k, exec (.markerRemoval q b) s = .next t ∧
      mget t.queues q = some k ∧ k.subs = qu.subs.map (fun l => if (l.head?.map (fun e => e.marker)) = some true then l.drop 1 else l) ∧
      k.branches = qu.branches ∧ t.cores = s.cores)

/-- R203-R214 (08): replacing a program under a cut. -/
def Obligations.Replacement : Prop :=
  Claims.ReplacementStages ∧ Claims.MarkersCount ∧ Claims.CutReports ∧ Claims.CutEnds

/-! ### The fault service -/

/-- R381, R382 (17): a core that met its fault with results pending waits for them, then writes the frame for 76 clk. When it is written
the core is free, and the bytes of the entry's slot hold x1-x23, the address to go on at, the flags, the masks and the vector registers;
no other byte of memory changes. -/
def Sys2Proof.Claims.FrameWritten : Prop :=
  ∀ (s : State) (core e done n : Nat) (a : Act), s.awakeAt core = true → (s.core core).mode = .saving e done →
    (s.core core).act = some n → s.act? (clusterOf core) n = some a →
    let cl := clusterOf core
    let base := sliceKey cl ((s.cl cl).faultStack + 4864 * e)
    let r := ((s.cl cl).entry e).raise
    (done = 0 → (s.core core).settled = true →
      exec (.faultFrameWritten core) s = .next (s.modCore core (fun k => { k with mode := .saving e (s.clk + 76) }))) ∧
    (done = 0 → (s.core core).settled = false → exec (.faultFrameWritten core) s = .next s) ∧
    (s.clk < done → exec (.faultFrameWritten core) s = .next s) ∧
    (0 < done → done ≤ s.clk → s.memOk → ∃ t b f, exec (.faultFrameWritten core) s = .next t ∧ t.act? cl n = some b ∧
      b.place = .faultSaved core e ∧ b.frame = some f ∧ f.fault = true ∧ f.slot = e ∧ (t.core core).mode = .idle ∧
      (t.core core).act = none ∧ ((t.cl cl).entry e).written = true ∧ f.h = (s.core core).h ∧ f.a = (s.core core).a ∧
      (∀ i, 1 ≤ i → i < 24 → t.framePart cl f (8 * (i - 1)) 8 = ((s.core core).getX i).toNat) ∧
      t.framePart cl f 0x0b8 8 = (if r.cause = .breakpoint then r.info else r.pc).toNat ∧
      t.framePart cl f 0x0c8 8 = (s.core core).yflags.toNat ∧
      (∀ i, 1 ≤ i → i < 8 → t.framePart cl f (0x280 + 16 * (i - 1)) 16 = ((s.core core).getM i).toNat) ∧
      (∀ i, i < 32 → t.framePart cl f (0x300 + 128 * i) 128 = ((s.core core).getV i).toNat) ∧
      (∀ key, (key < base ∨ base + 4864 ≤ key) → memGet t.mem key = memGet s.mem key))

/-- R384 (17): an Action with another ticket does nothing; with the entry's own ticket it resumes an activation held in place at the
faulting pair, or past it, or ends it, and frees the entry. One that is resumed past its pair owes nothing of it; a breakpoint's goes on
past its pair in both cases. -/
def Sys2Proof.Claims.ActionsInPlace : Prop :=
  ∀ (s : State) (cl e ticket : Nat),
    let f := (s.cl cl).entry e
    let bp := f.raise.cause = .breakpoint
    let k := s.core f.core
    (f.ticket ≠ ticket → exec (.resume cl e ticket) s = .next s ∧ exec (.resumePast cl e ticket) s = .next s ∧
      exec (.endTheActivation cl e ticket) s = .next s ∧ exec (.endTheProgram cl e ticket) s = .next s) ∧
    (f.ticket = ticket → f.valid = true → f.inPlace = true → (s.cl cl).frozen = false →
      let left (t : State) : Prop := ((t.cl cl).entry e).valid = false ∧ ((t.cl cl).entry e).ticket = f.ticket ∧ t.mem = s.mem ∧
        ∀ c, c ≠ f.core → t.core c = s.core c
      (∃ t, exec (.resume cl e ticket) s = .next t ∧ left t ∧
        t.core f.core = { k with mode := .running, pc := if bp then f.raise.info else f.raise.pc }) ∧
      (¬bp → ∃ t, exec (.resumePast cl e ticket) s = .next t ∧ left t ∧ t.core f.core = { k with
        mode := .running, pc := f.raise.pc + (if f.raise.pair then 8 else 4), barArrived := false, owed := none }) ∧
      (bp → ∃ t, exec (.resumePast cl e ticket) s = .next t ∧ left t ∧
        t.core f.core = { k with mode := .running, pc := f.raise.info }) ∧
      (∀ a, s.act? cl f.act = some a → clusterOf f.core = cl → a.parent = none → k.portPending = false →
        ∃ t, exec (.endTheActivation cl e ticket) s = .next t ∧ left t ∧ t.act? cl f.act = none ∧ (t.core f.core).mode = .idle ∧
          (t.core f.core).act = none))

/-- R384 (17): a saved activation that is resumed joins its core's run queue with its frame's pc at the address to go on at; one that is
ended is gone; ending the program ends it all. An Action waits for the frame, and for room in the run queue.
That it waits for room is the own reading of the model (log 47). -/
def Sys2Proof.Claims.ActionsSaved : Prop :=
  ∀ (s : State) (cl e : Nat) (a : Act) (g : Frame),
    let f := (s.cl cl).entry e
    let bp := f.raise.cause = .breakpoint
    f.valid = true → f.inPlace = false → (s.cl cl).frozen = false → s.act? cl f.act = some a → a.frame = some g →
    g.fault = true → g.bytes = [] →
    (∀ i pc action, ((i = .resume cl e f.ticket ∧ action = 1 ∧ pc = if bp then f.raise.info else f.raise.pc) ∨
      (i = .resumePast cl e f.ticket ∧ action = 2 ∧ pc = if bp then f.raise.info else f.raise.pc + (if f.raise.pair then 8 else 4))) →
      (f.written = true → (s.core f.core).runq.length < 64 → s.memOk → ∃ t b x g', exec i s = .next t ∧ t.act? cl f.act = some b ∧
        b.place = .queued f.core ∧ b.frame = some g' ∧ t.framePart cl g' 0x0b8 8 = pc.toNat ∧
        (∀ off, off < 4864 → (off < 0x0b8 ∨ 0x0c0 ≤ off) → t.framePart cl g' off 1 = s.framePart cl g off 1) ∧ g'.h = g.h ∧
        (t.core f.core).runq = (s.core f.core).runq ++ [x] ∧ x.kind = .cont f.act ∧ x.base = a.base ∧
        ((t.cl cl).entry e).valid = false) ∧
      ((f.written = false ∨ 64 ≤ (s.core f.core).runq.length) → ∃ t, exec i s = .next t ∧ ((t.cl cl).entry e).after = action ∧
        ((t.cl cl).entry e).valid = true ∧ t.cores = s.cores ∧ t.mem = s.mem)) ∧
    (f.written = true → a.parent = none → ∃ t, exec (.endTheActivation cl e f.ticket) s = .next t ∧ t.act? cl f.act = none ∧
      ((t.cl cl).entry e).valid = false ∧ t.cores = s.cores ∧ t.mem = s.mem) ∧
    (∀ org p, f.written = true → (s.cl cl).region = some org → Claims.holds s org p →
      ∃ t, exec (.endTheProgram cl e f.ticket) s = .next t ∧ mget t.progs org = none ∧ ∀ c, c ∈ p.cores org → t.core c = Core.reset)

/-- R382, R383 (17): a freed entry goes to the activation that has held in place longest. -/
def Sys2Proof.Claims.EntryHandedOver : Prop :=
  ∀ (s : State) (cl c e since : Nat) (r : Raise), (s.cl cl).frozen = false → s.waitingAction cl = none →
    s.longestHeld cl = some (c, r, since) → (s.cl cl).freeEntry = some e → clusterOf c = cl →
    ∃ t, exec (.faultEntryHandover cl) s = .next t ∧ ((t.cl cl).entry e).valid = true ∧ ((t.cl cl).entry e).core = c ∧
      ((t.cl cl).entry e).raise = r ∧ ((t.cl cl).entry e).ticket = (((s.cl cl).entry e).ticket + 1) % 256 ∧
      ((t.core c).mode = .inPlace e ∨ ∃ d, (t.core c).mode = .saving e d) ∧ t.mem = s.mem

/-- R381-R385 (17): parked activations and the Actions of the fault service. -/
def Obligations.FaultService : Prop :=
  Claims.FrameWritten ∧ Claims.ActionsInPlace ∧ Claims.ActionsSaved ∧ Claims.EntryHandedOver

/-! ### Freezes and gating -/

/-- The layout of a freeze register's value (17 R390): origin, rows and columns of a value that keeps it. -/
def Sys2Proof.Claims.freezeFields (v : Word) (org rows cols : Nat) : Prop :=
  v.toNat % 2 ^ 16 = org ∧ org < 1024 ∧ v.toNat / 2 ^ 16 % 2 ^ 8 = cols ∧ v.toNat / 2 ^ 24 % 2 ^ 8 = rows ∧
    v.toNat / 2 ^ 32 % 2 ^ 31 = 0 ∧ 1 ≤ rows ∧ rows ≤ 32 ∧ 1 ≤ cols ∧ cols ≤ 32

/-- R390 (17): a freeze that names a program's region of the partition, and finds none in progress (log 27), sets out a wave; a value that
breaks the layout does nothing, nor does one that names no program. -/
def Sys2Proof.Claims.FreezeSetsOut : Prop :=
  ∀ (s : State) (part org rows cols : Nat) (v : Word),
    (∀ p, Claims.freezeFields v org rows cols → v.getLsbD 63 = true → Claims.holds s org p → p.part = part →
      p.image.rows = rows → p.image.cols = cols → mget s.freezes part = none →
      exec (.freeze part v) s = .next { s with freezes := mset s.freezes part ⟨v, s.clk, false, false⟩ }) ∧
    ((¬ ∃ o r c, Claims.freezeFields v o r c) → exec (.freeze part v) s = .next s ∧ exec (.restore part v) s = .next s) ∧
    (Claims.freezeFields v org rows cols → mget s.progs org = none → exec (.freeze part v) s = .next s)

/-- R390 (17): the wave reaches a cluster 2 clk, and 2 clk a hop, after the origin, and stops it there: its cores keep their registers,
their run queues and what runs. A gated cluster wakes first (R399).
The first 2 clk are the own reading of the model (log 48). -/
def Sys2Proof.Claims.WaveArrives : Prop :=
  ∀ (s : State) (part org rows cols r c : Nat) (f : Freeze), mget s.freezes part = some f →
    Claims.freezeFields f.value org rows cols → org % 32 + cols ≤ 32 → r < rows → c < cols →
    let k := org + 32 * r + c
    let due := f.startAt + 2 + 2 * (r + c)
    (s.clk < due → exec (.freezeWaveArrival part k) s = .next s) ∧
    ((s.cl k).frozen = true → exec (.freezeWaveArrival part k) s = .next s) ∧
    (due ≤ s.clk → (s.cl k).frozen = false → (s.cl k).power = .running →
      ∃ t, exec (.freezeWaveArrival part k) s = .next t ∧ t.cl k = { s.cl k with frozen := true } ∧
        (∀ j, j ≠ k → t.cl j = s.cl j) ∧ (∀ n, clusterOf n ≠ k → t.core n = s.core n) ∧
        (∀ n, (t.core n).x = (s.core n).x ∧ (t.core n).v = (s.core n).v ∧ (t.core n).pc = (s.core n).pc ∧
          (t.core n).mode = (s.core n).mode ∧ (t.core n).act = (s.core n).act ∧ (t.core n).runq = (s.core n).runq ∧
          (t.core n).ports = (s.core n).ports ∧ (t.core n).k = (s.core n).k) ∧
        t.mem = s.mem ∧ t.queues = s.queues) ∧
    (due ≤ s.clk → (s.cl k).frozen = false → (s.cl k).power = .powerGated →
      exec (.freezeWaveArrival part k) s = .next (s.modCl k (fun x => { x with power := .waking (s.clk + 16384) })))

/-- R391, R392 (17): the wave has drained once every cluster is frozen and nothing of the region is outstanding outside; then the image is
read out: each core and cluster by its offset, the program and its spans. -/
def Sys2Proof.Claims.DrainAndReadout : Prop :=
  ∀ (s : State) (part org rows cols : Nat) (f : Freeze), mget s.freezes part = some f →
    Claims.freezeFields f.value org rows cols → org % 32 + cols ≤ 32 →
    (f.drained = false → s.regionDrained f.value = true →
      exec (.drainComplete part) s = .next { s with freezes := mset s.freezes part { f with drained := true } }) ∧
    (∀ r c, r < rows → c < cols → (s.cl (org + 32 * r + c)).frozen = false → exec (.drainComplete part) s = .next s) ∧
    (∀ r c j o, r < rows → c < cols → j < 8 → o ∈ (s.core (8 * (org + 32 * r + c) + j)).mem →
      exec (.drainComplete part) s = .next s) ∧
    (f.drained = false → exec (.imageReadout part) s = .next s) ∧
    (f.drained = true → f.read = false → ∃ t i, exec (.imageReadout part) s = .next t ∧ mget t.images part = some i ∧
      i.origin = org ∧ i.rows = rows ∧ i.cols = cols ∧ i.part = part ∧ i.prog = mget s.progs org ∧
      (∀ r c, r < rows → c < cols → mget i.clusters (32 * r + c) = some (s.cl (org + 32 * r + c)) ∧
        ∀ j, j < 8 → mget i.cores (8 * (32 * r + c) + j) = some (s.core (8 * (org + 32 * r + c) + j))) ∧
      mget t.freezes part = some { f with read := true } ∧ t.mem = s.mem ∧ t.cores = s.cores ∧ t.clusters = s.clusters)

/-- R393, R394 (17): a restore of a region at an origin of its shape: every cluster there holds what the same offset of the region held, with
its generation, no translation cached, and every core its registers; its stores hold the region's bytes. A cluster of the old region
that is none of the new one is released with another generation.
What moves and what stays is the own reading of the model (log 16). -/
def Sys2Proof.Claims.RestoreMoves : Prop :=
  ∀ (s : State) (part org new rows cols : Nat) (v : Word) (f : Freeze) (i : FrozenImage), Memory.wf s.mem = true →
    mget s.images part = some i → mget s.freezes part = some f → Claims.freezeFields f.value org rows cols → org % 32 + cols ≤ 32 →
    i.origin = org → i.rows = rows → i.cols = cols →
    v.getLsbD 63 = false → Claims.freezeFields v new rows cols → s.mayRestore part v i = true →
    ∃ t, exec (.restore part v) s = .next t ∧ mget t.freezes part = none ∧ mget t.images part = none ∧
      (∀ r c, r < rows → c < cols →
        let k := org + 32 * r + c
        let n := new + 32 * r + c
        (t.cl n).region = some new ∧ (t.cl n).row0 = new / 32 ∧ (t.cl n).col0 = new % 32 ∧ (t.cl n).gen = (s.cl k).gen ∧
          (t.cl n).frozen = false ∧ (t.cl n).tlb = [] ∧ (t.cl n).tiles = (s.cl k).tiles ∧ (t.cl n).acc = (s.cl k).acc ∧
          (∀ a, a < 2 ^ 20 → memGet t.mem (sliceKey n a) = memGet s.mem (sliceKey k a)) ∧
          (∀ j, j < 8 → (t.core (8 * n + j)).x = (s.core (8 * k + j)).x ∧ (t.core (8 * n + j)).v = (s.core (8 * k + j)).v ∧
            (t.core (8 * n + j)).pc = (s.core (8 * k + j)).pc ∧ (t.core (8 * n + j)).mode = (s.core (8 * k + j)).mode ∧
            (t.core (8 * n + j)).runq = (s.core (8 * k + j)).runq ∧ (t.core (8 * n + j)).k = (s.core (8 * k + j)).k ∧
            (∀ a, a < 65536 → memGet t.mem (localKey (8 * n + j) a) = memGet s.mem (localKey (8 * k + j) a))) ∧
          ((∀ r' c', r' < rows → c' < cols → k ≠ new + 32 * r' + c') → (t.cl k).region = none ∧ (t.cl k).acts = [] ∧
            ∀ j, j < 8 → t.core (8 * k + j) = Core.reset))

/-- R390-R394 (17): freezing a region and restoring it. -/
def Obligations.FreezeAndRestore : Prop :=
  Claims.FreezeSetsOut ∧ Claims.WaveArrives ∧ Claims.DrainAndReadout ∧ Claims.RestoreMoves

/-- R398 (17): a gating request takes effect when the cluster is idle, and only then; work wakes it, after 64 clk from clock gating and
16,384 clk from power gating. A request to run ends gating (log 28). -/
def Sys2Proof.Claims.Gating : Prop :=
  ∀ (s : State) (k : Nat),
    exec (.clockGate k) s = .next (s.modCl k (fun c => { c with request := 1 })) ∧
    exec (.powerGate k) s = .next (s.modCl k (fun c => { c with request := 2 })) ∧
    ((s.cl k).power = .running → exec (.runReq k) s = .next (s.modCl k (fun c => { c with request := 0 }))) ∧
    ((s.cl k).power = .clockGated → ∃ t, exec (.runReq k) s = .next t ∧
      t.cl k = { s.cl k with request := 0, power := .waking (s.clk + 64) } ∧ t.cores = s.cores ∧ t.mem = s.mem) ∧
    ((s.cl k).power = .powerGated → ∃ t, exec (.runReq k) s = .next t ∧
      t.cl k = { s.cl k with request := 0, power := .waking (s.clk + 16384) } ∧ t.cores = s.cores ∧ t.mem = s.mem) ∧
    ((s.cl k).power = .running → (s.cl k).frozen = false → s.clusterIdle k = true →
      ((s.cl k).request = 1 → exec (.gatingTakesEffect k) s = .next (s.modCl k (fun c => { c with power := .clockGated }))) ∧
      ((s.cl k).request = 2 → exec (.gatingTakesEffect k) s = .next (s.modCl k (fun c => { c with power := .powerGated })))) ∧
    ((s.cl k).request = 0 → exec (.gatingTakesEffect k) s = .next s) ∧
    (∀ j, j < 8 → (s.core (8 * k + j)).act ≠ none ∨ (s.core (8 * k + j)).runq ≠ [] ∨ (s.core (8 * k + j)).tokensClear = false ∨
      (s.core (8 * k + j)).copies ≠ [] → exec (.gatingTakesEffect k) s = .next s) ∧
    ((s.cl k).crew ≠ none → exec (.gatingTakesEffect k) s = .next s) ∧
    (∀ done, (s.cl k).power = .waking done →
      (done ≤ s.clk → exec (.wakeComplete k) s = .next (s.modCl k (fun c => { c with power := .running }))) ∧
      (s.clk < done → exec (.wakeComplete k) s = .next s))

/-- R400 (17): the firmware of a service is replaced behind a marker: pushed first, and once it stands at the head it is removed, and the
new version serves. -/
def Sys2Proof.Claims.FirmwareReplaced : Prop :=
  ∀ (s : State) (q version : Nat) (qu : Queue), mget s.queues q = some qu →
    (qu.hasMarker = false → exec (.serviceFirmwareReplace q version) s = .next (s.push q .service [] true)) ∧
    (∀ b rest e rs, qu.merge = false → qu.branches = b :: rest → b.store = e :: rs → e.marker = true → e.released = true →
      ∃ t k nb, exec (.serviceFirmwareReplace q version) s = .next t ∧ mget t.services q = some version ∧
        mget t.queues q = some k ∧ k.branches.head? = some nb ∧ nb.store = rs ∧ t.cores = s.cores ∧ t.mem = s.mem) ∧
    (∀ b rest e rs, qu.merge = false → qu.hasMarker = true → qu.branches = b :: rest → b.store = e :: rs → e.marker = false →
      exec (.serviceFirmwareReplace q version) s = .next s)

/-- R398-R400 (17): gated clusters, and the replacement of a service. -/
def Obligations.GatingAndFirmware : Prop := Claims.Gating ∧ Claims.FirmwareReplaced

/-! ### The chip in its system -/

/-- R352 (15), R409 (18): a reset makes the chip new, but for the incarnation, which rises by 1 modulo 256, and what outlives it: the keys and
far memory; every transaction outstanding at a host port is left to complete with status 4.
What outlives a reset is the own reading of the model (log 58). -/
def Sys2Proof.Claims.ChipResets : Prop :=
  ∀ s : State, ∃ t, exec .chipReset s = .next t ∧ t.inc = s.inc + 1 ∧ t.chip = s.chip ∧ t.keys = s.keys ∧ t.far = s.far ∧
    t.mem = State.reset.mem ∧ (∀ c, t.core c = Core.reset) ∧ (∀ k, t.cl k = Cluster.reset) ∧ t.queues = [] ∧ t.parts = [] ∧
    t.progs = [] ∧ t.tensors = [] ∧ t.comms = [] ∧ t.engines = [] ∧ t.journal = Journal.reset ∧ t.ready = 0 ∧ t.cap = 1900 ∧
    t.islands = [] ∧ t.turns = [] ∧
    (∀ p h, mget s.hosts p = some h → ∃ g, mget t.hosts p = some g ∧ g.clients = [] ∧ g.waiting = [] ∧
      ∀ x, (x ∈ h.waiting ∨ x ∈ h.pushed.map (fun y => y.1)) → x ∈ g.aborted)

/-- R412 (18): the ROM verifies the boot firmware against the fused key and Lemnani's against an active key of the store; a failure leaves the
chip in recovery, where nothing is ready. Staged firmware is the boot firmware in recovery (R417). -/
def Sys2Proof.Claims.Boots : Prop :=
  ∀ (s : State) (flash lemnani sig lsig : List Byte) (slot : Nat),
    let image := if s.recovery then s.staged else flash
    let k := mgetD s.keys slot KeySlot.empty
    let fine := Config.mldsaVerify Config.bootKey (Config.sha3 image) sig = true ∧ slot < 32 ∧ k.state = 1 ∧
      Config.mldsaVerify k.key (Config.sha3 lemnani) lsig = true
    (fine → exec (.secureBoot flash lemnani sig lsig slot) s =
      .next { s with firmware := image, lemnani := lemnani, recovery := false, ready := s.ready ||| 1 }) ∧
    (¬ fine → exec (.secureBoot flash lemnani sig lsig slot) s = .next { s with recovery := true, ready := 0 }) ∧
    exec (.bootFirmwareLoad flash) s = .next { s with staged := flash }

/-- R412 (18): slot 0 is written once; a key is added to an empty slot, or an active one revoked, when the owner key signed it; a revoked slot
stays revoked. -/
def Sys2Proof.Claims.KeysChange : Prop :=
  ∀ (s : State) (slot id : Nat) (key sig : List Byte) (revoke : Bool),
    let k := mgetD s.keys slot KeySlot.empty
    let owner := mgetD s.keys 0 KeySlot.empty
    let signed := owner.state = 1 ∧ Config.mldsaVerify owner.key (Config.sha3 (Config.keyChange slot id key revoke)) sig = true
    (slot = 0 → k.state = 0 → key.length = 1952 → exec (.keyStoreChange slot id key false sig) s =
      .next { s with keys := mset s.keys slot ⟨1, id, key⟩ }) ∧
    (slot < 32 → k.state = 0 → key.length = 1952 → signed → revoke = false → exec (.keyStoreChange slot id key revoke sig) s =
      .next { s with keys := mset s.keys slot ⟨1, id, key⟩ }) ∧
    (slot < 32 → k.state = 1 → signed → revoke = true → exec (.keyStoreChange slot id key revoke sig) s =
      .next { s with keys := mset s.keys slot { k with state := 2 } }) ∧
    (k.state = 2 → exec (.keyStoreChange slot id key revoke sig) s = .next s) ∧
    (slot ≠ 0 → ¬ signed → exec (.keyStoreChange slot id key revoke sig) s = .next s)

/-- R413 (18): an attestation report is signed by the device key, and begins with the magic, version 1, the chip and its incarnation, the
nonce, and the digests of the two firmwares and of the key store; in recovery none is given (R412). -/
def Sys2Proof.Claims.Attests : Prop :=
  ∀ (s : State) (part : Option Nat) (nonce : List Byte),
    (s.recovery = false → nonce.length = 32 → ∃ body rest t, exec (.attestationReport part nonce) s = .next t ∧
      t = { s with outbox := s.outbox ++ [.bytes (body ++ Config.deviceSign body)] } ∧
      body = [0x47, 0x54, 0x52, 0x01, 1, 0, 0, 0] ++ leBytes 8 (s.chip.toNat + 2 ^ 16 * s.inc.toNat) ++ nonce ++
        Config.sha3 s.firmware ++ Config.sha3 s.lemnani ++ Config.sha3 s.keyBytes ++
        leBytes 8 ((s.progs.filter (fun (p : Nat × Program) => decide (part = none ∨ part = some p.2.part))).length) ++ rest) ∧
    (s.recovery = true → exec (.attestationReport part nonce) s = .next s)

/-- R416 (18): a function's ready bit sets; bits 0 and 31 are no function's own, and in recovery none sets (R412). -/
def Sys2Proof.Claims.ReadyBits : Prop :=
  ∀ (s : State) (bit : Nat),
    (bit < 64 → bit ≠ 0 → bit ≠ 31 → s.recovery = false →
      exec (.readyBitSet bit) s = .next { s with ready := s.ready ||| (1 <<< bit) }) ∧
    (bit = 0 ∨ bit = 31 ∨ s.recovery = true → exec (.readyBitSet bit) s = .next s)

/-- R352 (15), R409, R412, R413, R416, R417 (18): reset, boot, keys, attestation and readiness. -/
def Obligations.BringUp : Prop :=
  Claims.ChipResets ∧ Claims.Boots ∧ Claims.KeysChange ∧ Claims.Attests ∧ Claims.ReadyBits

/-- R415 (18): the governor raises the floor of the hottest row above the cap, and lowers the highest floor of a row below 95 % of it; an
island's point is the higher of its request and its floor; a cap above 1,900 is read as 1,900, and the lower of the two caps holds. -/
def Sys2Proof.Claims.Governor : Prop :=
  ∀ (s : State) (power hottest island value : Nat),
    let floor n := (mgetD s.islands n Island.reset).floor_
    let cap := min (min s.cap s.boardCap) 1900
    (cap < power → hottest < 32 → ∃ t, exec (.governorWindow power hottest) s = .next t ∧ t.power = power % 65536 ∧
      (mgetD t.islands hottest Island.reset).floor_ = min (floor hottest + 1) 5 ∧ t.cores = s.cores ∧ t.mem = s.mem ∧
      ∀ n, n ≠ hottest → mgetD t.islands n Island.reset = mgetD s.islands n Island.reset) ∧
    (power ≤ cap → 95 * cap ≤ 100 * power → exec (.governorWindow power hottest) s = .next { s with power := power % 65536 }) ∧
    (∀ m, 100 * power < 95 * cap → m < 32 → (∀ n, n < 32 → floor n ≤ floor m) → (∀ n, n < m → floor n < floor m) →
      ∃ t, exec (.governorWindow power hottest) s = .next t ∧ (mgetD t.islands m Island.reset).floor_ = floor m - 1 ∧
        t.power = power % 65536 ∧ t.cores = s.cores ∧
        ∀ n, n ≠ m → mgetD t.islands n Island.reset = mgetD s.islands n Island.reset) ∧
    (island ≤ 41 → island ≠ 36 → ∃ t, exec (.pointChange island) s = .next t ∧
      (mgetD t.islands island Island.reset).current =
        max (mgetD s.islands island Island.reset).request (mgetD s.islands island Island.reset).floor_ ∧
      t.cores = s.cores ∧ t.clk = s.clk) ∧
    (island = 36 ∨ 42 ≤ island → exec (.pointChange island) s = .next s) ∧
    exec (.capWrite true value) s = .next { s with boardCap := min (value % 65536) 1900 } ∧
    exec (.capWrite false value) s = .next { s with cap := min (value % 65536) 1900 }

/-- R418 (18): writes of device registers. Read-only registers ignore them, the others take what they lay down, and a write of a freeze, power
or fault-buffer register is the request that it names. -/
def Sys2Proof.Claims.DeviceRegisters : Prop :=
  ∀ (s : State) (v : Word),
    exec (.deviceRegisterWrite 0x30000 v) s = .next { s with logBase := v } ∧
    exec (.deviceRegisterWrite 0x320000 v) s = .next { s with cap := min (v.toNat % 2 ^ 16) 1900 } ∧
    (∀ o, o < 8 → exec (.deviceRegisterWrite (0x330000 + o) v) s = .next s) ∧
    (∀ o, o < 0x10000 → exec (.deviceRegisterWrite (0x340000 + o) v) s = .next s) ∧
    (∀ o, 8 ≤ o → o < 24 → exec (.deviceRegisterWrite (0x30000 + o) v) s = .next s) ∧
    (∀ n, n < 64 → ∃ t, exec (.deviceRegisterWrite (0x310000 + 8 * n) v) s = .next t ∧
      mgetD t.islands n Island.reset = { mgetD s.islands n Island.reset with request := min (v.toNat % 16) 5 } ∧
      t.cores = s.cores ∧ t.mem = s.mem) ∧
    (∀ p, p < 16 → exec (.deviceRegisterWrite (0x90000 + 8 * p) v) s = exec (if v.getLsbD 63 then .freeze p v else .restore p v) s) ∧
    (∀ k, k < 1024 →
      (v.toNat % 4 = 0 → exec (.deviceRegisterWrite (0xa0000 + 8 * k) v) s = exec (.runReq k) s) ∧
      (v.toNat % 4 = 1 → exec (.deviceRegisterWrite (0xa0000 + 8 * k) v) s = exec (.clockGate k) s) ∧
      (v.toNat % 4 = 2 → exec (.deviceRegisterWrite (0xa0000 + 8 * k) v) s = exec (.powerGate k) s) ∧
      (v.toNat % 4 = 3 → exec (.deviceRegisterWrite (0xa0000 + 8 * k) v) s = .next s)) ∧
    (∀ k e, k < 1024 → e < 16 →
      let ticket := v.toNat / 2 ^ 8 % 2 ^ 8
      let at_ := 0x400000 + 0x80 * k + 8 * e
      (v.toNat / 2 % 8 = 1 → exec (.deviceRegisterWrite at_ v) s = exec (.resume k e ticket) s) ∧
      (v.toNat / 2 % 8 = 2 → exec (.deviceRegisterWrite at_ v) s = exec (.resumePast k e ticket) s) ∧
      (v.toNat / 2 % 8 = 3 → exec (.deviceRegisterWrite at_ v) s = exec (.endTheActivation k e ticket) s) ∧
      (v.toNat / 2 % 8 = 4 → exec (.deviceRegisterWrite at_ v) s = exec (.endTheProgram k e ticket) s)) ∧
    (∀ i, i < 1024 → ∃ t, exec (.deviceRegisterWrite (0x20000 + 16 * i) v) s = .next t ∧
      mgetD t.ranges i ⟨0, 0⟩ = { mgetD s.ranges i ⟨0, 0⟩ with w0 := v &&& 0xfffff0f000000000 } ∧ t.mem = s.mem)

/-- R411, R355 (15, 18): an uncorrectable error poisons its line of 32 bytes and changes no byte; a held frame stays held until it is released. -/
def Sys2Proof.Claims.ErrorsAndHolds : Prop :=
  ∀ (s : State) (a : Nat),
    (a / 2 ^ 48 % 16 ≤ 2 → offsetNamed (a / 2 ^ 48 % 16) (a % 2 ^ 48) = true → ∃ t, exec (.uncorrectableSoftError a) s = .next t ∧
      a % 2 ^ 52 / 32 ∈ t.poison ∧ (∀ l, l ≠ a % 2 ^ 52 / 32 → (l ∈ t.poison ↔ l ∈ s.poison)) ∧ t.mem = s.mem ∧ t.cores = s.cores) ∧
    (3 ≤ a / 2 ^ 48 % 16 → exec (.uncorrectableSoftError a) s = .next s) ∧
    (∃ t, exec (.frameHold a) s = .next t ∧ (∀ f, f ∈ t.heldFrames ↔ (f = a % 2 ^ 52 / 65536 ∨ f ∈ s.heldFrames)) ∧ t.mem = s.mem) ∧
    (∃ t, exec (.frameRelease a) s = .next t ∧ (∀ f, f ∈ t.heldFrames ↔ (f ≠ a % 2 ^ 52 / 65536 ∧ f ∈ s.heldFrames)) ∧ t.mem = s.mem)

/-- R411, R415, R418 (18), R355 (15): the governor, device registers, errors and held frames. -/
def Obligations.DevicesAndErrors : Prop := Claims.Governor ∧ Claims.DeviceRegisters ∧ Claims.ErrorsAndHolds

/-! ### Reset, fetch, encoding -/

/-- What reset leaves, where the spec gives a value: R90, R92-R98 (03), R398 (17), R415, R416 (18), R384 (17), R361, R370 (16), R354 (15),
R402 (18): YSTATE, YCAUSE, YREGION and YFLAGS 0, YACT without a queue, YALLOC with 2,048 free slots, the scale registers 0 and each channel
the default entry of its number, the ageing interval 4,096, the ceiling 31, the scratch registers 0, the clk 0, the cap 1,900 W, and every
other device register 0. A supervisor core's YSTATE is 1. -/
def Sys2Proof.Claims.ResetRegisters : Prop :=
  ∀ (c k i : Nat), isSup c = false →
    State.reset.readSys c 0x80 = 0 ∧ State.reset.readSys c 0x81 = 4096 ∧ State.reset.readSys c 0x82 = 31 ∧
    State.reset.readSys c 0x13 = 0 ∧ (i < 4 → State.reset.readSys c (8 + i) = 0) ∧
    State.reset.readSys c 0 = 0 ∧ State.reset.readSys c 1 = 0 ∧ State.reset.readSys c 0x11 = 0 ∧
    State.reset.readSys c 0x12 = 0xffff000000000000 ∧ State.reset.readSys c 0x14 = 0 ∧ State.reset.readSys c 0x16 = 0x80000000000 ∧
    (i < 32 → State.reset.readSys c (0x20 + i) = 0 ∧ State.reset.readSys c (0x40 + i) = BitVec.ofNat 64 i) ∧
    State.reset.readSys 8192 0 = 1 ∧
    State.reset.deviceRead 0x320000 = 1900 ∧ State.reset.deviceRead 0x330000 = 0 ∧
    (k < 1024 → State.reset.deviceRead (0xa0000 + 8 * k) = 0) ∧
    (k < 1024 → i < 16 → State.reset.deviceRead (0x400000 + 0x80 * k + 8 * i) = 0) ∧
    (k < 1024 → State.reset.deviceRead (0x420000 + 8 * k) = 0) ∧
    (i < 64 → State.reset.deviceRead (0x310000 + 8 * i) = 0) ∧
    (i < 2048 → State.reset.deviceRead (0x20000 + 8 * i) = 0) ∧
    (i < 4 → State.reset.deviceRead (0x40000 + 8 * i) = 0) ∧
    (1 ≤ i → i ≤ 15 → State.reset.deviceRead (0x40100 + 8 * i) = 0) ∧
    (i < 8192 → State.reset.deviceRead (0x41000 + 8 * i) = 0) ∧
    (i < 1024 → State.reset.deviceRead (0x300000 + 8 * i) = 0)

/-- The model's own choice where the spec gives no reset value (log 1, log 2): every register of a core reads 0, its matrix priority is the 8
of a live program, and memory lists nothing, which reads 0; that memory is in canonical form. -/
def Sys2Proof.Claims.ResetChoices : Prop :=
  Memory.wf State.reset.mem = true ∧ (∀ a, memGet State.reset.mem a = 0) ∧
    ∀ c r, (State.reset.core c).getX r = 0 ∧ (State.reset.core c).getV r = 0 ∧ (State.reset.core c).getK r = 0 ∧
      (State.reset.core c).mprio = 8

/-- What the machine holds after reset. -/
def Obligations.ResetState : Prop := Claims.ResetRegisters ∧ Claims.ResetChoices

/-- R43-R53 (01, 02): words written out from the encoding tables, and the instructions that they stand for. -/
def Obligations.DecodedWords : Prop :=
  decodeWord 0b1_000001_00101_00110_00111_0000000001 = .ok (.sub 5 6 7) ∧
  decodeWord 0b1_000010_00101_00101_000001100100001 = .ok (.addi 5 5 801) ∧
  decodeWord 0b1_001010_00101_10000111011001010100 = .ok (.lui 5 0x87654) ∧
  decodeWord 0b1_010000_00101_00110_111111111111110 = .ok (.beq 5 6 0x7ffe) ∧
  decodeWord 0b1_010110_0000000000000000000010000 = .ok (.j 16) ∧
  decodeWord 0b1_011000_00101_00110_011_00_0000000010 = .ok (.ld 5 6 .d 2) ∧
  decodeWord 0b1_011100_00101_00110_010_01_1111111111 = .ok (.strl 5 6 .w (Scope.ofCode 1) 0x3ff) ∧
  decodeWord 0b1_011110_00101_00110_00111_0011_11_10_01 = .ok (.amo (((AmoOp.ofCode 3).getD .add)) 5 6 7 .d (Scope.ofCode 2) (Order.ofCode 1)) ∧
  decodeWord 0b1_101100_00000_00000_00000_0000000001 = .ok .endA ∧
  decodeWord 0b1_101101_00000_00001_000000000000000 = .ok (.jlr 0 1 0) ∧
  decodeWord 0b1_101110_00101_00000_000_000000010011 = .ok (.yrd 5 0x13) ∧
  decodeWord 0b1_110000_00001_00010_00011_0000_010_000 = .ok (.vadd 1 2 3 .f32 2) ∧
  decodeWord 0b1_111001_00000_00010_00011_001_0000_0_0_0 = .ok (.mmac 0 2 3 .f32 false false false 1) ∧
  decodeWord 0b1_111100_00101_00110_00000_000_0000010 = .ok (.xpost 5 6) ∧
  (∀ i, decodeWord 0 ≠ .ok i) ∧
  (∀ i, decodeWord 0b1_001111_00000_00000_000000000000000 ≠ .ok i) ∧
  (∀ i, decodeWord 0b1_101110_00101_00000_000_000000000101 ≠ .ok i)

/-- R43-R53 (01, 02): encoding and decoding agree. A well-formed instruction's word, lone or half of a pair, decodes to it, with every operand;
and a word that decodes is the word of its instruction. -/
def Obligations.EncodingAndDecodingAgree : Prop :=
  (∀ (i : Instr) (l : BitVec 1) (w : InstrWord), wellFormed i = true → encodeWith l i = some w → decodeWord w = .ok i) ∧
  (∀ (i : Instr), isEncoded i = true → ∃ w, encode i = some w) ∧
  (∀ (w : InstrWord) (i : Instr), decodeWord w = .ok i → wellFormed i = true ∧ encodeWith (w.extractLsb' 31 1) i = some w)

/-- The word that stands in a core's local store at a window address, lowest byte first. -/
def Sys2Proof.Claims.wordAt (s : State) (c : Nat) (pc : Word) : InstrWord :=
  let b (n : Nat) : Byte := memGet s.mem (localKey c (pc.toNat - 0x10000 + n))
  b 3 ++ b 2 ++ b 1 ++ b 0

/-- It is core `c`'s turn, it may issue, and no write to the two words at its pc is still unfenced (12 R289). -/
def Sys2Proof.Claims.issues (s : State) (c : Nat) (rest : List Turn) : Prop :=
  s.turns = .issue c :: rest ∧ (s.core c).mode = .running ∧ (s.core c).nextPair ≤ s.clk ∧ (s.cl (clusterOf c)).frozen = false ∧
    (s.cl (clusterOf c)).power = .running ∧ (s.core c).stale = []

/-- R33-R36 (01), R289 (12): a step in a core's turn runs the lone word that stands at its pc. -/
def Sys2Proof.Claims.LoneWordRuns : Prop :=
  ∀ (s : State) (c : Nat) (rest : List Turn) (i : Instr), Claims.issues s c rest →
    let pc := (s.core c).pc
    let w := Claims.wordAt s c pc
    0x10000 ≤ pc.toNat → pc.toNat < 0x20000 → w.getLsbD 31 = true → decodeWord w = .ok i →
    step s = exec i { s with turns := rest, cur := c, issue := { Issue.start with word := w } }

/-- R36 (01), R379, R380 (17): what fetch and decode refuse, in order: an address outside the window, a word that no row of the opcode map
encodes, a pair that is not 8-byte aligned.
The P bit of an illegal word with L = 0 is the own reading of the model (log 17). -/
def Sys2Proof.Claims.FetchFaults : Prop :=
  ∀ (s : State) (c : Nat) (rest : List Turn), Claims.issues s c rest →
    let pc := (s.core c).pc
    let w := Claims.wordAt s c pc
    let u : State := { s with turns := rest, cur := c, issue := Issue.start }
    (pc.toNat < 0x10000 ∨ 0x20000 ≤ pc.toNat → step s = .next (u.takeException c ⟨.fetchRange, pc, pc, false, false, 0, 0⟩)) ∧
    (0x10000 ≤ pc.toNat → pc.toNat < 0x20000 →
      ((∀ i, decodeWord w ≠ .ok i) →
        step s = .next (u.takeException c ⟨.illegalInstruction, 0, pc, !w.getLsbD 31, false, w, 0⟩)) ∧
      (∀ i, decodeWord w = .ok i → w.getLsbD 31 = false → pc.toNat % 8 ≠ 0 → pc.toNat % 4 = 0 →
        step s = .next (u.takeException c ⟨.misalignedPair, 0, pc, true, false, w, 0⟩)))

/-- R37, R38, R40 (01): the halves of a pair read before either writes, and both take effect; here any A-half of R72 beside a branch,
whether it is taken or not, and beside JL, which leaves the pair's address + 8 in x1. A pair whose halves write one register is illegal. -/
def Sys2Proof.Claims.PairsRun : Prop :=
  ∀ (s : State) (c : Nat) (rest : List Turn) (i j : Instr) (d a b : Reg) (f : Word → Word → Word), Claims.issues s c rest →
    let k := s.core c
    let pc := k.pc
    let w := Claims.wordAt s c pc
    0x10000 ≤ pc.toNat → pc.toNat < 0x20000 → pc.toNat % 8 = 0 → tableR72 j = some (d, a, b, f) → division j = none →
    encodeWith 0 i = some w → encodeWith 0 j = some (Claims.wordAt s c (pc + 4)) →
    let ran (t : State) (next : Word) : Prop := (t.core c).pc = next ∧
      (d ≠ 0 → (t.core c).getX d.toNat = f (k.getX a.toNat) (k.getX b.toNat)) ∧ t.mem = s.mem ∧ ∀ n, n ≠ c → t.core n = s.core n
    (∀ x y off p, branchOf i = some (x, y, off, p) → [x, y, a, b, d].all k.xFree = true →
      (p (k.getX x.toNat) (k.getX y.toNat) → ∃ t, step s = .next t ∧ ran t (pc + off.signExtend 64 * 4) ∧
        ∀ r : Reg, r ≠ d → (t.core c).getX r.toNat = k.getX r.toNat) ∧
      (¬ p (k.getX x.toNat) (k.getX y.toNat) → ∃ t, step s = .next t ∧ ran t (pc + 8) ∧
        ∀ r : Reg, r ≠ d → (t.core c).getX r.toNat = k.getX r.toNat)) ∧
    (∀ off, i = .jl off → d ≠ 1 → [1, a, b, d].all k.xFree = true →
      ∃ t, step s = .next t ∧ ran t (pc + off.signExtend 64 * 4) ∧ (t.core c).getX 1 = pc + 8 ∧
        ∀ r : Reg, r ≠ 1 → r ≠ d → (t.core c).getX r.toNat = k.getX r.toNat) ∧
    (∀ off, i = .jl off → d = 1 → step s = .next (({ s with turns := rest, cur := c, issue := Issue.start } : State).takeException c
      ⟨.illegalPair, 0, pc, true, false, w, 0⟩))

/-- A turn that no row of the opcode table names: a part of a longer step, which the model takes apart from it (log 6). -/
def Sys2Proof.Claims.ownTurn (e : Ev) : Prop :=
  ∃ (a b lane : Nat) (sc : Scope), e = .roleCopy a ∨ e = .showAccess a b sc ∨ e = .laneAccess a b lane ∨ e = .remoteDecode a ∨
    e = .serviceMark a ∨ e = .callAnswered a ∨ e = .hostRetry a b ∨ e = .hostPushed a b

/-- R2 (00), R395 (17), log 6: a unit's turn is one of the steps of the opcode table, or one of the model's own parts of them; when no turn
is left the next clk begins, with a turn for every core that may issue. -/
def Sys2Proof.Claims.UnitsTakeTurns : Prop :=
  (∀ e : Ev, ¬Claims.ownTurn e → ∃ i, isEncoded i = false ∧ ∀ (s : State) (rest : List Turn), s.turns = .unit e :: rest →
    step s = exec i { s with turns := rest }) ∧
  (∀ (s : State) (e : Ev) (rest : List Turn), s.turns = .unit e :: rest → step s = e.run { s with turns := rest }) ∧
  (∀ (s : State) (i : Instr) (rest : List Turn), s.turns = .event i :: rest → isEncoded i = false →
    step s = exec i { s with turns := rest }) ∧
  (∀ (s : State), s.turns = [] → ∃ t, step s = .next t ∧ t.clk = s.clk + 1 ∧ t.mem = s.mem ∧ t.queues = s.queues ∧
    ∀ c, (mget t.cores c).isSome = true → t.canIssue c = true → Turn.issue c ∈ t.turns)

/-- One step. -/
def Obligations.StepRunsTheDecodedWord : Prop :=
  Claims.LoneWordRuns ∧ Claims.FetchFaults ∧ Claims.PairsRun ∧ Claims.UnitsTakeTurns

/-! ### Whole-machine rules -/

/-- Memory keeps its canonical form in every step, whatever turn it is (the model's own form of memory, log 2). -/
def Obligations.MemoryStaysCanonical : Prop :=
  ∀ (s t : State), Memory.wf s.mem = true → step s = .next t → Memory.wf t.mem = true

/-- R412 (18): a revoked slot of the key store stays as it is, whatever step is taken, resets among them. -/
def Obligations.RevokedKeysStay : Prop :=
  ∀ (s t : State) (n : Nat) (k : KeySlot), mget s.keys n = some k → k.state = 2 → step s = .next t → mget t.keys n = some k

/-- R72-R76 (03): the frame of the scalar instructions as lone words, in every form, stalls and faults among them: memory, every other core,
and every register of the core but the destination and a port's own are as they were; the flags too, but for divisions. -/
def Obligations.ScalarFrame : Prop :=
  ∀ (i : Instr) (s t : State) (d : Reg), s.lone = true →
    ((∃ a b f, tableR72 i = some (d, a, b, f)) ∨ (∃ a f, tableR74 i = some (d, a, f)) ∨ (∃ a b g r, division i = some (d, a, b, g, r)) ∨
      (∃ j, i = .lui d j ∨ i = .addpc d j ∨ i = .luh d j) ∨ (∃ a b, i = .mulh d a b ∨ i = .mulhu d a b)) →
    exec i s = .next t →
    t.mem = s.mem ∧ t.clk = s.clk ∧ (∀ c, c ≠ s.cur → t.core c = s.core c) ∧
      (∀ r : Nat, r ≠ d.toNat → r < 24 → (t.core s.cur).getX r = s.me.getX r) ∧ (t.core s.cur).v = s.me.v ∧ (t.core s.cur).m = s.me.m ∧
      (t.core s.cur).k = s.me.k ∧ (t.core s.cur).h = s.me.h ∧ (t.core s.cur).yscr = s.me.yscr ∧ (t.core s.cur).ytvec = s.me.ytvec ∧
      ((∀ a b g r, division i ≠ some (d, a, b, g, r)) → (t.core s.cur).yflags = s.me.yflags)

/-- R11 (00), R78 (03): a lone scalar instruction that reads or writes a register whose result is pending stalls: nothing changes. -/
def Obligations.PendingRegistersStall : Prop :=
  ∀ (i : Instr) (s : State) (d a b r : Reg) (f : Word → Word → Word), s.lone = true → tableR72 i = some (d, a, b, f) →
    a.toNat < 24 → b.toNat < 24 → d.toNat < 24 → (r = a ∨ r = b ∨ r = d) → r ≠ 0 → s.me.isPending (.x r.toNat) = true →
    s.me.fails = [] → s.me.waits.all (fun w => decide (w.err = .none)) = true →
    exec i s = .next s.held
end

