-- ==== Sys2Proof/Laws/Maps.lean ====
section
/-!
SUPPORT. Laws of finite maps and of the list operations that the machine is written with. They need no order of keys.
-/

namespace Sys2Proof.Machine

theorem mget_mset_same {α : Type} (m : FMap α) (n : Nat) (v : α) : mget (mset m n v) n = some v := by
  induction m with
  | nil => simp [mset, mget]
  | cons p r ih =>
    obtain ⟨k, w⟩ := p
    simp only [mset]
    split
    · simp [mget]
    · split
      · simp [mget]
      · rename_i h1 h2
        simp only [mget]
        rw [if_neg (fun h => h2 h.symm), ih]

theorem mget_mset_ne {α : Type} (m : FMap α) {n j : Nat} (v : α) (h : j ≠ n) : mget (mset m n v) j = mget m j := by
  induction m with
  | nil => simp [mset, mget, Ne.symm h]
  | cons p r ih =>
    obtain ⟨k, w⟩ := p
    simp only [mset]
    split
    · simp only [mget, if_neg (Ne.symm h)]
    · split
      · rename_i h1 h2
        subst h2
        simp only [mget, if_neg (Ne.symm h)]
      · simp only [mget, ih]

theorem mset_mset_same {α : Type} (m : FMap α) (n : Nat) (v w : α) : mset (mset m n v) n w = mset m n w := by
  induction m with
  | nil => simp [mset]
  | cons p r ih =>
    obtain ⟨k, u⟩ := p
    simp only [mset]
    split
    · simp [mset]
    · split
      · rename_i h1 h2
        subst h2
        simp [mset]
      · rename_i h1 h2
        simp only [mset, if_neg h1, if_neg h2, ih]

@[simp] theorem mgetD_mset_same {α : Type} (m : FMap α) (n : Nat) (v d : α) : mgetD (mset m n v) n d = v := by
  simp [mgetD, mget_mset_same]

theorem mgetD_mset_ne {α : Type} (m : FMap α) {n j : Nat} (v d : α) (h : j ≠ n) :
    mgetD (mset m n v) j d = mgetD m j d := by
  simp [mgetD, mget_mset_ne m v h]

theorem mget_mset {α : Type} (m : FMap α) (n j : Nat) (v : α) :
    mget (mset m n v) j = if j = n then some v else mget m j := by
  by_cases h : j = n
  · subst h; simp [mget_mset_same]
  · simp [h, mget_mset_ne m v h]

theorem mget_mdel {α : Type} (m : FMap α) (n j : Nat) : mget (mdel m n) j = if j = n then none else mget m j := by
  induction m with
  | nil => simp [mdel, mget]
  | cons p r ih =>
    obtain ⟨k, w⟩ := p
    simp only [mdel] at ih ⊢
    simp only [List.filter, mget]
    by_cases hk : k = n
    · subst hk
      simp only [ne_eq, not_true, decide_false]
      rw [ih]
      by_cases hj : j = k
      · simp [hj]
      · simp [hj, Ne.symm hj]
    · simp only [ne_eq, hk, not_false_iff, decide_true]
      simp only [mget]
      by_cases hj : k = j
      · subst hj; simp [hk]
      · simp only [if_neg hj]
        exact ih

end Sys2Proof.Machine
end

