-- ==== Sys2Proof/Laws/State.lean ====
section
/-!
SUPPORT. What each named update leaves of each field of the state: one lemma a field and update, by rfl, so that no later
proof unfolds a record update.
-/

namespace Sys2Proof.Machine

@[simp] theorem State.setCore_cur (s : State) (c : Nat) (k : Core) : (s.setCore c k).cur = s.cur := rfl
@[simp] theorem State.setCore_issue (s : State) (c : Nat) (k : Core) : (s.setCore c k).issue = s.issue := rfl
@[simp] theorem State.setCore_turns (s : State) (c : Nat) (k : Core) : (s.setCore c k).turns = s.turns := rfl
@[simp] theorem State.setCore_ywrites (s : State) (c : Nat) (k : Core) : (s.setCore c k).ywrites = s.ywrites := rfl
@[simp] theorem State.setCore_inputs (s : State) (c : Nat) (k : Core) : (s.setCore c k).inputs = s.inputs := rfl
@[simp] theorem State.setCore_clk (s : State) (c : Nat) (k : Core) : (s.setCore c k).clk = s.clk := rfl
@[simp] theorem State.setCore_nextId (s : State) (c : Nat) (k : Core) : (s.setCore c k).nextId = s.nextId := rfl
@[simp] theorem State.setCore_chip (s : State) (c : Nat) (k : Core) : (s.setCore c k).chip = s.chip := rfl
@[simp] theorem State.setCore_inc (s : State) (c : Nat) (k : Core) : (s.setCore c k).inc = s.inc := rfl
@[simp] theorem State.setCore_mem (s : State) (c : Nat) (k : Core) : (s.setCore c k).mem = s.mem := rfl
@[simp] theorem State.setCore_poison (s : State) (c : Nat) (k : Core) : (s.setCore c k).poison = s.poison := rfl
@[simp] theorem State.setCore_clusters (s : State) (c : Nat) (k : Core) : (s.setCore c k).clusters = s.clusters := rfl
@[simp] theorem State.setCore_queues (s : State) (c : Nat) (k : Core) : (s.setCore c k).queues = s.queues := rfl
@[simp] theorem State.setCore_parts (s : State) (c : Nat) (k : Core) : (s.setCore c k).parts = s.parts := rfl
@[simp] theorem State.setCore_supRoot (s : State) (c : Nat) (k : Core) : (s.setCore c k).supRoot = s.supRoot := rfl
@[simp] theorem State.setCore_progs (s : State) (c : Nat) (k : Core) : (s.setCore c k).progs = s.progs := rfl
@[simp] theorem State.setCore_walks (s : State) (c : Nat) (k : Core) : (s.setCore c k).walks = s.walks := rfl
@[simp] theorem State.setCore_far (s : State) (c : Nat) (k : Core) : (s.setCore c k).far = s.far := rfl
@[simp] theorem State.setCore_heldFrames (s : State) (c : Nat) (k : Core) : (s.setCore c k).heldFrames = s.heldFrames := rfl
@[simp] theorem State.setCore_tensors (s : State) (c : Nat) (k : Core) : (s.setCore c k).tensors = s.tensors := rfl
@[simp] theorem State.setCore_comms (s : State) (c : Nat) (k : Core) : (s.setCore c k).comms = s.comms := rfl
@[simp] theorem State.setCore_engines (s : State) (c : Nat) (k : Core) : (s.setCore c k).engines = s.engines := rfl
@[simp] theorem State.setCore_sends (s : State) (c : Nat) (k : Core) : (s.setCore c k).sends = s.sends := rfl
@[simp] theorem State.setCore_journal (s : State) (c : Nat) (k : Core) : (s.setCore c k).journal = s.journal := rfl
@[simp] theorem State.setCore_rings (s : State) (c : Nat) (k : Core) : (s.setCore c k).rings = s.rings := rfl
@[simp] theorem State.setCore_replays (s : State) (c : Nat) (k : Core) : (s.setCore c k).replays = s.replays := rfl
@[simp] theorem State.setCore_straits (s : State) (c : Nat) (k : Core) : (s.setCore c k).straits = s.straits := rfl
@[simp] theorem State.setCore_routes (s : State) (c : Nat) (k : Core) : (s.setCore c k).routes = s.routes := rfl
@[simp] theorem State.setCore_ranges (s : State) (c : Nat) (k : Core) : (s.setCore c k).ranges = s.ranges := rfl
@[simp] theorem State.setCore_asks (s : State) (c : Nat) (k : Core) : (s.setCore c k).asks = s.asks := rfl
@[simp] theorem State.setCore_remIn (s : State) (c : Nat) (k : Core) : (s.setCore c k).remIn = s.remIn := rfl
@[simp] theorem State.setCore_remOut (s : State) (c : Nat) (k : Core) : (s.setCore c k).remOut = s.remOut := rfl
@[simp] theorem State.setCore_logBase (s : State) (c : Nat) (k : Core) : (s.setCore c k).logBase = s.logBase := rfl
@[simp] theorem State.setCore_logHead (s : State) (c : Nat) (k : Core) : (s.setCore c k).logHead = s.logHead := rfl
@[simp] theorem State.setCore_logTail (s : State) (c : Nat) (k : Core) : (s.setCore c k).logTail = s.logTail := rfl
@[simp] theorem State.setCore_log (s : State) (c : Nat) (k : Core) : (s.setCore c k).log = s.log := rfl
@[simp] theorem State.setCore_hosts (s : State) (c : Nat) (k : Core) : (s.setCore c k).hosts = s.hosts := rfl
@[simp] theorem State.setCore_keys (s : State) (c : Nat) (k : Core) : (s.setCore c k).keys = s.keys := rfl
@[simp] theorem State.setCore_recovery (s : State) (c : Nat) (k : Core) : (s.setCore c k).recovery = s.recovery := rfl
@[simp] theorem State.setCore_firmware (s : State) (c : Nat) (k : Core) : (s.setCore c k).firmware = s.firmware := rfl
@[simp] theorem State.setCore_lemnani (s : State) (c : Nat) (k : Core) : (s.setCore c k).lemnani = s.lemnani := rfl
@[simp] theorem State.setCore_staged (s : State) (c : Nat) (k : Core) : (s.setCore c k).staged = s.staged := rfl
@[simp] theorem State.setCore_islands (s : State) (c : Nat) (k : Core) : (s.setCore c k).islands = s.islands := rfl
@[simp] theorem State.setCore_power (s : State) (c : Nat) (k : Core) : (s.setCore c k).power = s.power := rfl
@[simp] theorem State.setCore_cap (s : State) (c : Nat) (k : Core) : (s.setCore c k).cap = s.cap := rfl
@[simp] theorem State.setCore_boardCap (s : State) (c : Nat) (k : Core) : (s.setCore c k).boardCap = s.boardCap := rfl
@[simp] theorem State.setCore_ready (s : State) (c : Nat) (k : Core) : (s.setCore c k).ready = s.ready := rfl
@[simp] theorem State.setCore_freezes (s : State) (c : Nat) (k : Core) : (s.setCore c k).freezes = s.freezes := rfl
@[simp] theorem State.setCore_images (s : State) (c : Nat) (k : Core) : (s.setCore c k).images = s.images := rfl
@[simp] theorem State.setCore_spans (s : State) (c : Nat) (k : Core) : (s.setCore c k).spans = s.spans := rfl
@[simp] theorem State.setCore_actReqs (s : State) (c : Nat) (k : Core) : (s.setCore c k).actReqs = s.actReqs := rfl
@[simp] theorem State.setCore_supFaults (s : State) (c : Nat) (k : Core) : (s.setCore c k).supFaults = s.supFaults := rfl
@[simp] theorem State.setCore_linkUse (s : State) (c : Nat) (k : Core) : (s.setCore c k).linkUse = s.linkUse := rfl
@[simp] theorem State.setCore_services (s : State) (c : Nat) (k : Core) : (s.setCore c k).services = s.services := rfl
@[simp] theorem State.setCore_outbox (s : State) (c : Nat) (k : Core) : (s.setCore c k).outbox = s.outbox := rfl
@[simp] theorem State.setCore_showing (s : State) (c : Nat) (k : Core) : (s.setCore c k).showing = s.showing := rfl
@[simp] theorem State.setCore_absents (s : State) (c : Nat) (k : Core) : (s.setCore c k).absents = s.absents := rfl
@[simp] theorem State.setCore_routerRoom (s : State) (c : Nat) (k : Core) : (s.setCore c k).routerRoom = s.routerRoom := rfl
@[simp] theorem State.setCore_unrouted (s : State) (c : Nat) (k : Core) : (s.setCore c k).unrouted = s.unrouted := rfl
@[simp] theorem State.setCore_decodes (s : State) (c : Nat) (k : Core) : (s.setCore c k).decodes = s.decodes := rfl
@[simp] theorem State.setCore_calls (s : State) (c : Nat) (k : Core) : (s.setCore c k).calls = s.calls := rfl
@[simp] theorem State.setCore_dropped (s : State) (c : Nat) (k : Core) : (s.setCore c k).dropped = s.dropped := rfl

@[simp] theorem State.modCore_cur (s : State) (c : Nat) (g : Core → Core) : (s.modCore c g).cur = s.cur := rfl
@[simp] theorem State.modCore_issue (s : State) (c : Nat) (g : Core → Core) : (s.modCore c g).issue = s.issue := rfl
@[simp] theorem State.modCore_turns (s : State) (c : Nat) (g : Core → Core) : (s.modCore c g).turns = s.turns := rfl
@[simp] theorem State.modCore_ywrites (s : State) (c : Nat) (g : Core → Core) : (s.modCore c g).ywrites = s.ywrites := rfl
@[simp] theorem State.modCore_inputs (s : State) (c : Nat) (g : Core → Core) : (s.modCore c g).inputs = s.inputs := rfl
@[simp] theorem State.modCore_clk (s : State) (c : Nat) (g : Core → Core) : (s.modCore c g).clk = s.clk := rfl
@[simp] theorem State.modCore_nextId (s : State) (c : Nat) (g : Core → Core) : (s.modCore c g).nextId = s.nextId := rfl
@[simp] theorem State.modCore_chip (s : State) (c : Nat) (g : Core → Core) : (s.modCore c g).chip = s.chip := rfl
@[simp] theorem State.modCore_inc (s : State) (c : Nat) (g : Core → Core) : (s.modCore c g).inc = s.inc := rfl
@[simp] theorem State.modCore_mem (s : State) (c : Nat) (g : Core → Core) : (s.modCore c g).mem = s.mem := rfl
@[simp] theorem State.modCore_poison (s : State) (c : Nat) (g : Core → Core) : (s.modCore c g).poison = s.poison := rfl
@[simp] theorem State.modCore_clusters (s : State) (c : Nat) (g : Core → Core) : (s.modCore c g).clusters = s.clusters := rfl
@[simp] theorem State.modCore_queues (s : State) (c : Nat) (g : Core → Core) : (s.modCore c g).queues = s.queues := rfl
@[simp] theorem State.modCore_parts (s : State) (c : Nat) (g : Core → Core) : (s.modCore c g).parts = s.parts := rfl
@[simp] theorem State.modCore_supRoot (s : State) (c : Nat) (g : Core → Core) : (s.modCore c g).supRoot = s.supRoot := rfl
@[simp] theorem State.modCore_progs (s : State) (c : Nat) (g : Core → Core) : (s.modCore c g).progs = s.progs := rfl
@[simp] theorem State.modCore_walks (s : State) (c : Nat) (g : Core → Core) : (s.modCore c g).walks = s.walks := rfl
@[simp] theorem State.modCore_far (s : State) (c : Nat) (g : Core → Core) : (s.modCore c g).far = s.far := rfl
@[simp] theorem State.modCore_heldFrames (s : State) (c : Nat) (g : Core → Core) : (s.modCore c g).heldFrames = s.heldFrames := rfl
@[simp] theorem State.modCore_tensors (s : State) (c : Nat) (g : Core → Core) : (s.modCore c g).tensors = s.tensors := rfl
@[simp] theorem State.modCore_comms (s : State) (c : Nat) (g : Core → Core) : (s.modCore c g).comms = s.comms := rfl
@[simp] theorem State.modCore_engines (s : State) (c : Nat) (g : Core → Core) : (s.modCore c g).engines = s.engines := rfl
@[simp] theorem State.modCore_sends (s : State) (c : Nat) (g : Core → Core) : (s.modCore c g).sends = s.sends := rfl
@[simp] theorem State.modCore_journal (s : State) (c : Nat) (g : Core → Core) : (s.modCore c g).journal = s.journal := rfl
@[simp] theorem State.modCore_rings (s : State) (c : Nat) (g : Core → Core) : (s.modCore c g).rings = s.rings := rfl
@[simp] theorem State.modCore_replays (s : State) (c : Nat) (g : Core → Core) : (s.modCore c g).replays = s.replays := rfl
@[simp] theorem State.modCore_straits (s : State) (c : Nat) (g : Core → Core) : (s.modCore c g).straits = s.straits := rfl
@[simp] theorem State.modCore_routes (s : State) (c : Nat) (g : Core → Core) : (s.modCore c g).routes = s.routes := rfl
@[simp] theorem State.modCore_ranges (s : State) (c : Nat) (g : Core → Core) : (s.modCore c g).ranges = s.ranges := rfl
@[simp] theorem State.modCore_asks (s : State) (c : Nat) (g : Core → Core) : (s.modCore c g).asks = s.asks := rfl
@[simp] theorem State.modCore_remIn (s : State) (c : Nat) (g : Core → Core) : (s.modCore c g).remIn = s.remIn := rfl
@[simp] theorem State.modCore_remOut (s : State) (c : Nat) (g : Core → Core) : (s.modCore c g).remOut = s.remOut := rfl
@[simp] theorem State.modCore_logBase (s : State) (c : Nat) (g : Core → Core) : (s.modCore c g).logBase = s.logBase := rfl
@[simp] theorem State.modCore_logHead (s : State) (c : Nat) (g : Core → Core) : (s.modCore c g).logHead = s.logHead := rfl
@[simp] theorem State.modCore_logTail (s : State) (c : Nat) (g : Core → Core) : (s.modCore c g).logTail = s.logTail := rfl
@[simp] theorem State.modCore_log (s : State) (c : Nat) (g : Core → Core) : (s.modCore c g).log = s.log := rfl
@[simp] theorem State.modCore_hosts (s : State) (c : Nat) (g : Core → Core) : (s.modCore c g).hosts = s.hosts := rfl
@[simp] theorem State.modCore_keys (s : State) (c : Nat) (g : Core → Core) : (s.modCore c g).keys = s.keys := rfl
@[simp] theorem State.modCore_recovery (s : State) (c : Nat) (g : Core → Core) : (s.modCore c g).recovery = s.recovery := rfl
@[simp] theorem State.modCore_firmware (s : State) (c : Nat) (g : Core → Core) : (s.modCore c g).firmware = s.firmware := rfl
@[simp] theorem State.modCore_lemnani (s : State) (c : Nat) (g : Core → Core) : (s.modCore c g).lemnani = s.lemnani := rfl
@[simp] theorem State.modCore_staged (s : State) (c : Nat) (g : Core → Core) : (s.modCore c g).staged = s.staged := rfl
@[simp] theorem State.modCore_islands (s : State) (c : Nat) (g : Core → Core) : (s.modCore c g).islands = s.islands := rfl
@[simp] theorem State.modCore_power (s : State) (c : Nat) (g : Core → Core) : (s.modCore c g).power = s.power := rfl
@[simp] theorem State.modCore_cap (s : State) (c : Nat) (g : Core → Core) : (s.modCore c g).cap = s.cap := rfl
@[simp] theorem State.modCore_boardCap (s : State) (c : Nat) (g : Core → Core) : (s.modCore c g).boardCap = s.boardCap := rfl
@[simp] theorem State.modCore_ready (s : State) (c : Nat) (g : Core → Core) : (s.modCore c g).ready = s.ready := rfl
@[simp] theorem State.modCore_freezes (s : State) (c : Nat) (g : Core → Core) : (s.modCore c g).freezes = s.freezes := rfl
@[simp] theorem State.modCore_images (s : State) (c : Nat) (g : Core → Core) : (s.modCore c g).images = s.images := rfl
@[simp] theorem State.modCore_spans (s : State) (c : Nat) (g : Core → Core) : (s.modCore c g).spans = s.spans := rfl
@[simp] theorem State.modCore_actReqs (s : State) (c : Nat) (g : Core → Core) : (s.modCore c g).actReqs = s.actReqs := rfl
@[simp] theorem State.modCore_supFaults (s : State) (c : Nat) (g : Core → Core) : (s.modCore c g).supFaults = s.supFaults := rfl
@[simp] theorem State.modCore_linkUse (s : State) (c : Nat) (g : Core → Core) : (s.modCore c g).linkUse = s.linkUse := rfl
@[simp] theorem State.modCore_services (s : State) (c : Nat) (g : Core → Core) : (s.modCore c g).services = s.services := rfl
@[simp] theorem State.modCore_outbox (s : State) (c : Nat) (g : Core → Core) : (s.modCore c g).outbox = s.outbox := rfl
@[simp] theorem State.modCore_showing (s : State) (c : Nat) (g : Core → Core) : (s.modCore c g).showing = s.showing := rfl
@[simp] theorem State.modCore_absents (s : State) (c : Nat) (g : Core → Core) : (s.modCore c g).absents = s.absents := rfl
@[simp] theorem State.modCore_routerRoom (s : State) (c : Nat) (g : Core → Core) : (s.modCore c g).routerRoom = s.routerRoom := rfl
@[simp] theorem State.modCore_unrouted (s : State) (c : Nat) (g : Core → Core) : (s.modCore c g).unrouted = s.unrouted := rfl
@[simp] theorem State.modCore_decodes (s : State) (c : Nat) (g : Core → Core) : (s.modCore c g).decodes = s.decodes := rfl
@[simp] theorem State.modCore_calls (s : State) (c : Nat) (g : Core → Core) : (s.modCore c g).calls = s.calls := rfl
@[simp] theorem State.modCore_dropped (s : State) (c : Nat) (g : Core → Core) : (s.modCore c g).dropped = s.dropped := rfl

@[simp] theorem State.setCl_cur (s : State) (n : Nat) (k : Cluster) : (s.setCl n k).cur = s.cur := rfl
@[simp] theorem State.setCl_issue (s : State) (n : Nat) (k : Cluster) : (s.setCl n k).issue = s.issue := rfl
@[simp] theorem State.setCl_turns (s : State) (n : Nat) (k : Cluster) : (s.setCl n k).turns = s.turns := rfl
@[simp] theorem State.setCl_ywrites (s : State) (n : Nat) (k : Cluster) : (s.setCl n k).ywrites = s.ywrites := rfl
@[simp] theorem State.setCl_inputs (s : State) (n : Nat) (k : Cluster) : (s.setCl n k).inputs = s.inputs := rfl
@[simp] theorem State.setCl_clk (s : State) (n : Nat) (k : Cluster) : (s.setCl n k).clk = s.clk := rfl
@[simp] theorem State.setCl_nextId (s : State) (n : Nat) (k : Cluster) : (s.setCl n k).nextId = s.nextId := rfl
@[simp] theorem State.setCl_chip (s : State) (n : Nat) (k : Cluster) : (s.setCl n k).chip = s.chip := rfl
@[simp] theorem State.setCl_inc (s : State) (n : Nat) (k : Cluster) : (s.setCl n k).inc = s.inc := rfl
@[simp] theorem State.setCl_mem (s : State) (n : Nat) (k : Cluster) : (s.setCl n k).mem = s.mem := rfl
@[simp] theorem State.setCl_poison (s : State) (n : Nat) (k : Cluster) : (s.setCl n k).poison = s.poison := rfl
@[simp] theorem State.setCl_cores (s : State) (n : Nat) (k : Cluster) : (s.setCl n k).cores = s.cores := rfl
@[simp] theorem State.setCl_queues (s : State) (n : Nat) (k : Cluster) : (s.setCl n k).queues = s.queues := rfl
@[simp] theorem State.setCl_parts (s : State) (n : Nat) (k : Cluster) : (s.setCl n k).parts = s.parts := rfl
@[simp] theorem State.setCl_supRoot (s : State) (n : Nat) (k : Cluster) : (s.setCl n k).supRoot = s.supRoot := rfl
@[simp] theorem State.setCl_progs (s : State) (n : Nat) (k : Cluster) : (s.setCl n k).progs = s.progs := rfl
@[simp] theorem State.setCl_walks (s : State) (n : Nat) (k : Cluster) : (s.setCl n k).walks = s.walks := rfl
@[simp] theorem State.setCl_far (s : State) (n : Nat) (k : Cluster) : (s.setCl n k).far = s.far := rfl
@[simp] theorem State.setCl_heldFrames (s : State) (n : Nat) (k : Cluster) : (s.setCl n k).heldFrames = s.heldFrames := rfl
@[simp] theorem State.setCl_tensors (s : State) (n : Nat) (k : Cluster) : (s.setCl n k).tensors = s.tensors := rfl
@[simp] theorem State.setCl_comms (s : State) (n : Nat) (k : Cluster) : (s.setCl n k).comms = s.comms := rfl
@[simp] theorem State.setCl_engines (s : State) (n : Nat) (k : Cluster) : (s.setCl n k).engines = s.engines := rfl
@[simp] theorem State.setCl_sends (s : State) (n : Nat) (k : Cluster) : (s.setCl n k).sends = s.sends := rfl
@[simp] theorem State.setCl_journal (s : State) (n : Nat) (k : Cluster) : (s.setCl n k).journal = s.journal := rfl
@[simp] theorem State.setCl_rings (s : State) (n : Nat) (k : Cluster) : (s.setCl n k).rings = s.rings := rfl
@[simp] theorem State.setCl_replays (s : State) (n : Nat) (k : Cluster) : (s.setCl n k).replays = s.replays := rfl
@[simp] theorem State.setCl_straits (s : State) (n : Nat) (k : Cluster) : (s.setCl n k).straits = s.straits := rfl
@[simp] theorem State.setCl_routes (s : State) (n : Nat) (k : Cluster) : (s.setCl n k).routes = s.routes := rfl
@[simp] theorem State.setCl_ranges (s : State) (n : Nat) (k : Cluster) : (s.setCl n k).ranges = s.ranges := rfl
@[simp] theorem State.setCl_asks (s : State) (n : Nat) (k : Cluster) : (s.setCl n k).asks = s.asks := rfl
@[simp] theorem State.setCl_remIn (s : State) (n : Nat) (k : Cluster) : (s.setCl n k).remIn = s.remIn := rfl
@[simp] theorem State.setCl_remOut (s : State) (n : Nat) (k : Cluster) : (s.setCl n k).remOut = s.remOut := rfl
@[simp] theorem State.setCl_logBase (s : State) (n : Nat) (k : Cluster) : (s.setCl n k).logBase = s.logBase := rfl
@[simp] theorem State.setCl_logHead (s : State) (n : Nat) (k : Cluster) : (s.setCl n k).logHead = s.logHead := rfl
@[simp] theorem State.setCl_logTail (s : State) (n : Nat) (k : Cluster) : (s.setCl n k).logTail = s.logTail := rfl
@[simp] theorem State.setCl_log (s : State) (n : Nat) (k : Cluster) : (s.setCl n k).log = s.log := rfl
@[simp] theorem State.setCl_hosts (s : State) (n : Nat) (k : Cluster) : (s.setCl n k).hosts = s.hosts := rfl
@[simp] theorem State.setCl_keys (s : State) (n : Nat) (k : Cluster) : (s.setCl n k).keys = s.keys := rfl
@[simp] theorem State.setCl_recovery (s : State) (n : Nat) (k : Cluster) : (s.setCl n k).recovery = s.recovery := rfl
@[simp] theorem State.setCl_firmware (s : State) (n : Nat) (k : Cluster) : (s.setCl n k).firmware = s.firmware := rfl
@[simp] theorem State.setCl_lemnani (s : State) (n : Nat) (k : Cluster) : (s.setCl n k).lemnani = s.lemnani := rfl
@[simp] theorem State.setCl_staged (s : State) (n : Nat) (k : Cluster) : (s.setCl n k).staged = s.staged := rfl
@[simp] theorem State.setCl_islands (s : State) (n : Nat) (k : Cluster) : (s.setCl n k).islands = s.islands := rfl
@[simp] theorem State.setCl_power (s : State) (n : Nat) (k : Cluster) : (s.setCl n k).power = s.power := rfl
@[simp] theorem State.setCl_cap (s : State) (n : Nat) (k : Cluster) : (s.setCl n k).cap = s.cap := rfl
@[simp] theorem State.setCl_boardCap (s : State) (n : Nat) (k : Cluster) : (s.setCl n k).boardCap = s.boardCap := rfl
@[simp] theorem State.setCl_ready (s : State) (n : Nat) (k : Cluster) : (s.setCl n k).ready = s.ready := rfl
@[simp] theorem State.setCl_freezes (s : State) (n : Nat) (k : Cluster) : (s.setCl n k).freezes = s.freezes := rfl
@[simp] theorem State.setCl_images (s : State) (n : Nat) (k : Cluster) : (s.setCl n k).images = s.images := rfl
@[simp] theorem State.setCl_spans (s : State) (n : Nat) (k : Cluster) : (s.setCl n k).spans = s.spans := rfl
@[simp] theorem State.setCl_actReqs (s : State) (n : Nat) (k : Cluster) : (s.setCl n k).actReqs = s.actReqs := rfl
@[simp] theorem State.setCl_supFaults (s : State) (n : Nat) (k : Cluster) : (s.setCl n k).supFaults = s.supFaults := rfl
@[simp] theorem State.setCl_linkUse (s : State) (n : Nat) (k : Cluster) : (s.setCl n k).linkUse = s.linkUse := rfl
@[simp] theorem State.setCl_services (s : State) (n : Nat) (k : Cluster) : (s.setCl n k).services = s.services := rfl
@[simp] theorem State.setCl_outbox (s : State) (n : Nat) (k : Cluster) : (s.setCl n k).outbox = s.outbox := rfl
@[simp] theorem State.setCl_showing (s : State) (n : Nat) (k : Cluster) : (s.setCl n k).showing = s.showing := rfl
@[simp] theorem State.setCl_absents (s : State) (n : Nat) (k : Cluster) : (s.setCl n k).absents = s.absents := rfl
@[simp] theorem State.setCl_routerRoom (s : State) (n : Nat) (k : Cluster) : (s.setCl n k).routerRoom = s.routerRoom := rfl
@[simp] theorem State.setCl_unrouted (s : State) (n : Nat) (k : Cluster) : (s.setCl n k).unrouted = s.unrouted := rfl
@[simp] theorem State.setCl_decodes (s : State) (n : Nat) (k : Cluster) : (s.setCl n k).decodes = s.decodes := rfl
@[simp] theorem State.setCl_calls (s : State) (n : Nat) (k : Cluster) : (s.setCl n k).calls = s.calls := rfl
@[simp] theorem State.setCl_dropped (s : State) (n : Nat) (k : Cluster) : (s.setCl n k).dropped = s.dropped := rfl

@[simp] theorem State.modCl_cur (s : State) (n : Nat) (g : Cluster → Cluster) : (s.modCl n g).cur = s.cur := rfl
@[simp] theorem State.modCl_issue (s : State) (n : Nat) (g : Cluster → Cluster) : (s.modCl n g).issue = s.issue := rfl
@[simp] theorem State.modCl_turns (s : State) (n : Nat) (g : Cluster → Cluster) : (s.modCl n g).turns = s.turns := rfl
@[simp] theorem State.modCl_ywrites (s : State) (n : Nat) (g : Cluster → Cluster) : (s.modCl n g).ywrites = s.ywrites := rfl
@[simp] theorem State.modCl_inputs (s : State) (n : Nat) (g : Cluster → Cluster) : (s.modCl n g).inputs = s.inputs := rfl
@[simp] theorem State.modCl_clk (s : State) (n : Nat) (g : Cluster → Cluster) : (s.modCl n g).clk = s.clk := rfl
@[simp] theorem State.modCl_nextId (s : State) (n : Nat) (g : Cluster → Cluster) : (s.modCl n g).nextId = s.nextId := rfl
@[simp] theorem State.modCl_chip (s : State) (n : Nat) (g : Cluster → Cluster) : (s.modCl n g).chip = s.chip := rfl
@[simp] theorem State.modCl_inc (s : State) (n : Nat) (g : Cluster → Cluster) : (s.modCl n g).inc = s.inc := rfl
@[simp] theorem State.modCl_mem (s : State) (n : Nat) (g : Cluster → Cluster) : (s.modCl n g).mem = s.mem := rfl
@[simp] theorem State.modCl_poison (s : State) (n : Nat) (g : Cluster → Cluster) : (s.modCl n g).poison = s.poison := rfl
@[simp] theorem State.modCl_cores (s : State) (n : Nat) (g : Cluster → Cluster) : (s.modCl n g).cores = s.cores := rfl
@[simp] theorem State.modCl_queues (s : State) (n : Nat) (g : Cluster → Cluster) : (s.modCl n g).queues = s.queues := rfl
@[simp] theorem State.modCl_parts (s : State) (n : Nat) (g : Cluster → Cluster) : (s.modCl n g).parts = s.parts := rfl
@[simp] theorem State.modCl_supRoot (s : State) (n : Nat) (g : Cluster → Cluster) : (s.modCl n g).supRoot = s.supRoot := rfl
@[simp] theorem State.modCl_progs (s : State) (n : Nat) (g : Cluster → Cluster) : (s.modCl n g).progs = s.progs := rfl
@[simp] theorem State.modCl_walks (s : State) (n : Nat) (g : Cluster → Cluster) : (s.modCl n g).walks = s.walks := rfl
@[simp] theorem State.modCl_far (s : State) (n : Nat) (g : Cluster → Cluster) : (s.modCl n g).far = s.far := rfl
@[simp] theorem State.modCl_heldFrames (s : State) (n : Nat) (g : Cluster → Cluster) : (s.modCl n g).heldFrames = s.heldFrames := rfl
@[simp] theorem State.modCl_tensors (s : State) (n : Nat) (g : Cluster → Cluster) : (s.modCl n g).tensors = s.tensors := rfl
@[simp] theorem State.modCl_comms (s : State) (n : Nat) (g : Cluster → Cluster) : (s.modCl n g).comms = s.comms := rfl
@[simp] theorem State.modCl_engines (s : State) (n : Nat) (g : Cluster → Cluster) : (s.modCl n g).engines = s.engines := rfl
@[simp] theorem State.modCl_sends (s : State) (n : Nat) (g : Cluster → Cluster) : (s.modCl n g).sends = s.sends := rfl
@[simp] theorem State.modCl_journal (s : State) (n : Nat) (g : Cluster → Cluster) : (s.modCl n g).journal = s.journal := rfl
@[simp] theorem State.modCl_rings (s : State) (n : Nat) (g : Cluster → Cluster) : (s.modCl n g).rings = s.rings := rfl
@[simp] theorem State.modCl_replays (s : State) (n : Nat) (g : Cluster → Cluster) : (s.modCl n g).replays = s.replays := rfl
@[simp] theorem State.modCl_straits (s : State) (n : Nat) (g : Cluster → Cluster) : (s.modCl n g).straits = s.straits := rfl
@[simp] theorem State.modCl_routes (s : State) (n : Nat) (g : Cluster → Cluster) : (s.modCl n g).routes = s.routes := rfl
@[simp] theorem State.modCl_ranges (s : State) (n : Nat) (g : Cluster → Cluster) : (s.modCl n g).ranges = s.ranges := rfl
@[simp] theorem State.modCl_asks (s : State) (n : Nat) (g : Cluster → Cluster) : (s.modCl n g).asks = s.asks := rfl
@[simp] theorem State.modCl_remIn (s : State) (n : Nat) (g : Cluster → Cluster) : (s.modCl n g).remIn = s.remIn := rfl
@[simp] theorem State.modCl_remOut (s : State) (n : Nat) (g : Cluster → Cluster) : (s.modCl n g).remOut = s.remOut := rfl
@[simp] theorem State.modCl_logBase (s : State) (n : Nat) (g : Cluster → Cluster) : (s.modCl n g).logBase = s.logBase := rfl
@[simp] theorem State.modCl_logHead (s : State) (n : Nat) (g : Cluster → Cluster) : (s.modCl n g).logHead = s.logHead := rfl
@[simp] theorem State.modCl_logTail (s : State) (n : Nat) (g : Cluster → Cluster) : (s.modCl n g).logTail = s.logTail := rfl
@[simp] theorem State.modCl_log (s : State) (n : Nat) (g : Cluster → Cluster) : (s.modCl n g).log = s.log := rfl
@[simp] theorem State.modCl_hosts (s : State) (n : Nat) (g : Cluster → Cluster) : (s.modCl n g).hosts = s.hosts := rfl
@[simp] theorem State.modCl_keys (s : State) (n : Nat) (g : Cluster → Cluster) : (s.modCl n g).keys = s.keys := rfl
@[simp] theorem State.modCl_recovery (s : State) (n : Nat) (g : Cluster → Cluster) : (s.modCl n g).recovery = s.recovery := rfl
@[simp] theorem State.modCl_firmware (s : State) (n : Nat) (g : Cluster → Cluster) : (s.modCl n g).firmware = s.firmware := rfl
@[simp] theorem State.modCl_lemnani (s : State) (n : Nat) (g : Cluster → Cluster) : (s.modCl n g).lemnani = s.lemnani := rfl
@[simp] theorem State.modCl_staged (s : State) (n : Nat) (g : Cluster → Cluster) : (s.modCl n g).staged = s.staged := rfl
@[simp] theorem State.modCl_islands (s : State) (n : Nat) (g : Cluster → Cluster) : (s.modCl n g).islands = s.islands := rfl
@[simp] theorem State.modCl_power (s : State) (n : Nat) (g : Cluster → Cluster) : (s.modCl n g).power = s.power := rfl
@[simp] theorem State.modCl_cap (s : State) (n : Nat) (g : Cluster → Cluster) : (s.modCl n g).cap = s.cap := rfl
@[simp] theorem State.modCl_boardCap (s : State) (n : Nat) (g : Cluster → Cluster) : (s.modCl n g).boardCap = s.boardCap := rfl
@[simp] theorem State.modCl_ready (s : State) (n : Nat) (g : Cluster → Cluster) : (s.modCl n g).ready = s.ready := rfl
@[simp] theorem State.modCl_freezes (s : State) (n : Nat) (g : Cluster → Cluster) : (s.modCl n g).freezes = s.freezes := rfl
@[simp] theorem State.modCl_images (s : State) (n : Nat) (g : Cluster → Cluster) : (s.modCl n g).images = s.images := rfl
@[simp] theorem State.modCl_spans (s : State) (n : Nat) (g : Cluster → Cluster) : (s.modCl n g).spans = s.spans := rfl
@[simp] theorem State.modCl_actReqs (s : State) (n : Nat) (g : Cluster → Cluster) : (s.modCl n g).actReqs = s.actReqs := rfl
@[simp] theorem State.modCl_supFaults (s : State) (n : Nat) (g : Cluster → Cluster) : (s.modCl n g).supFaults = s.supFaults := rfl
@[simp] theorem State.modCl_linkUse (s : State) (n : Nat) (g : Cluster → Cluster) : (s.modCl n g).linkUse = s.linkUse := rfl
@[simp] theorem State.modCl_services (s : State) (n : Nat) (g : Cluster → Cluster) : (s.modCl n g).services = s.services := rfl
@[simp] theorem State.modCl_outbox (s : State) (n : Nat) (g : Cluster → Cluster) : (s.modCl n g).outbox = s.outbox := rfl
@[simp] theorem State.modCl_showing (s : State) (n : Nat) (g : Cluster → Cluster) : (s.modCl n g).showing = s.showing := rfl
@[simp] theorem State.modCl_absents (s : State) (n : Nat) (g : Cluster → Cluster) : (s.modCl n g).absents = s.absents := rfl
@[simp] theorem State.modCl_routerRoom (s : State) (n : Nat) (g : Cluster → Cluster) : (s.modCl n g).routerRoom = s.routerRoom := rfl
@[simp] theorem State.modCl_unrouted (s : State) (n : Nat) (g : Cluster → Cluster) : (s.modCl n g).unrouted = s.unrouted := rfl
@[simp] theorem State.modCl_decodes (s : State) (n : Nat) (g : Cluster → Cluster) : (s.modCl n g).decodes = s.decodes := rfl
@[simp] theorem State.modCl_calls (s : State) (n : Nat) (g : Cluster → Cluster) : (s.modCl n g).calls = s.calls := rfl
@[simp] theorem State.modCl_dropped (s : State) (n : Nat) (g : Cluster → Cluster) : (s.modCl n g).dropped = s.dropped := rfl

@[simp] theorem State.setQ_cur (s : State) (q : Nat) (k : Queue) : (s.setQ q k).cur = s.cur := rfl
@[simp] theorem State.setQ_issue (s : State) (q : Nat) (k : Queue) : (s.setQ q k).issue = s.issue := rfl
@[simp] theorem State.setQ_turns (s : State) (q : Nat) (k : Queue) : (s.setQ q k).turns = s.turns := rfl
@[simp] theorem State.setQ_ywrites (s : State) (q : Nat) (k : Queue) : (s.setQ q k).ywrites = s.ywrites := rfl
@[simp] theorem State.setQ_inputs (s : State) (q : Nat) (k : Queue) : (s.setQ q k).inputs = s.inputs := rfl
@[simp] theorem State.setQ_clk (s : State) (q : Nat) (k : Queue) : (s.setQ q k).clk = s.clk := rfl
@[simp] theorem State.setQ_nextId (s : State) (q : Nat) (k : Queue) : (s.setQ q k).nextId = s.nextId := rfl
@[simp] theorem State.setQ_chip (s : State) (q : Nat) (k : Queue) : (s.setQ q k).chip = s.chip := rfl
@[simp] theorem State.setQ_inc (s : State) (q : Nat) (k : Queue) : (s.setQ q k).inc = s.inc := rfl
@[simp] theorem State.setQ_mem (s : State) (q : Nat) (k : Queue) : (s.setQ q k).mem = s.mem := rfl
@[simp] theorem State.setQ_poison (s : State) (q : Nat) (k : Queue) : (s.setQ q k).poison = s.poison := rfl
@[simp] theorem State.setQ_cores (s : State) (q : Nat) (k : Queue) : (s.setQ q k).cores = s.cores := rfl
@[simp] theorem State.setQ_clusters (s : State) (q : Nat) (k : Queue) : (s.setQ q k).clusters = s.clusters := rfl
@[simp] theorem State.setQ_parts (s : State) (q : Nat) (k : Queue) : (s.setQ q k).parts = s.parts := rfl
@[simp] theorem State.setQ_supRoot (s : State) (q : Nat) (k : Queue) : (s.setQ q k).supRoot = s.supRoot := rfl
@[simp] theorem State.setQ_progs (s : State) (q : Nat) (k : Queue) : (s.setQ q k).progs = s.progs := rfl
@[simp] theorem State.setQ_walks (s : State) (q : Nat) (k : Queue) : (s.setQ q k).walks = s.walks := rfl
@[simp] theorem State.setQ_far (s : State) (q : Nat) (k : Queue) : (s.setQ q k).far = s.far := rfl
@[simp] theorem State.setQ_heldFrames (s : State) (q : Nat) (k : Queue) : (s.setQ q k).heldFrames = s.heldFrames := rfl
@[simp] theorem State.setQ_tensors (s : State) (q : Nat) (k : Queue) : (s.setQ q k).tensors = s.tensors := rfl
@[simp] theorem State.setQ_comms (s : State) (q : Nat) (k : Queue) : (s.setQ q k).comms = s.comms := rfl
@[simp] theorem State.setQ_engines (s : State) (q : Nat) (k : Queue) : (s.setQ q k).engines = s.engines := rfl
@[simp] theorem State.setQ_sends (s : State) (q : Nat) (k : Queue) : (s.setQ q k).sends = s.sends := rfl
@[simp] theorem State.setQ_journal (s : State) (q : Nat) (k : Queue) : (s.setQ q k).journal = s.journal := rfl
@[simp] theorem State.setQ_rings (s : State) (q : Nat) (k : Queue) : (s.setQ q k).rings = s.rings := rfl
@[simp] theorem State.setQ_replays (s : State) (q : Nat) (k : Queue) : (s.setQ q k).replays = s.replays := rfl
@[simp] theorem State.setQ_straits (s : State) (q : Nat) (k : Queue) : (s.setQ q k).straits = s.straits := rfl
@[simp] theorem State.setQ_routes (s : State) (q : Nat) (k : Queue) : (s.setQ q k).routes = s.routes := rfl
@[simp] theorem State.setQ_ranges (s : State) (q : Nat) (k : Queue) : (s.setQ q k).ranges = s.ranges := rfl
@[simp] theorem State.setQ_asks (s : State) (q : Nat) (k : Queue) : (s.setQ q k).asks = s.asks := rfl
@[simp] theorem State.setQ_remIn (s : State) (q : Nat) (k : Queue) : (s.setQ q k).remIn = s.remIn := rfl
@[simp] theorem State.setQ_remOut (s : State) (q : Nat) (k : Queue) : (s.setQ q k).remOut = s.remOut := rfl
@[simp] theorem State.setQ_logBase (s : State) (q : Nat) (k : Queue) : (s.setQ q k).logBase = s.logBase := rfl
@[simp] theorem State.setQ_logHead (s : State) (q : Nat) (k : Queue) : (s.setQ q k).logHead = s.logHead := rfl
@[simp] theorem State.setQ_logTail (s : State) (q : Nat) (k : Queue) : (s.setQ q k).logTail = s.logTail := rfl
@[simp] theorem State.setQ_log (s : State) (q : Nat) (k : Queue) : (s.setQ q k).log = s.log := rfl
@[simp] theorem State.setQ_hosts (s : State) (q : Nat) (k : Queue) : (s.setQ q k).hosts = s.hosts := rfl
@[simp] theorem State.setQ_keys (s : State) (q : Nat) (k : Queue) : (s.setQ q k).keys = s.keys := rfl
@[simp] theorem State.setQ_recovery (s : State) (q : Nat) (k : Queue) : (s.setQ q k).recovery = s.recovery := rfl
@[simp] theorem State.setQ_firmware (s : State) (q : Nat) (k : Queue) : (s.setQ q k).firmware = s.firmware := rfl
@[simp] theorem State.setQ_lemnani (s : State) (q : Nat) (k : Queue) : (s.setQ q k).lemnani = s.lemnani := rfl
@[simp] theorem State.setQ_staged (s : State) (q : Nat) (k : Queue) : (s.setQ q k).staged = s.staged := rfl
@[simp] theorem State.setQ_islands (s : State) (q : Nat) (k : Queue) : (s.setQ q k).islands = s.islands := rfl
@[simp] theorem State.setQ_power (s : State) (q : Nat) (k : Queue) : (s.setQ q k).power = s.power := rfl
@[simp] theorem State.setQ_cap (s : State) (q : Nat) (k : Queue) : (s.setQ q k).cap = s.cap := rfl
@[simp] theorem State.setQ_boardCap (s : State) (q : Nat) (k : Queue) : (s.setQ q k).boardCap = s.boardCap := rfl
@[simp] theorem State.setQ_ready (s : State) (q : Nat) (k : Queue) : (s.setQ q k).ready = s.ready := rfl
@[simp] theorem State.setQ_freezes (s : State) (q : Nat) (k : Queue) : (s.setQ q k).freezes = s.freezes := rfl
@[simp] theorem State.setQ_images (s : State) (q : Nat) (k : Queue) : (s.setQ q k).images = s.images := rfl
@[simp] theorem State.setQ_spans (s : State) (q : Nat) (k : Queue) : (s.setQ q k).spans = s.spans := rfl
@[simp] theorem State.setQ_actReqs (s : State) (q : Nat) (k : Queue) : (s.setQ q k).actReqs = s.actReqs := rfl
@[simp] theorem State.setQ_supFaults (s : State) (q : Nat) (k : Queue) : (s.setQ q k).supFaults = s.supFaults := rfl
@[simp] theorem State.setQ_linkUse (s : State) (q : Nat) (k : Queue) : (s.setQ q k).linkUse = s.linkUse := rfl
@[simp] theorem State.setQ_services (s : State) (q : Nat) (k : Queue) : (s.setQ q k).services = s.services := rfl
@[simp] theorem State.setQ_outbox (s : State) (q : Nat) (k : Queue) : (s.setQ q k).outbox = s.outbox := rfl
@[simp] theorem State.setQ_showing (s : State) (q : Nat) (k : Queue) : (s.setQ q k).showing = s.showing := rfl
@[simp] theorem State.setQ_absents (s : State) (q : Nat) (k : Queue) : (s.setQ q k).absents = s.absents := rfl
@[simp] theorem State.setQ_routerRoom (s : State) (q : Nat) (k : Queue) : (s.setQ q k).routerRoom = s.routerRoom := rfl
@[simp] theorem State.setQ_unrouted (s : State) (q : Nat) (k : Queue) : (s.setQ q k).unrouted = s.unrouted := rfl
@[simp] theorem State.setQ_decodes (s : State) (q : Nat) (k : Queue) : (s.setQ q k).decodes = s.decodes := rfl
@[simp] theorem State.setQ_calls (s : State) (q : Nat) (k : Queue) : (s.setQ q k).calls = s.calls := rfl
@[simp] theorem State.setQ_dropped (s : State) (q : Nat) (k : Queue) : (s.setQ q k).dropped = s.dropped := rfl

@[simp] theorem State.writeOnce_cur (s : State) (a : Nat) (bs : List Byte) : (s.writeOnce a bs).cur = s.cur := rfl
@[simp] theorem State.writeOnce_issue (s : State) (a : Nat) (bs : List Byte) : (s.writeOnce a bs).issue = s.issue := rfl
@[simp] theorem State.writeOnce_turns (s : State) (a : Nat) (bs : List Byte) : (s.writeOnce a bs).turns = s.turns := rfl
@[simp] theorem State.writeOnce_ywrites (s : State) (a : Nat) (bs : List Byte) : (s.writeOnce a bs).ywrites = s.ywrites := rfl
@[simp] theorem State.writeOnce_inputs (s : State) (a : Nat) (bs : List Byte) : (s.writeOnce a bs).inputs = s.inputs := rfl
@[simp] theorem State.writeOnce_clk (s : State) (a : Nat) (bs : List Byte) : (s.writeOnce a bs).clk = s.clk := rfl
@[simp] theorem State.writeOnce_nextId (s : State) (a : Nat) (bs : List Byte) : (s.writeOnce a bs).nextId = s.nextId := rfl
@[simp] theorem State.writeOnce_chip (s : State) (a : Nat) (bs : List Byte) : (s.writeOnce a bs).chip = s.chip := rfl
@[simp] theorem State.writeOnce_inc (s : State) (a : Nat) (bs : List Byte) : (s.writeOnce a bs).inc = s.inc := rfl
@[simp] theorem State.writeOnce_cores (s : State) (a : Nat) (bs : List Byte) : (s.writeOnce a bs).cores = s.cores := rfl
@[simp] theorem State.writeOnce_clusters (s : State) (a : Nat) (bs : List Byte) : (s.writeOnce a bs).clusters = s.clusters := rfl
@[simp] theorem State.writeOnce_queues (s : State) (a : Nat) (bs : List Byte) : (s.writeOnce a bs).queues = s.queues := rfl
@[simp] theorem State.writeOnce_parts (s : State) (a : Nat) (bs : List Byte) : (s.writeOnce a bs).parts = s.parts := rfl
@[simp] theorem State.writeOnce_supRoot (s : State) (a : Nat) (bs : List Byte) : (s.writeOnce a bs).supRoot = s.supRoot := rfl
@[simp] theorem State.writeOnce_progs (s : State) (a : Nat) (bs : List Byte) : (s.writeOnce a bs).progs = s.progs := rfl
@[simp] theorem State.writeOnce_walks (s : State) (a : Nat) (bs : List Byte) : (s.writeOnce a bs).walks = s.walks := rfl
@[simp] theorem State.writeOnce_far (s : State) (a : Nat) (bs : List Byte) : (s.writeOnce a bs).far = s.far := rfl
@[simp] theorem State.writeOnce_heldFrames (s : State) (a : Nat) (bs : List Byte) : (s.writeOnce a bs).heldFrames = s.heldFrames := rfl
@[simp] theorem State.writeOnce_tensors (s : State) (a : Nat) (bs : List Byte) : (s.writeOnce a bs).tensors = s.tensors := rfl
@[simp] theorem State.writeOnce_comms (s : State) (a : Nat) (bs : List Byte) : (s.writeOnce a bs).comms = s.comms := rfl
@[simp] theorem State.writeOnce_engines (s : State) (a : Nat) (bs : List Byte) : (s.writeOnce a bs).engines = s.engines := rfl
@[simp] theorem State.writeOnce_sends (s : State) (a : Nat) (bs : List Byte) : (s.writeOnce a bs).sends = s.sends := rfl
@[simp] theorem State.writeOnce_journal (s : State) (a : Nat) (bs : List Byte) : (s.writeOnce a bs).journal = s.journal := rfl
@[simp] theorem State.writeOnce_rings (s : State) (a : Nat) (bs : List Byte) : (s.writeOnce a bs).rings = s.rings := rfl
@[simp] theorem State.writeOnce_replays (s : State) (a : Nat) (bs : List Byte) : (s.writeOnce a bs).replays = s.replays := rfl
@[simp] theorem State.writeOnce_straits (s : State) (a : Nat) (bs : List Byte) : (s.writeOnce a bs).straits = s.straits := rfl
@[simp] theorem State.writeOnce_routes (s : State) (a : Nat) (bs : List Byte) : (s.writeOnce a bs).routes = s.routes := rfl
@[simp] theorem State.writeOnce_ranges (s : State) (a : Nat) (bs : List Byte) : (s.writeOnce a bs).ranges = s.ranges := rfl
@[simp] theorem State.writeOnce_asks (s : State) (a : Nat) (bs : List Byte) : (s.writeOnce a bs).asks = s.asks := rfl
@[simp] theorem State.writeOnce_remIn (s : State) (a : Nat) (bs : List Byte) : (s.writeOnce a bs).remIn = s.remIn := rfl
@[simp] theorem State.writeOnce_remOut (s : State) (a : Nat) (bs : List Byte) : (s.writeOnce a bs).remOut = s.remOut := rfl
@[simp] theorem State.writeOnce_logBase (s : State) (a : Nat) (bs : List Byte) : (s.writeOnce a bs).logBase = s.logBase := rfl
@[simp] theorem State.writeOnce_logHead (s : State) (a : Nat) (bs : List Byte) : (s.writeOnce a bs).logHead = s.logHead := rfl
@[simp] theorem State.writeOnce_logTail (s : State) (a : Nat) (bs : List Byte) : (s.writeOnce a bs).logTail = s.logTail := rfl
@[simp] theorem State.writeOnce_log (s : State) (a : Nat) (bs : List Byte) : (s.writeOnce a bs).log = s.log := rfl
@[simp] theorem State.writeOnce_hosts (s : State) (a : Nat) (bs : List Byte) : (s.writeOnce a bs).hosts = s.hosts := rfl
@[simp] theorem State.writeOnce_keys (s : State) (a : Nat) (bs : List Byte) : (s.writeOnce a bs).keys = s.keys := rfl
@[simp] theorem State.writeOnce_recovery (s : State) (a : Nat) (bs : List Byte) : (s.writeOnce a bs).recovery = s.recovery := rfl
@[simp] theorem State.writeOnce_firmware (s : State) (a : Nat) (bs : List Byte) : (s.writeOnce a bs).firmware = s.firmware := rfl
@[simp] theorem State.writeOnce_lemnani (s : State) (a : Nat) (bs : List Byte) : (s.writeOnce a bs).lemnani = s.lemnani := rfl
@[simp] theorem State.writeOnce_staged (s : State) (a : Nat) (bs : List Byte) : (s.writeOnce a bs).staged = s.staged := rfl
@[simp] theorem State.writeOnce_islands (s : State) (a : Nat) (bs : List Byte) : (s.writeOnce a bs).islands = s.islands := rfl
@[simp] theorem State.writeOnce_power (s : State) (a : Nat) (bs : List Byte) : (s.writeOnce a bs).power = s.power := rfl
@[simp] theorem State.writeOnce_cap (s : State) (a : Nat) (bs : List Byte) : (s.writeOnce a bs).cap = s.cap := rfl
@[simp] theorem State.writeOnce_boardCap (s : State) (a : Nat) (bs : List Byte) : (s.writeOnce a bs).boardCap = s.boardCap := rfl
@[simp] theorem State.writeOnce_ready (s : State) (a : Nat) (bs : List Byte) : (s.writeOnce a bs).ready = s.ready := rfl
@[simp] theorem State.writeOnce_freezes (s : State) (a : Nat) (bs : List Byte) : (s.writeOnce a bs).freezes = s.freezes := rfl
@[simp] theorem State.writeOnce_images (s : State) (a : Nat) (bs : List Byte) : (s.writeOnce a bs).images = s.images := rfl
@[simp] theorem State.writeOnce_spans (s : State) (a : Nat) (bs : List Byte) : (s.writeOnce a bs).spans = s.spans := rfl
@[simp] theorem State.writeOnce_actReqs (s : State) (a : Nat) (bs : List Byte) : (s.writeOnce a bs).actReqs = s.actReqs := rfl
@[simp] theorem State.writeOnce_supFaults (s : State) (a : Nat) (bs : List Byte) : (s.writeOnce a bs).supFaults = s.supFaults := rfl
@[simp] theorem State.writeOnce_linkUse (s : State) (a : Nat) (bs : List Byte) : (s.writeOnce a bs).linkUse = s.linkUse := rfl
@[simp] theorem State.writeOnce_services (s : State) (a : Nat) (bs : List Byte) : (s.writeOnce a bs).services = s.services := rfl
@[simp] theorem State.writeOnce_outbox (s : State) (a : Nat) (bs : List Byte) : (s.writeOnce a bs).outbox = s.outbox := rfl
@[simp] theorem State.writeOnce_showing (s : State) (a : Nat) (bs : List Byte) : (s.writeOnce a bs).showing = s.showing := rfl
@[simp] theorem State.writeOnce_absents (s : State) (a : Nat) (bs : List Byte) : (s.writeOnce a bs).absents = s.absents := rfl
@[simp] theorem State.writeOnce_routerRoom (s : State) (a : Nat) (bs : List Byte) : (s.writeOnce a bs).routerRoom = s.routerRoom := rfl
@[simp] theorem State.writeOnce_unrouted (s : State) (a : Nat) (bs : List Byte) : (s.writeOnce a bs).unrouted = s.unrouted := rfl
@[simp] theorem State.writeOnce_decodes (s : State) (a : Nat) (bs : List Byte) : (s.writeOnce a bs).decodes = s.decodes := rfl
@[simp] theorem State.writeOnce_calls (s : State) (a : Nat) (bs : List Byte) : (s.writeOnce a bs).calls = s.calls := rfl
@[simp] theorem State.writeOnce_dropped (s : State) (a : Nat) (bs : List Byte) : (s.writeOnce a bs).dropped = s.dropped := rfl

@[simp] theorem State.writeParts_cur (s : State) (ps : List (Nat × List Byte)) : (s.writeParts ps).cur = s.cur := rfl
@[simp] theorem State.writeParts_issue (s : State) (ps : List (Nat × List Byte)) : (s.writeParts ps).issue = s.issue := rfl
@[simp] theorem State.writeParts_turns (s : State) (ps : List (Nat × List Byte)) : (s.writeParts ps).turns = s.turns := rfl
@[simp] theorem State.writeParts_ywrites (s : State) (ps : List (Nat × List Byte)) : (s.writeParts ps).ywrites = s.ywrites := rfl
@[simp] theorem State.writeParts_inputs (s : State) (ps : List (Nat × List Byte)) : (s.writeParts ps).inputs = s.inputs := rfl
@[simp] theorem State.writeParts_clk (s : State) (ps : List (Nat × List Byte)) : (s.writeParts ps).clk = s.clk := rfl
@[simp] theorem State.writeParts_nextId (s : State) (ps : List (Nat × List Byte)) : (s.writeParts ps).nextId = s.nextId := rfl
@[simp] theorem State.writeParts_chip (s : State) (ps : List (Nat × List Byte)) : (s.writeParts ps).chip = s.chip := rfl
@[simp] theorem State.writeParts_inc (s : State) (ps : List (Nat × List Byte)) : (s.writeParts ps).inc = s.inc := rfl
@[simp] theorem State.writeParts_cores (s : State) (ps : List (Nat × List Byte)) : (s.writeParts ps).cores = s.cores := rfl
@[simp] theorem State.writeParts_clusters (s : State) (ps : List (Nat × List Byte)) : (s.writeParts ps).clusters = s.clusters := rfl
@[simp] theorem State.writeParts_queues (s : State) (ps : List (Nat × List Byte)) : (s.writeParts ps).queues = s.queues := rfl
@[simp] theorem State.writeParts_parts (s : State) (ps : List (Nat × List Byte)) : (s.writeParts ps).parts = s.parts := rfl
@[simp] theorem State.writeParts_supRoot (s : State) (ps : List (Nat × List Byte)) : (s.writeParts ps).supRoot = s.supRoot := rfl
@[simp] theorem State.writeParts_progs (s : State) (ps : List (Nat × List Byte)) : (s.writeParts ps).progs = s.progs := rfl
@[simp] theorem State.writeParts_walks (s : State) (ps : List (Nat × List Byte)) : (s.writeParts ps).walks = s.walks := rfl
@[simp] theorem State.writeParts_far (s : State) (ps : List (Nat × List Byte)) : (s.writeParts ps).far = s.far := rfl
@[simp] theorem State.writeParts_heldFrames (s : State) (ps : List (Nat × List Byte)) : (s.writeParts ps).heldFrames = s.heldFrames := rfl
@[simp] theorem State.writeParts_tensors (s : State) (ps : List (Nat × List Byte)) : (s.writeParts ps).tensors = s.tensors := rfl
@[simp] theorem State.writeParts_comms (s : State) (ps : List (Nat × List Byte)) : (s.writeParts ps).comms = s.comms := rfl
@[simp] theorem State.writeParts_engines (s : State) (ps : List (Nat × List Byte)) : (s.writeParts ps).engines = s.engines := rfl
@[simp] theorem State.writeParts_sends (s : State) (ps : List (Nat × List Byte)) : (s.writeParts ps).sends = s.sends := rfl
@[simp] theorem State.writeParts_journal (s : State) (ps : List (Nat × List Byte)) : (s.writeParts ps).journal = s.journal := rfl
@[simp] theorem State.writeParts_rings (s : State) (ps : List (Nat × List Byte)) : (s.writeParts ps).rings = s.rings := rfl
@[simp] theorem State.writeParts_replays (s : State) (ps : List (Nat × List Byte)) : (s.writeParts ps).replays = s.replays := rfl
@[simp] theorem State.writeParts_straits (s : State) (ps : List (Nat × List Byte)) : (s.writeParts ps).straits = s.straits := rfl
@[simp] theorem State.writeParts_routes (s : State) (ps : List (Nat × List Byte)) : (s.writeParts ps).routes = s.routes := rfl
@[simp] theorem State.writeParts_ranges (s : State) (ps : List (Nat × List Byte)) : (s.writeParts ps).ranges = s.ranges := rfl
@[simp] theorem State.writeParts_asks (s : State) (ps : List (Nat × List Byte)) : (s.writeParts ps).asks = s.asks := rfl
@[simp] theorem State.writeParts_remIn (s : State) (ps : List (Nat × List Byte)) : (s.writeParts ps).remIn = s.remIn := rfl
@[simp] theorem State.writeParts_remOut (s : State) (ps : List (Nat × List Byte)) : (s.writeParts ps).remOut = s.remOut := rfl
@[simp] theorem State.writeParts_logBase (s : State) (ps : List (Nat × List Byte)) : (s.writeParts ps).logBase = s.logBase := rfl
@[simp] theorem State.writeParts_logHead (s : State) (ps : List (Nat × List Byte)) : (s.writeParts ps).logHead = s.logHead := rfl
@[simp] theorem State.writeParts_logTail (s : State) (ps : List (Nat × List Byte)) : (s.writeParts ps).logTail = s.logTail := rfl
@[simp] theorem State.writeParts_log (s : State) (ps : List (Nat × List Byte)) : (s.writeParts ps).log = s.log := rfl
@[simp] theorem State.writeParts_hosts (s : State) (ps : List (Nat × List Byte)) : (s.writeParts ps).hosts = s.hosts := rfl
@[simp] theorem State.writeParts_keys (s : State) (ps : List (Nat × List Byte)) : (s.writeParts ps).keys = s.keys := rfl
@[simp] theorem State.writeParts_recovery (s : State) (ps : List (Nat × List Byte)) : (s.writeParts ps).recovery = s.recovery := rfl
@[simp] theorem State.writeParts_firmware (s : State) (ps : List (Nat × List Byte)) : (s.writeParts ps).firmware = s.firmware := rfl
@[simp] theorem State.writeParts_lemnani (s : State) (ps : List (Nat × List Byte)) : (s.writeParts ps).lemnani = s.lemnani := rfl
@[simp] theorem State.writeParts_staged (s : State) (ps : List (Nat × List Byte)) : (s.writeParts ps).staged = s.staged := rfl
@[simp] theorem State.writeParts_islands (s : State) (ps : List (Nat × List Byte)) : (s.writeParts ps).islands = s.islands := rfl
@[simp] theorem State.writeParts_power (s : State) (ps : List (Nat × List Byte)) : (s.writeParts ps).power = s.power := rfl
@[simp] theorem State.writeParts_cap (s : State) (ps : List (Nat × List Byte)) : (s.writeParts ps).cap = s.cap := rfl
@[simp] theorem State.writeParts_boardCap (s : State) (ps : List (Nat × List Byte)) : (s.writeParts ps).boardCap = s.boardCap := rfl
@[simp] theorem State.writeParts_ready (s : State) (ps : List (Nat × List Byte)) : (s.writeParts ps).ready = s.ready := rfl
@[simp] theorem State.writeParts_freezes (s : State) (ps : List (Nat × List Byte)) : (s.writeParts ps).freezes = s.freezes := rfl
@[simp] theorem State.writeParts_images (s : State) (ps : List (Nat × List Byte)) : (s.writeParts ps).images = s.images := rfl
@[simp] theorem State.writeParts_spans (s : State) (ps : List (Nat × List Byte)) : (s.writeParts ps).spans = s.spans := rfl
@[simp] theorem State.writeParts_actReqs (s : State) (ps : List (Nat × List Byte)) : (s.writeParts ps).actReqs = s.actReqs := rfl
@[simp] theorem State.writeParts_supFaults (s : State) (ps : List (Nat × List Byte)) : (s.writeParts ps).supFaults = s.supFaults := rfl
@[simp] theorem State.writeParts_linkUse (s : State) (ps : List (Nat × List Byte)) : (s.writeParts ps).linkUse = s.linkUse := rfl
@[simp] theorem State.writeParts_services (s : State) (ps : List (Nat × List Byte)) : (s.writeParts ps).services = s.services := rfl
@[simp] theorem State.writeParts_outbox (s : State) (ps : List (Nat × List Byte)) : (s.writeParts ps).outbox = s.outbox := rfl
@[simp] theorem State.writeParts_showing (s : State) (ps : List (Nat × List Byte)) : (s.writeParts ps).showing = s.showing := rfl
@[simp] theorem State.writeParts_absents (s : State) (ps : List (Nat × List Byte)) : (s.writeParts ps).absents = s.absents := rfl
@[simp] theorem State.writeParts_routerRoom (s : State) (ps : List (Nat × List Byte)) : (s.writeParts ps).routerRoom = s.routerRoom := rfl
@[simp] theorem State.writeParts_unrouted (s : State) (ps : List (Nat × List Byte)) : (s.writeParts ps).unrouted = s.unrouted := rfl
@[simp] theorem State.writeParts_decodes (s : State) (ps : List (Nat × List Byte)) : (s.writeParts ps).decodes = s.decodes := rfl
@[simp] theorem State.writeParts_calls (s : State) (ps : List (Nat × List Byte)) : (s.writeParts ps).calls = s.calls := rfl
@[simp] theorem State.writeParts_dropped (s : State) (ps : List (Nat × List Byte)) : (s.writeParts ps).dropped = s.dropped := rfl

/-! ### Cores and clusters -/

@[simp] theorem State.core_setCore (s : State) (c : Nat) (k : Core) : (s.setCore c k).core c = k := by
  simp [State.core, State.setCore]

theorem State.core_setCore_ne (s : State) {c d : Nat} (k : Core) (h : d ≠ c) : (s.setCore c k).core d = s.core d := by
  simp [State.core, State.setCore, mgetD_mset_ne _ _ _ h]

@[simp] theorem State.core_modCore (s : State) (c : Nat) (g : Core → Core) : (s.modCore c g).core c = g (s.core c) := by
  simp [State.modCore]

theorem State.core_modCore_ne (s : State) {c d : Nat} (g : Core → Core) (h : d ≠ c) :
    (s.modCore c g).core d = s.core d := by
  simp [State.modCore, State.core_setCore_ne _ _ h]

theorem State.setCore_setCore (s : State) (c : Nat) (k l : Core) : (s.setCore c k).setCore c l = s.setCore c l := by
  simp [State.setCore, mset_mset_same]

@[simp] theorem State.modCore_modCore (s : State) (c : Nat) (f g : Core → Core) :
    (s.modCore c f).modCore c g = s.modCore c (fun k => g (f k)) := by
  simp [State.modCore, State.setCore_setCore]

@[simp] theorem State.cl_setCl (s : State) (n : Nat) (k : Cluster) : (s.setCl n k).cl n = k := by
  simp [State.cl, State.setCl]

theorem State.cl_setCl_ne (s : State) {n j : Nat} (k : Cluster) (h : j ≠ n) : (s.setCl n k).cl j = s.cl j := by
  simp [State.cl, State.setCl, mgetD_mset_ne _ _ _ h]

@[simp] theorem State.cl_modCl (s : State) (n : Nat) (g : Cluster → Cluster) : (s.modCl n g).cl n = g (s.cl n) := by
  simp [State.modCl]

theorem State.cl_modCl_ne (s : State) {n j : Nat} (g : Cluster → Cluster) (h : j ≠ n) :
    (s.modCl n g).cl j = s.cl j := by
  simp [State.modCl, State.cl_setCl_ne _ _ h]

theorem State.setCl_setCl (s : State) (n : Nat) (k l : Cluster) : (s.setCl n k).setCl n l = s.setCl n l := by
  simp [State.setCl, mset_mset_same]

@[simp] theorem State.modCl_modCl (s : State) (n : Nat) (f g : Cluster → Cluster) :
    (s.modCl n f).modCl n g = s.modCl n (fun k => g (f k)) := by
  simp [State.modCl, State.setCl_setCl]

@[simp] theorem State.core_setCl (s : State) (n : Nat) (k : Cluster) (c : Nat) : (s.setCl n k).core c = s.core c := rfl

@[simp] theorem State.core_modCl (s : State) (n : Nat) (g : Cluster → Cluster) (c : Nat) :
    (s.modCl n g).core c = s.core c := rfl

@[simp] theorem State.cl_setCore (s : State) (c : Nat) (k : Core) (n : Nat) : (s.setCore c k).cl n = s.cl n := rfl

@[simp] theorem State.cl_modCore (s : State) (c : Nat) (g : Core → Core) (n : Nat) : (s.modCore c g).cl n = s.cl n := rfl

/-! ### Registers -/

theorem Core.getX_zero (k : Core) : k.getX 0 = 0 := rfl

theorem Core.setX_zero (k : Core) (v : Word) : k.setX 0 v = k := rfl

theorem Core.getX_setX (k : Core) {r : Nat} (v : Word) (h : r ≠ 0) : (k.setX r v).getX r = v := by
  simp [Core.getX, Core.setX, h]

theorem Core.getX_setX_ne (k : Core) {r j : Nat} (v : Word) (h : j ≠ r) : (k.setX r v).getX j = k.getX j := by
  unfold Core.getX Core.setX
  by_cases hr : r = 0
  · simp [hr]
  · by_cases hj : j = 0
    · simp [hj]
    · simp [hr, hj, mgetD_mset_ne _ _ _ h]

theorem Core.getV_setV (k : Core) (r : Nat) (v : Vec) : (k.setV r v).getV r = v := by simp [Core.getV, Core.setV]

theorem Core.getV_setV_ne (k : Core) {r j : Nat} (v : Vec) (h : j ≠ r) : (k.setV r v).getV j = k.getV j := by
  simp [Core.getV, Core.setV, mgetD_mset_ne _ _ _ h]

theorem Core.getM_zero (k : Core) : k.getM 0 = BitVec.allOnes 128 := rfl

theorem Core.getM_setM (k : Core) {r : Nat} (v : MaskWord) (h : r ≠ 0) : (k.setM r v).getM r = v := by
  simp [Core.getM, Core.setM, h]

theorem Core.getM_setM_ne (k : Core) {r j : Nat} (v : MaskWord) (h : j ≠ r) : (k.setM r v).getM j = k.getM j := by
  unfold Core.getM Core.setM
  by_cases hr : r = 0
  · simp [hr]
  · by_cases hj : j = 0
    · simp [hj]
    · simp [hr, hj, mgetD_mset_ne _ _ _ h]

end Sys2Proof.Machine
end

