-- ==== Sys2Proof/Laws/Memory.lean ====
section
/-!
SUPPORT. Memory: what a read gives after a write, and that every memory operation keeps the canonical form.
-/

namespace Sys2Proof.Machine

/-! ### Read after write -/

/-- Every key of a list in canonical form lies above its bound. -/
theorem memGet_of_lt {m : List Host.Cell} {k a : Nat} (h : memAbove (some k) m = true) (ha : a ≤ k) : memGet m a = 0 := by
  induction m generalizing k with
  | nil => rfl
  | cons p r ih =>
    obtain ⟨j, b⟩ := p
    simp only [memAbove, Bool.and_eq_true, decide_eq_true_eq] at h
    simp only [memGet]
    rw [if_neg (by omega)]
    exact ih h.2 (by omega)

theorem memAbove_weaken {m : List Host.Cell} {lo : Option Nat} {k : Nat} (h : memAbove (some k) m = true)
    (hl : ∀ l, lo = some l → l ≤ k) : memAbove lo m = true := by
  cases m with
  | nil => rfl
  | cons p r =>
    obtain ⟨j, b⟩ := p
    simp only [memAbove, Bool.and_eq_true, decide_eq_true_eq] at h ⊢
    refine ⟨⟨?_, h.1.2⟩, h.2⟩
    cases lo with
    | none => rfl
    | some l => have := hl l rfl; simp; omega

theorem memAbove_none {m : List Host.Cell} {lo : Option Nat} (h : memAbove lo m = true) : memAbove none m = true := by
  cases m with
  | nil => rfl
  | cons p r =>
    obtain ⟨j, b⟩ := p
    simp only [memAbove, Bool.and_eq_true] at h ⊢
    exact ⟨⟨trivial, h.1.2⟩, h.2⟩

theorem memGet_memSet {m : List Host.Cell} {lo : Option Nat} (h : memAbove lo m = true) (a : Nat) (b : Byte) (x : Nat) :
    memGet (memSet m a b) x = if x = a then b else memGet m x := by
  induction m generalizing lo with
  | nil =>
    simp only [memSet, memGet]
    by_cases hb : b = 0
    · rw [if_pos hb]
      simp only [memGet, hb]
      split <;> rfl
    · rw [if_neg hb]
      simp only [memGet]
      by_cases hx : x = a
      · rw [if_pos hx, if_pos hx.symm]
      · rw [if_neg hx, if_neg (Ne.symm hx)]
  | cons p r ih =>
    obtain ⟨k, c⟩ := p
    simp only [memAbove, Bool.and_eq_true, decide_eq_true_eq] at h
    simp only [memSet]
    by_cases h1 : a < k
    · rw [if_pos h1]
      by_cases hb : b = 0
      · rw [if_pos hb]
        by_cases hx : x = a
        · subst hx
          rw [if_pos rfl, hb]
          simp only [memGet]
          rw [if_neg (by omega)]
          exact memGet_of_lt h.2 (by omega)
        · rw [if_neg hx]
      · rw [if_neg hb]
        by_cases hx : x = a
        · simp [memGet, hx]
        · simp [memGet, hx, Ne.symm hx]
    · rw [if_neg h1]
      by_cases h2 : a = k
      · subst h2
        rw [if_pos rfl]
        by_cases hb : b = 0
        · rw [if_pos hb]
          by_cases hx : x = a
          · subst hx
            rw [if_pos rfl, hb]
            exact memGet_of_lt h.2 (by omega)
          · simp [memGet, hx, Ne.symm hx]
        · rw [if_neg hb]
          by_cases hx : x = a
          · simp [memGet, hx]
          · simp [memGet, hx, Ne.symm hx]
      · rw [if_neg h2]
        simp only [memGet]
        by_cases hk : k = x
        · subst hk
          rw [if_pos rfl, if_neg (by omega), if_pos rfl]
        · rw [if_neg hk, if_neg hk, ih h.2]

/-! ### The canonical form is kept -/

theorem memAbove_memSet {m : List Host.Cell} {lo : Option Nat} (h : memAbove lo m = true) (a : Nat) (b : Byte)
    (hl : ∀ l, lo = some l → l < a) : memAbove lo (memSet m a b) = true := by
  induction m generalizing lo with
  | nil =>
    simp only [memSet]
    split
    · rfl
    · rename_i hb
      have hb' : decide (b ≠ 0) = true := decide_eq_true hb
      cases lo with
      | none => simp only [memAbove, hb', Bool.and_self]
      | some l => simp only [memAbove, hb', decide_eq_true (hl l rfl), Bool.and_self]
  | cons p r ih =>
    obtain ⟨k, c⟩ := p
    have h' := h
    simp only [memAbove, Bool.and_eq_true, decide_eq_true_eq] at h
    simp only [memSet]
    split
    · rename_i h1
      split
      · exact h'
      · rename_i hb
        simp only [memAbove, Bool.and_eq_true, decide_eq_true_eq]
        refine ⟨⟨?_, hb⟩, ⟨h1, h.1.2⟩, h.2⟩
        cases lo with
        | none => rfl
        | some l => simpa using hl l rfl
    · split
      · rename_i h1 h2
        subst h2
        split
        · exact memAbove_weaken h.2 (fun l e => Nat.le_of_lt (hl l e))
        · rename_i hb
          simp only [memAbove, Bool.and_eq_true, decide_eq_true_eq]
          exact ⟨⟨h.1.1, hb⟩, h.2⟩
      · rename_i h1 h2
        simp only [memAbove, Bool.and_eq_true, decide_eq_true_eq]
        refine ⟨h.1, ih h.2 ?_⟩
        intro l e
        injection e with e
        omega

theorem Memory.wf_memSet {m : List Host.Cell} (h : Memory.wf m = true) (a : Nat) (b : Byte) :
    Memory.wf (memSet m a b) = true := memAbove_memSet h a b (by simp)

theorem Memory.wf_memWrite {m : List Host.Cell} (h : Memory.wf m = true) (a : Nat) (bs : List Byte) :
    Memory.wf (memWrite m a bs) = true := by
  induction bs generalizing m a with
  | nil => exact h
  | cons b r ih => exact ih (Memory.wf_memSet h a b) (a + 1)

theorem Memory.wf_memPut {m : List Host.Cell} (h : Memory.wf m = true) (lo : Nat) (cs : List Host.Cell) :
    Memory.wf (memPut m lo cs) = true := by
  induction cs generalizing m with
  | nil => exact h
  | cons p r ih =>
    obtain ⟨k, b⟩ := p
    exact ih (Memory.wf_memSet h (lo + k) b)

theorem memAbove_filter {m : List Host.Cell} {lo : Option Nat} (h : memAbove lo m = true) (p : Host.Cell → Bool) :
    memAbove lo (m.filter p) = true := by
  induction m generalizing lo with
  | nil => rfl
  | cons c r ih =>
    obtain ⟨k, b⟩ := c
    simp only [memAbove, Bool.and_eq_true, decide_eq_true_eq] at h
    simp only [List.filter]
    split
    · simp only [memAbove, Bool.and_eq_true, decide_eq_true_eq]
      exact ⟨h.1, ih h.2⟩
    · refine ih (memAbove_weaken h.2 ?_)
      intro l e
      subst e
      have := h.1.1
      simp at this
      omega

theorem Memory.wf_filter {m : List Host.Cell} (h : Memory.wf m = true) (p : Host.Cell → Bool) :
    Memory.wf (m.filter p) = true := memAbove_filter h p

theorem Memory.wf_memClear {m : List Host.Cell} (h : Memory.wf m = true) (lo n : Nat) :
    Memory.wf (memClear m lo n) = true := Memory.wf_filter h _

theorem Memory.wf_writeAll {m : List Host.Cell} (h : Memory.wf m = true) (ps : List (Nat × List Byte)) :
    Memory.wf (ps.foldl (fun m p => memWrite m p.1 p.2) m) = true := by
  induction ps generalizing m with
  | nil => exact h
  | cons p r ih => exact ih (Memory.wf_memWrite h p.1 p.2)

theorem State.wf_writeOnce {s : State} (h : Memory.wf s.mem = true) (a : Nat) (bs : List Byte) :
    Memory.wf (s.writeOnce a bs).mem = true := Memory.wf_memWrite h a bs

theorem State.wf_writeParts {s : State} (h : Memory.wf s.mem = true) (ps : List (Nat × List Byte)) :
    Memory.wf (s.writeParts ps).mem = true := Memory.wf_writeAll h ps

/-! ### Several bytes -/

theorem memGet_memWrite {m : List Host.Cell} (h : Memory.wf m = true) (a : Nat) (bs : List Byte) (x : Nat) :
    memGet (memWrite m a bs) x = if a ≤ x ∧ x < a + bs.length then bs.getD (x - a) 0 else memGet m x := by
  induction bs generalizing m a with
  | nil => simp only [memWrite, List.length_nil]; rw [if_neg (by omega)]
  | cons b r ih =>
    simp only [memWrite, List.length_cons]
    rw [ih (Memory.wf_memSet h a b), memGet_memSet h]
    by_cases hx : x = a
    · subst hx
      rw [if_neg (by omega), if_pos rfl, if_pos (by omega)]
      simp
    · by_cases hr : a + 1 ≤ x ∧ x < a + 1 + r.length
      · rw [if_pos hr, if_pos (by omega)]
        have : x - a = (x - (a + 1)) + 1 := by omega
        rw [this]
        simp
      · rw [if_neg hr, if_neg hx, if_neg (by omega)]

theorem memRead_length (m : List Host.Cell) (a n : Nat) : (memRead m a n).length = n := by
  induction n generalizing a with
  | zero => rfl
  | succ n ih => simp [memRead, ih]

theorem memRead_memWrite_same {m : List Host.Cell} (h : Memory.wf m = true) (a : Nat) (bs : List Byte) :
    memRead (memWrite m a bs) a bs.length = bs := by
  have key : ∀ (n i : Nat), i + n = bs.length → memRead (memWrite m a bs) (a + i) n = bs.drop i := by
    intro n
    induction n with
    | zero =>
      intro i hi
      simp only [Nat.add_zero] at hi
      simp [memRead, hi]
    | succ n ih =>
      intro i hi
      simp only [memRead]
      rw [memGet_memWrite h, if_pos (by omega)]
      have e : a + i + 1 = a + (i + 1) := by omega
      rw [e, ih (i + 1) (by omega)]
      have hl : i < bs.length := by omega
      rw [List.drop_eq_getElem_cons hl]
      simp [List.getD_eq_getElem?_getD, hl]
  have := key bs.length 0 (by omega)
  simpa using this

theorem memRead_memWrite_disjoint {m : List Host.Cell} (h : Memory.wf m = true) (a : Nat) (bs : List Byte) (x n : Nat)
    (hd : x + n ≤ a ∨ a + bs.length ≤ x) : memRead (memWrite m a bs) x n = memRead m x n := by
  induction n generalizing x with
  | zero => rfl
  | succ n ih =>
    simp only [memRead]
    rw [memGet_memWrite h, if_neg (by omega), ih (x + 1) (by omega)]

/-- Two memories in canonical form that read alike are equal data. -/
theorem Memory.ext {m m' : List Host.Cell} {lo lo' : Option Nat} (h : memAbove lo m = true) (h' : memAbove lo' m' = true)
    (e : ∀ a, memGet m a = memGet m' a) : m = m' := by
  induction m generalizing lo lo' m' with
  | nil =>
    cases m' with
    | nil => rfl
    | cons p r =>
      obtain ⟨k, b⟩ := p
      simp only [memAbove, Bool.and_eq_true, decide_eq_true_eq] at h'
      have := e k
      simp [memGet] at this
      exact absurd this.symm h'.1.2
  | cons p r ih =>
    obtain ⟨k, b⟩ := p
    have hk := h
    simp only [memAbove, Bool.and_eq_true, decide_eq_true_eq] at h
    cases m' with
    | nil =>
      have := e k
      simp [memGet] at this
      exact absurd this h.1.2
    | cons q t =>
      obtain ⟨j, c⟩ := q
      simp only [memAbove, Bool.and_eq_true, decide_eq_true_eq] at h'
      have hkj : k = j := by
        rcases Nat.lt_trichotomy k j with hlt | heq | hgt
        · have := e k
          simp only [memGet, if_true] at this
          rw [if_neg (by omega), memGet_of_lt h'.2 (by omega)] at this
          exact absurd this h.1.2
        · exact heq
        · have := e j
          simp only [memGet, if_true] at this
          rw [if_neg (by omega), memGet_of_lt h.2 (by omega)] at this
          exact absurd this.symm h'.1.2
      subst hkj
      have hbc : b = c := by
        have := e k
        simpa [memGet] using this
      subst hbc
      have : r = t := by
        refine ih h.2 h'.2 ?_
        intro a
        by_cases ha : a ≤ k
        · rw [memGet_of_lt h.2 ha, memGet_of_lt h'.2 ha]
        · have := e a
          simp only [memGet] at this
          rwa [if_neg (by omega), if_neg (by omega)] at this
      rw [this]

end Sys2Proof.Machine
end

