-- ==== Sys2Proof/Laws/Ops.lean ====
section
/-!
SUPPORT. The operations that meanings are written with, evaluated once: what each answers on a core whose registers are
free, so that no later proof unfolds them.
-/

namespace Sys2Proof.Machine

/-! ### The monad -/

theorem M.bind_ok {α β : Type} {x : M α} {f : α → M β} {s t : State} {a : α} (h : x s = .ok (a, t)) :
    (x >>= f) s = f a t := by
  simp [bind, StateT.bind, h, Except.bind]

theorem M.bind_error {α β : Type} {x : M α} {f : α → M β} {s : State} {e : Stop} (h : x s = .error e) :
    (x >>= f) s = .error e := by
  simp [bind, StateT.bind, h, Except.bind]

theorem M.bind_eq {α β : Type} (x : M α) (f : α → M β) (s : State) :
    (x >>= f) s = match x s with | .ok p => f p.1 p.2 | .error e => .error e := by
  cases h : x s with
  | ok p => simp [bind, StateT.bind, h, Except.bind]
  | error e => simp [bind, StateT.bind, h, Except.bind]

@[simp] theorem M.pure_eq {α : Type} (a : α) (s : State) : (pure a : M α) s = .ok (a, s) := rfl

@[simp] theorem M.get_eq (s : State) : (get : M State) s = .ok (s, s) := rfl

@[simp] theorem M.modify_eq (f : State → State) (s : State) : (modify f : M PUnit) s = .ok (⟨⟩, f s) := rfl

@[simp] theorem M.set_eq (t s : State) : (set t : M PUnit) s = .ok (⟨⟩, t) := rfl

@[simp] theorem here_eq (s : State) : here s = .ok (s.core s.cur, s) := rfl

@[simp] theorem modHere_eq (f : Core → Core) (s : State) : modHere f s = .ok ((), s.modCore s.cur f) := rfl

@[simp] theorem modClHere_eq (f : Cluster → Cluster) (s : State) :
    modClHere f s = .ok ((), s.modCl (clusterOf s.cur) f) := rfl

@[simp] theorem modIssue_eq (f : Issue → Issue) (s : State) : modIssue f s = .ok ((), { s with issue := f s.issue }) := rfl

@[simp] theorem freshId_eq (s : State) : freshId s = .ok (s.nextId, { s with nextId := s.nextId + 1 }) := rfl

@[simp] theorem stall_eq {α : Type} (n : Note) (s : State) : (stall n : M α) s = .error (.stall n) := rfl

@[simp] theorem fault_eq {α : Type} (c : Cause) (i : Word) (s : State) : (fault c i : M α) s = .error (.fault c i) := rfl

@[simp] theorem stopWith_eq {α : Type} (e : Stop) (s : State) : (stopWith e : M α) s = .error e := rfl

@[simp] theorem await_true (s : State) : await true s = .ok ((), s) := rfl

@[simp] theorem await_false (s : State) : await false s = .error (.stall .none) := rfl

@[simp] theorem require_true (c : Cause) (i : Word) (s : State) : require true c i s = .ok ((), s) := rfl

@[simp] theorem require_false (c : Cause) (i : Word) (s : State) : require false c i s = .error (.fault c i) := rfl

/-! ### A lone word -/

theorem State.lone_issue {s : State} (h : s.lone = true) : s.issue = { Issue.start with word := s.issue.word } :=
  of_decide_eq_true h

theorem State.lone_slot {s : State} (h : s.lone = true) : s.issue.slot = .lone := by rw [State.lone_issue h]; rfl

theorem State.lone_snap {s : State} (h : s.lone = true) : s.issue.snap = none := by rw [State.lone_issue h]; rfl

theorem State.lone_after {s : State} (h : s.lone = true) : s.issue.after = .none := by rw [State.lone_issue h]; rfl

theorem State.lone_target {s : State} (h : s.lone = true) : s.issue.target = none := by rw [State.lone_issue h]; rfl

theorem State.lone_popped {s : State} (h : s.lone = true) : s.issue.popped = [] := by rw [State.lone_issue h]; rfl

theorem source_eq {s : State} (h : s.issue.snap = none) : source s = .ok (s.core s.cur, s) := by
  simp [source, h]

/-- A lone word whose operation answers runs on to the next word, or to the target that the operation set. -/
theorem issueHalf_lone {op : M Unit} {s t : State} (h : s.lone = true) (hop : op s = .ok ((), t))
    (hi : t.issue.after = .none) (hs : t.issue.slot = .lone) (hp : (t.core t.cur).pc = (s.core s.cur).pc) :
    issueHalf op s = .next (t.goes (t.issue.target.getD (s.me.pc + 4))) := by
  unfold issueHalf
  rw [State.lone_slot h]
  simp only []
  rw [M.bind_ok hop]
  simp [complete, M.bind_eq, hi, pastPair, hs, State.goes, State.onMe, State.me, hp, Core.afresh]

/-- The same for an operation that sets no target. -/
theorem issueHalf_past {op : M Unit} {s t : State} (h : s.lone = true) (hop : op s = .ok ((), t))
    (hi : t.issue = s.issue) (hp : (t.core t.cur).pc = (s.core s.cur).pc) :
    issueHalf op s = .next t.past := by
  have := issueHalf_lone h hop (by rw [hi, State.lone_after h]) (by rw [hi, State.lone_slot h]) hp
  rw [this, hi, State.lone_target h]
  simp [State.past, State.me, hp]

/-- A lone word whose operation stops settles the stop, with nothing else changed (00 R10, R11). -/
theorem issueHalf_stop {op : M Unit} {s : State} {e : Stop} (h : s.lone = true) (hop : op s = .error e) :
    issueHalf op s = .next (s.settle e) := by
  unfold issueHalf
  rw [State.lone_slot h]
  simp only []
  rw [M.bind_error hop]

/-! ### Registers -/

theorem Core.waits_none {k : Core} {d : Dest} (h : k.isPending d = false) :
    k.waits.find? (fun w => decide (w.dest = d)) = none := by
  simp only [Core.isPending, Bool.or_eq_false_iff] at h
  rw [List.find?_eq_none]
  intro w hw
  have := h.2
  rw [List.any_eq_false] at this
  exact this w hw

theorem touch_free {s : State} {d : Dest} (read : Bool) (hs : s.issue.snap = none)
    (h : (s.core s.cur).isPending d = false) : touch d read s = .ok ((), s) := by
  unfold touch
  rw [M.bind_ok (source_eq hs), Core.waits_none h]
  simp only [Core.isPending, Bool.or_eq_false_iff] at h
  rw [h.1]
  rfl

theorem readX_free {s : State} {r : Reg} (hs : s.issue.snap = none) (h : (s.core s.cur).xFree r = true) :
    readX r s = .ok ((s.core s.cur).getX r.toNat, s) := by
  unfold readX
  by_cases h0 : r = 0
  · subst h0; rfl
  · rw [if_neg h0]
    simp only [Core.xFree, h0, decide_false, Bool.false_or, Bool.and_eq_true, Bool.not_eq_true'] at h
    rw [M.bind_ok (touch_free true hs h.1), M.bind_ok (source_eq hs)]
    have hu := h.2
    simp only [Core.unbound, Bool.or_eq_true, decide_eq_true_eq, Option.isNone_iff_eq_none] at hu
    by_cases h24 : 24 ≤ r.toNat
    · rw [if_pos h24]
      rcases hu with hu | hu
      · omega
      · rw [hu]; rfl
    · rw [if_neg h24]; rfl

theorem writeX_free {s : State} {r : Reg} (v : Word) (hs : s.issue.snap = none)
    (h : (s.core s.cur).xFree r = true) : writeX r v s = .ok ((), s.putX r v) := by
  unfold writeX State.putX State.onMe
  by_cases h0 : r = 0
  · rw [if_pos h0, if_pos h0]; rfl
  · rw [if_neg h0, if_neg h0]
    simp only [Core.xFree, h0, decide_false, Bool.false_or, Bool.and_eq_true, Bool.not_eq_true'] at h
    rw [M.bind_ok (touch_free false hs h.1), M.bind_ok (source_eq hs)]
    have hu := h.2
    simp only [Core.unbound, Bool.or_eq_true, decide_eq_true_eq, Option.isNone_iff_eq_none] at hu
    by_cases h24 : 24 ≤ r.toNat
    · rw [if_pos h24]
      rcases hu with hu | hu
      · omega
      · rw [hu]; rfl
    · rw [if_neg h24]; rfl

theorem claimX_free {s : State} {r : Reg} (hs : s.issue.snap = none) (h : (s.core s.cur).xFree r = true) :
    claimX r s = .ok ((), s) := by
  unfold claimX
  by_cases h0 : r = 0
  · rw [if_pos h0]; rfl
  · rw [if_neg h0]
    simp only [Core.xFree, h0, decide_false, Bool.false_or, Bool.and_eq_true, Bool.not_eq_true'] at h
    rw [M.bind_ok (touch_free false hs h.1), M.bind_ok (source_eq hs)]
    have hu := h.2
    simp only [Core.unbound, Bool.or_eq_true, decide_eq_true_eq, Option.isNone_iff_eq_none] at hu
    by_cases h24 : 24 ≤ r.toNat
    · rw [if_pos h24]
      rcases hu with hu | hu
      · omega
      · rw [hu]; rfl
    · rw [if_neg h24]; rfl

@[simp] theorem writeLate_eq (d : Dest) (v : Vec) (f : BitVec 6) (lat : Nat) (dv : ResultUnit) (s : State) :
    writeLate d v f lat dv s = .ok ((), s.later d v f lat dv) := rfl

theorem writeXLate_free {s : State} {r : Reg} (v : Word) (lat : Nat) (dv : ResultUnit) (hs : s.issue.snap = none)
    (h : (s.core s.cur).xFree r = true) :
    writeXLate r v lat dv s = .ok ((), s.later (.x r.toNat) (v.setWidth 1024) 0 lat dv) := by
  unfold writeXLate
  rw [M.bind_ok (claimX_free hs h), writeLate_eq]

theorem readV_free {s : State} {r : Reg} (hs : s.issue.snap = none) (h : (s.core s.cur).vFree r = true) :
    readV r s = .ok ((s.core s.cur).getV r.toNat, s) := by
  unfold readV
  simp only [Core.vFree, Bool.not_eq_true'] at h
  rw [M.bind_ok (touch_free true hs h), M.bind_ok (source_eq hs)]
  rfl

theorem readM_free {s : State} {r : Nat} (hs : s.issue.snap = none) (h : (s.core s.cur).mFree r = true) :
    readM r s = .ok ((s.core s.cur).getM r, s) := by
  unfold readM
  by_cases h0 : r = 0
  · subst h0; rfl
  · rw [if_neg h0]
    simp only [Core.mFree, h0, decide_false, Bool.false_or, Bool.not_eq_true'] at h
    rw [M.bind_ok (touch_free true hs h), M.bind_ok (source_eq hs)]
    rfl

theorem writeV_free {s : State} {r : Reg} (v : Vec) (f : BitVec 6) (lat : Nat) (hs : s.issue.snap = none)
    (h : (s.core s.cur).vFree r = true) :
    writeV r v f lat s = .ok ((), if lat = 1 then s.putV r v else s.later (.v r.toNat) v f lat) := by
  unfold writeV
  simp only [Core.vFree, Bool.not_eq_true'] at h
  rw [M.bind_ok (touch_free false hs h)]
  split <;> rfl

theorem writeM_free {s : State} {r : Reg} (v : MaskWord) (f : BitVec 6) (lat : Nat) (hs : s.issue.snap = none)
    (h : (s.core s.cur).isPending (.m r.toNat) = false) :
    writeM r v f lat s = .ok ((), if lat = 1 then s.putM r v else s.later (.m r.toNat) (v.setWidth 1024) f lat) := by
  unfold writeM
  rw [M.bind_ok (touch_free false hs h)]
  split <;> rfl

/-! ### What the helpers of claims leave alone -/

@[simp] theorem State.onMe_cur (s : State) (f : Core → Core) : (s.onMe f).cur = s.cur := rfl
@[simp] theorem State.onMe_issue (s : State) (f : Core → Core) : (s.onMe f).issue = s.issue := rfl
@[simp] theorem State.core_onMe (s : State) (f : Core → Core) : (s.onMe f).core s.cur = f (s.core s.cur) := by
  simp [State.onMe]
@[simp] theorem State.me_onMe (s : State) (f : Core → Core) : (s.onMe f).me = f s.me := by
  simp [State.me, State.onMe]

@[simp] theorem State.putX_cur (s : State) (r : Reg) (v : Word) : (s.putX r v).cur = s.cur := by
  unfold State.putX; split <;> rfl
@[simp] theorem State.putX_issue (s : State) (r : Reg) (v : Word) : (s.putX r v).issue = s.issue := by
  unfold State.putX; split <;> rfl
@[simp] theorem State.putX_clk (s : State) (r : Reg) (v : Word) : (s.putX r v).clk = s.clk := by
  unfold State.putX; split <;> rfl
theorem State.me_putX (s : State) (r : Reg) (v : Word) : (s.putX r v).me = s.me.setX r.toNat v := by
  unfold State.putX
  split
  · rename_i h; subst h; rfl
  · simp
@[simp] theorem State.pc_putX (s : State) (r : Reg) (v : Word) : ((s.putX r v).core s.cur).pc = (s.core s.cur).pc := by
  have := State.me_putX s r v
  simp only [State.me, State.putX_cur] at this
  rw [this]
  unfold Core.setX
  split <;> rfl

@[simp] theorem State.putV_cur (s : State) (r : Reg) (v : Vec) : (s.putV r v).cur = s.cur := rfl
@[simp] theorem State.putV_issue (s : State) (r : Reg) (v : Vec) : (s.putV r v).issue = s.issue := rfl
@[simp] theorem State.pc_putV (s : State) (r : Reg) (v : Vec) : ((s.putV r v).core s.cur).pc = (s.core s.cur).pc := by
  simp [State.putV, Core.setV]

@[simp] theorem State.putM_cur (s : State) (r : Reg) (v : MaskWord) : (s.putM r v).cur = s.cur := rfl
@[simp] theorem State.putM_issue (s : State) (r : Reg) (v : MaskWord) : (s.putM r v).issue = s.issue := rfl
@[simp] theorem State.pc_putM (s : State) (r : Reg) (v : MaskWord) : ((s.putM r v).core s.cur).pc = (s.core s.cur).pc := by
  simp only [State.putM, State.core_onMe, Core.setM]
  split <;> rfl

@[simp] theorem State.later_cur (s : State) (d : Dest) (v : Vec) (f : BitVec 6) (lat : Nat) (dv : ResultUnit) :
    (s.later d v f lat dv).cur = s.cur := rfl
@[simp] theorem State.later_issue (s : State) (d : Dest) (v : Vec) (f : BitVec 6) (lat : Nat) (dv : ResultUnit) :
    (s.later d v f lat dv).issue = s.issue := rfl
@[simp] theorem State.pc_later (s : State) (d : Dest) (v : Vec) (f : BitVec 6) (lat : Nat) (dv : ResultUnit) :
    ((s.later d v f lat dv).core s.cur).pc = (s.core s.cur).pc := by
  have : (s.later d v f lat dv).core s.cur = (fun k : Core => { k with pending := k.pending ++ [⟨s.nextId, d, v, f, s.clk + lat, dv⟩] }) (s.core s.cur) :=
    State.core_onMe ({ s with nextId := s.nextId + 1 } : State) _
  rw [this]

end Sys2Proof.Machine
end

