-- ==== Sys2Proof/Laws/PerInstr.lean ====
section
/-!
SUPPORT. The family Lone: bit 31 of the word of every instruction is the L that was asked for (01 R33); a step of another unit has no
word.
-/

namespace Sys2Proof.Laws.Lone

/-- Bit 31 of the instruction's word, if it has one, is L. -/
def Statement (i : Instr) : Prop := ∀ l : BitVec 1, (encodeWith l i).all (fun w => decide (w.extractLsb' 31 1 = l)) = true

/-- The highest bit of a word of 32 bits. -/
theorem bit31 {w : InstrWord} {l : BitVec 1} (h : w.getLsbD 31 = l.getLsbD 0) : w.extractLsb' 31 1 = l := by
  apply BitVec.eq_of_getLsbD_eq
  intro i hi
  obtain rfl : i = 0 := by omega
  simpa using h

/-- The highest bit of two fields is that of the first. -/
theorem lead {n k : Nat} (x : BitVec n) (y : BitVec k) (i : Nat) (h : k ≤ i) : (x ++ y).getLsbD i = x.getLsbD (i - k) := by
  simp [BitVec.getLsbD_append, Nat.not_lt.mpr h]

theorem iWord_lead (l : BitVec 1) (m : BitVec 6) (d a : Reg) (i : BitVec 15) : (iWord l m d a i).extractLsb' 31 1 = l :=
  bit31 ((lead _ _ 31 (by decide)).trans ((lead _ _ 16 (by decide)).trans ((lead _ _ 11 (by decide)).trans ((lead _ _ 6 (by decide))))))

theorem jWord_lead (l : BitVec 1) (m : BitVec 6) (o : BitVec 25) : (jWord l m o).extractLsb' 31 1 = l :=
  bit31 ((lead _ _ 31 (by decide)).trans ((lead _ _ 6 (by decide))))

theorem mWord_lead (l : BitVec 1) (m : BitVec 6) (d a : Reg) (z : BitVec 3) (c : BitVec 2) (o : BitVec 10) : (mWord l m d a z c o).extractLsb' 31 1 = l :=
  bit31 ((lead _ _ 31 (by decide)).trans ((lead _ _ 21 (by decide)).trans ((lead _ _ 19 (by decide)).trans ((lead _ _ 16 (by decide)).trans ((lead _ _ 11 (by decide)).trans ((lead _ _ 6 (by decide))))))))

theorem qWord_lead (l : BitVec 1) (m : BitVec 6) (d a b : Reg) (k : Reg3) (f : BitVec 7) : (qWord l m d a b k f).extractLsb' 31 1 = l :=
  bit31 ((lead _ _ 31 (by decide)).trans ((lead _ _ 24 (by decide)).trans ((lead _ _ 21 (by decide)).trans ((lead _ _ 16 (by decide)).trans ((lead _ _ 11 (by decide)).trans ((lead _ _ 6 (by decide))))))))

theorem rWord_lead (l : BitVec 1) (m : BitVec 6) (d a b : Reg) (f : BitVec 10) : (rWord l m d a b f).extractLsb' 31 1 = l :=
  bit31 ((lead _ _ 31 (by decide)).trans ((lead _ _ 21 (by decide)).trans ((lead _ _ 16 (by decide)).trans ((lead _ _ 11 (by decide)).trans ((lead _ _ 6 (by decide)))))))

theorem uWord_lead (l : BitVec 1) (m : BitVec 6) (d : Reg) (i : BitVec 20) : (uWord l m d i).extractLsb' 31 1 = l :=
  bit31 ((lead _ _ 31 (by decide)).trans ((lead _ _ 11 (by decide)).trans ((lead _ _ 6 (by decide)))))

theorem vWord_lead (l : BitVec 1) (m : BitVec 6) (d a b : Reg) (t : BitVec 4) (k f : Reg3) : (vWord l m d a b t k f).extractLsb' 31 1 = l :=
  bit31 ((lead _ _ 31 (by decide)).trans ((lead _ _ 28 (by decide)).trans ((lead _ _ 25 (by decide)).trans ((lead _ _ 21 (by decide)).trans ((lead _ _ 16 (by decide)).trans ((lead _ _ 11 (by decide)).trans ((lead _ _ 6 (by decide)))))))))

theorem add : ∀ a0 a1 a2, Statement (.add a0 a1 a2) := fun _ _ _ l => decide_eq_true (rWord_lead l _ _ _ _ _)
theorem sub : ∀ a0 a1 a2, Statement (.sub a0 a1 a2) := fun _ _ _ l => decide_eq_true (rWord_lead l _ _ _ _ _)
theorem and : ∀ a0 a1 a2, Statement (.and a0 a1 a2) := fun _ _ _ l => decide_eq_true (rWord_lead l _ _ _ _ _)
theorem or : ∀ a0 a1 a2, Statement (.or a0 a1 a2) := fun _ _ _ l => decide_eq_true (rWord_lead l _ _ _ _ _)
theorem xor : ∀ a0 a1 a2, Statement (.xor a0 a1 a2) := fun _ _ _ l => decide_eq_true (rWord_lead l _ _ _ _ _)
theorem andn : ∀ a0 a1 a2, Statement (.andn a0 a1 a2) := fun _ _ _ l => decide_eq_true (rWord_lead l _ _ _ _ _)
theorem sll : ∀ a0 a1 a2, Statement (.sll a0 a1 a2) := fun _ _ _ l => decide_eq_true (rWord_lead l _ _ _ _ _)
theorem srl : ∀ a0 a1 a2, Statement (.srl a0 a1 a2) := fun _ _ _ l => decide_eq_true (rWord_lead l _ _ _ _ _)
theorem sra : ∀ a0 a1 a2, Statement (.sra a0 a1 a2) := fun _ _ _ l => decide_eq_true (rWord_lead l _ _ _ _ _)
theorem ror : ∀ a0 a1 a2, Statement (.ror a0 a1 a2) := fun _ _ _ l => decide_eq_true (rWord_lead l _ _ _ _ _)
theorem slt : ∀ a0 a1 a2, Statement (.slt a0 a1 a2) := fun _ _ _ l => decide_eq_true (rWord_lead l _ _ _ _ _)
theorem sltu : ∀ a0 a1 a2, Statement (.sltu a0 a1 a2) := fun _ _ _ l => decide_eq_true (rWord_lead l _ _ _ _ _)
theorem min : ∀ a0 a1 a2, Statement (.min a0 a1 a2) := fun _ _ _ l => decide_eq_true (rWord_lead l _ _ _ _ _)
theorem max : ∀ a0 a1 a2, Statement (.max a0 a1 a2) := fun _ _ _ l => decide_eq_true (rWord_lead l _ _ _ _ _)
theorem minu : ∀ a0 a1 a2, Statement (.minu a0 a1 a2) := fun _ _ _ l => decide_eq_true (rWord_lead l _ _ _ _ _)
theorem maxu : ∀ a0 a1 a2, Statement (.maxu a0 a1 a2) := fun _ _ _ l => decide_eq_true (rWord_lead l _ _ _ _ _)
theorem mul : ∀ a0 a1 a2, Statement (.mul a0 a1 a2) := fun _ _ _ l => decide_eq_true (rWord_lead l _ _ _ _ _)
theorem mulh : ∀ a0 a1 a2, Statement (.mulh a0 a1 a2) := fun _ _ _ l => decide_eq_true (rWord_lead l _ _ _ _ _)
theorem mulhu : ∀ a0 a1 a2, Statement (.mulhu a0 a1 a2) := fun _ _ _ l => decide_eq_true (rWord_lead l _ _ _ _ _)
theorem div : ∀ a0 a1 a2, Statement (.div a0 a1 a2) := fun _ _ _ l => decide_eq_true (rWord_lead l _ _ _ _ _)
theorem divu : ∀ a0 a1 a2, Statement (.divu a0 a1 a2) := fun _ _ _ l => decide_eq_true (rWord_lead l _ _ _ _ _)
theorem rem : ∀ a0 a1 a2, Statement (.rem a0 a1 a2) := fun _ _ _ l => decide_eq_true (rWord_lead l _ _ _ _ _)
theorem remu : ∀ a0 a1 a2, Statement (.remu a0 a1 a2) := fun _ _ _ l => decide_eq_true (rWord_lead l _ _ _ _ _)
theorem sh1add : ∀ a0 a1 a2, Statement (.sh1add a0 a1 a2) := fun _ _ _ l => decide_eq_true (rWord_lead l _ _ _ _ _)
theorem sh2add : ∀ a0 a1 a2, Statement (.sh2add a0 a1 a2) := fun _ _ _ l => decide_eq_true (rWord_lead l _ _ _ _ _)
theorem sh3add : ∀ a0 a1 a2, Statement (.sh3add a0 a1 a2) := fun _ _ _ l => decide_eq_true (rWord_lead l _ _ _ _ _)
theorem clz : ∀ a0 a1, Statement (.clz a0 a1) := fun _ _ l => decide_eq_true (rWord_lead l _ _ _ _ _)
theorem ctz : ∀ a0 a1, Statement (.ctz a0 a1) := fun _ _ l => decide_eq_true (rWord_lead l _ _ _ _ _)
theorem popc : ∀ a0 a1, Statement (.popc a0 a1) := fun _ _ l => decide_eq_true (rWord_lead l _ _ _ _ _)
theorem addi : ∀ a0 a1 a2, Statement (.addi a0 a1 a2) := fun _ _ _ l => decide_eq_true (iWord_lead l _ _ _ _)
theorem andi : ∀ a0 a1 a2, Statement (.andi a0 a1 a2) := fun _ _ _ l => decide_eq_true (iWord_lead l _ _ _ _)
theorem ori : ∀ a0 a1 a2, Statement (.ori a0 a1 a2) := fun _ _ _ l => decide_eq_true (iWord_lead l _ _ _ _)
theorem muli : ∀ a0 a1 a2, Statement (.muli a0 a1 a2) := fun _ _ _ l => decide_eq_true (iWord_lead l _ _ _ _)
theorem xori : ∀ a0 a1 a2, Statement (.xori a0 a1 a2) := fun _ _ _ l => decide_eq_true (iWord_lead l _ _ _ _)
theorem slti : ∀ a0 a1 a2, Statement (.slti a0 a1 a2) := fun _ _ _ l => decide_eq_true (iWord_lead l _ _ _ _)
theorem sltiu : ∀ a0 a1 a2, Statement (.sltiu a0 a1 a2) := fun _ _ _ l => decide_eq_true (iWord_lead l _ _ _ _)
theorem slli : ∀ a0 a1 a2, Statement (.slli a0 a1 a2) := fun _ _ _ l => decide_eq_true (iWord_lead l _ _ _ _)
theorem srli : ∀ a0 a1 a2, Statement (.srli a0 a1 a2) := fun _ _ _ l => decide_eq_true (iWord_lead l _ _ _ _)
theorem srai : ∀ a0 a1 a2, Statement (.srai a0 a1 a2) := fun _ _ _ l => decide_eq_true (iWord_lead l _ _ _ _)
theorem rori : ∀ a0 a1 a2, Statement (.rori a0 a1 a2) := fun _ _ _ l => decide_eq_true (iWord_lead l _ _ _ _)
theorem lui : ∀ a0 a1, Statement (.lui a0 a1) := fun _ _ l => decide_eq_true (uWord_lead l _ _ _)
theorem addpc : ∀ a0 a1, Statement (.addpc a0 a1) := fun _ _ l => decide_eq_true (uWord_lead l _ _ _)
theorem luh : ∀ a0 a1, Statement (.luh a0 a1) := fun _ _ l => decide_eq_true (uWord_lead l _ _ _)
theorem beq : ∀ a0 a1 a2, Statement (.beq a0 a1 a2) := fun _ _ _ l => decide_eq_true (iWord_lead l _ _ _ _)
theorem bne : ∀ a0 a1 a2, Statement (.bne a0 a1 a2) := fun _ _ _ l => decide_eq_true (iWord_lead l _ _ _ _)
theorem blt : ∀ a0 a1 a2, Statement (.blt a0 a1 a2) := fun _ _ _ l => decide_eq_true (iWord_lead l _ _ _ _)
theorem bge : ∀ a0 a1 a2, Statement (.bge a0 a1 a2) := fun _ _ _ l => decide_eq_true (iWord_lead l _ _ _ _)
theorem bltu : ∀ a0 a1 a2, Statement (.bltu a0 a1 a2) := fun _ _ _ l => decide_eq_true (iWord_lead l _ _ _ _)
theorem bgeu : ∀ a0 a1 a2, Statement (.bgeu a0 a1 a2) := fun _ _ _ l => decide_eq_true (iWord_lead l _ _ _ _)
theorem j : ∀ a0, Statement (.j a0) := fun _ l => decide_eq_true (jWord_lead l _ _)
theorem jl : ∀ a0, Statement (.jl a0) := fun _ l => decide_eq_true (jWord_lead l _ _)
theorem jlr : ∀ a0 a1 a2, Statement (.jlr a0 a1 a2) := fun _ _ _ l => decide_eq_true (iWord_lead l _ _ _ _)
theorem endA : Statement (.endA) := fun l => decide_eq_true (rWord_lead l _ _ _ _ _)
theorem sysc : Statement (.sysc) := fun l => decide_eq_true (rWord_lead l _ _ _ _ _)
theorem brk : Statement (.brk) := fun l => decide_eq_true (rWord_lead l _ _ _ _ _)
theorem eret : Statement (.eret) := fun l => decide_eq_true (rWord_lead l _ _ _ _ _)
theorem yrd : ∀ a0 a1, Statement (.yrd a0 a1) := fun _ _ l => decide_eq_true (iWord_lead l _ _ _ _)
theorem ywr : ∀ a0 a1, Statement (.ywr a0 a1) := fun _ _ l => decide_eq_true (iWord_lead l _ _ _ _)
theorem ld : ∀ a0 a1 a2 a3, Statement (.ld a0 a1 a2 a3) := fun _ _ _ _ l => decide_eq_true (mWord_lead l _ _ _ _ _ _)
theorem ldz : ∀ a0 a1 a2 a3, Statement (.ldz a0 a1 a2 a3) := fun _ _ _ _ l => decide_eq_true (mWord_lead l _ _ _ _ _ _)
theorem st : ∀ a0 a1 a2 a3, Statement (.st a0 a1 a2 a3) := fun _ _ _ _ l => decide_eq_true (mWord_lead l _ _ _ _ _ _)
theorem ldaq : ∀ a0 a1 a2 a3 a4, Statement (.ldaq a0 a1 a2 a3 a4) := fun _ _ _ _ _ l => decide_eq_true (mWord_lead l _ _ _ _ _ _)
theorem strl : ∀ a0 a1 a2 a3 a4, Statement (.strl a0 a1 a2 a3 a4) := fun _ _ _ _ _ l => decide_eq_true (mWord_lead l _ _ _ _ _ _)
theorem ldx : ∀ a0 a1 a2 a3 a4, Statement (.ldx a0 a1 a2 a3 a4) := fun _ _ _ _ _ l => decide_eq_true (rWord_lead l _ _ _ _ _)
theorem stx : ∀ a0 a1 a2 a3 a4, Statement (.stx a0 a1 a2 a3 a4) := fun _ _ _ _ _ l => decide_eq_true (rWord_lead l _ _ _ _ _)
theorem pref : ∀ a0 a1 a2, Statement (.pref a0 a1 a2) := fun _ _ _ l => decide_eq_true (rWord_lead l _ _ _ _ _)
theorem pld : ∀ a0 a1 a2 a3, Statement (.pld a0 a1 a2 a3) := fun _ _ _ _ l => decide_eq_true (rWord_lead l _ _ _ _ _)
theorem fence : ∀ a0 a1, Statement (.fence a0 a1) := fun _ _ l => decide_eq_true (rWord_lead l _ _ _ _ _)
theorem fencee : ∀ a0 a1, Statement (.fencee a0 a1) := fun _ _ l => decide_eq_true (rWord_lead l _ _ _ _ _)
theorem amo : ∀ a0 a1 a2 a3 a4 a5 a6, Statement (.amo a0 a1 a2 a3 a4 a5 a6) := fun _ _ _ _ _ _ _ l => decide_eq_true (rWord_lead l _ _ _ _ _)
theorem cas : ∀ a0 a1 a2 a3 a4 a5, Statement (.cas a0 a1 a2 a3 a4 a5) := fun _ _ _ _ _ _ l => decide_eq_true (rWord_lead l _ _ _ _ _)
theorem casq : ∀ a0 a1 a2 a3 a4, Statement (.casq a0 a1 a2 a3 a4) := fun _ _ _ _ _ l => decide_eq_true (rWord_lead l _ _ _ _ _)
theorem famo : ∀ a0 a1 a2 a3 a4 a5, Statement (.famo a0 a1 a2 a3 a4 a5) := fun _ _ _ _ _ _ l => decide_eq_true (rWord_lead l _ _ _ _ _)
theorem qpush : ∀ a0 a1, Statement (.qpush a0 a1) := fun _ _ l => decide_eq_true (qWord_lead l _ _ _ _ _ _)
theorem qpushNb : ∀ a0 a1 a2, Statement (.qpushNb a0 a1 a2) := fun _ _ _ l => decide_eq_true (qWord_lead l _ _ _ _ _ _)
theorem qpop : ∀ a0 a1, Statement (.qpop a0 a1) := fun _ _ l => decide_eq_true (qWord_lead l _ _ _ _ _ _)
theorem qtry : ∀ a0 a1 a2, Statement (.qtry a0 a1 a2) := fun _ _ _ l => decide_eq_true (qWord_lead l _ _ _ _ _ _)
theorem qpeek : ∀ a0 a1 a2, Statement (.qpeek a0 a1 a2) := fun _ _ _ l => decide_eq_true (qWord_lead l _ _ _ _ _ _)
theorem qbindIn : ∀ a0 a1, Statement (.qbindIn a0 a1) := fun _ _ l => decide_eq_true (qWord_lead l _ _ _ _ _ _)
theorem qbindOut : ∀ a0 a1, Statement (.qbindOut a0 a1) := fun _ _ l => decide_eq_true (qWord_lead l _ _ _ _ _ _)
theorem qunb : ∀ a0, Statement (.qunb a0) := fun _ l => decide_eq_true (qWord_lead l _ _ _ _ _ _)
theorem qcnt : ∀ a0 a1, Statement (.qcnt a0 a1) := fun _ _ l => decide_eq_true (qWord_lead l _ _ _ _ _ _)
theorem qattr : ∀ a0 a1 a2, Statement (.qattr a0 a1 a2) := fun _ _ _ l => decide_eq_true (qWord_lead l _ _ _ _ _ _)
theorem qmark : ∀ a0, Statement (.qmark a0) := fun _ l => decide_eq_true (qWord_lead l _ _ _ _ _ _)
theorem act : ∀ a0 a1 a2, Statement (.act a0 a1 a2) := fun _ _ _ l => decide_eq_true (qWord_lead l _ _ _ _ _ _)
theorem forkStall : ∀ a0 a1 a2, Statement (.forkStall a0 a1 a2) := fun _ _ _ l => decide_eq_true (qWord_lead l _ _ _ _ _ _)
theorem forkInline : ∀ a0 a1 a2, Statement (.forkInline a0 a1 a2) := fun _ _ _ l => decide_eq_true (qWord_lead l _ _ _ _ _ _)
theorem forkBusy : ∀ a0 a1 a2, Statement (.forkBusy a0 a1 a2) := fun _ _ _ l => decide_eq_true (qWord_lead l _ _ _ _ _ _)
theorem sync : Statement (.sync) := fun l => decide_eq_true (qWord_lead l _ _ _ _ _ _)
theorem spawn : ∀ a0 a1 a2, Statement (.spawn a0 a1 a2) := fun _ _ _ l => decide_eq_true (qWord_lead l _ _ _ _ _ _)
theorem crew : ∀ a0 a1 a2, Statement (.crew a0 a1 a2) := fun _ _ _ l => decide_eq_true (qWord_lead l _ _ _ _ _ _)
theorem yield : Statement (.yield) := fun l => decide_eq_true (qWord_lead l _ _ _ _ _ _)
theorem prio : ∀ a0, Statement (.prio a0) := fun _ l => decide_eq_true (qWord_lead l _ _ _ _ _ _)
theorem bar : ∀ a0, Statement (.bar a0) := fun _ l => decide_eq_true (qWord_lead l _ _ _ _ _ _)
theorem bara : ∀ a0, Statement (.bara a0) := fun _ l => decide_eq_true (qWord_lead l _ _ _ _ _ _)
theorem barw : ∀ a0, Statement (.barw a0) := fun _ l => decide_eq_true (qWord_lead l _ _ _ _ _ _)
theorem binit : ∀ a0 a1, Statement (.binit a0 a1) := fun _ _ l => decide_eq_true (qWord_lead l _ _ _ _ _ _)
theorem rset : ∀ a0 a1 a2, Statement (.rset a0 a1 a2) := fun _ _ _ l => decide_eq_true (qWord_lead l _ _ _ _ _ _)
theorem radvw : ∀ a0 a1, Statement (.radvw a0 a1) := fun _ _ l => decide_eq_true (qWord_lead l _ _ _ _ _ _)
theorem radvr : ∀ a0 a1, Statement (.radvr a0 a1) := fun _ _ l => decide_eq_true (qWord_lead l _ _ _ _ _ _)
theorem rwaitf : ∀ a0 a1, Statement (.rwaitf a0 a1) := fun _ _ l => decide_eq_true (qWord_lead l _ _ _ _ _ _)
theorem rwaite : ∀ a0 a1, Statement (.rwaite a0 a1) := fun _ _ l => decide_eq_true (qWord_lead l _ _ _ _ _ _)
theorem rposW : ∀ a0 a1, Statement (.rposW a0 a1) := fun _ _ l => decide_eq_true (qWord_lead l _ _ _ _ _ _)
theorem rposR : ∀ a0 a1, Statement (.rposR a0 a1) := fun _ _ l => decide_eq_true (qWord_lead l _ _ _ _ _ _)
theorem twait : ∀ a0, Statement (.twait a0) := fun _ l => decide_eq_true (qWord_lead l _ _ _ _ _ _)
theorem tpoll : ∀ a0 a1, Statement (.tpoll a0 a1) := fun _ _ l => decide_eq_true (qWord_lead l _ _ _ _ _ _)
theorem cpy : ∀ a0 a1 a2, Statement (.cpy a0 a1 a2) := fun _ _ _ l => decide_eq_true (qWord_lead l _ _ _ _ _ _)
theorem cpy2 : ∀ a0 a1 a2, Statement (.cpy2 a0 a1 a2) := fun _ _ _ l => decide_eq_true (qWord_lead l _ _ _ _ _ _)
theorem cpyi : ∀ a0 a1 a2, Statement (.cpyi a0 a1 a2) := fun _ _ _ l => decide_eq_true (qWord_lead l _ _ _ _ _ _)
theorem cpys : ∀ a0 a1 a2, Statement (.cpys a0 a1 a2) := fun _ _ _ l => decide_eq_true (qWord_lead l _ _ _ _ _ _)
theorem cfill : ∀ a0 a1 a2, Statement (.cfill a0 a1 a2) := fun _ _ _ l => decide_eq_true (qWord_lead l _ _ _ _ _ _)
theorem carm : ∀ a0 a1 a2, Statement (.carm a0 a1 a2) := fun _ _ _ l => decide_eq_true (qWord_lead l _ _ _ _ _ _)
theorem cdis : ∀ a0, Statement (.cdis a0) := fun _ l => decide_eq_true (qWord_lead l _ _ _ _ _ _)
theorem rld : ∀ a0 a1 a2 a3, Statement (.rld a0 a1 a2 a3) := fun _ _ _ _ l => decide_eq_true (qWord_lead l _ _ _ _ _ _)
theorem rst : ∀ a0 a1 a2 a3, Statement (.rst a0 a1 a2 a3) := fun _ _ _ _ l => decide_eq_true (qWord_lead l _ _ _ _ _ _)
theorem rcas : ∀ a0 a1 a2 a3 a4, Statement (.rcas a0 a1 a2 a3 a4) := fun _ _ _ _ _ l => decide_eq_true (qWord_lead l _ _ _ _ _ _)
theorem ramo : ∀ a0 a1 a2 a3 a4 a5, Statement (.ramo a0 a1 a2 a3 a4 a5) := fun _ _ _ _ _ _ l => decide_eq_true (qWord_lead l _ _ _ _ _ _)
theorem vadd : ∀ a0 a1 a2 a3 a4, Statement (.vadd a0 a1 a2 a3 a4) := fun _ _ _ _ _ l => decide_eq_true (vWord_lead l _ _ _ _ _ _ _)
theorem vsub : ∀ a0 a1 a2 a3 a4, Statement (.vsub a0 a1 a2 a3 a4) := fun _ _ _ _ _ l => decide_eq_true (vWord_lead l _ _ _ _ _ _ _)
theorem vmul : ∀ a0 a1 a2 a3 a4, Statement (.vmul a0 a1 a2 a3 a4) := fun _ _ _ _ _ l => decide_eq_true (vWord_lead l _ _ _ _ _ _ _)
theorem vfma : ∀ a0 a1 a2 a3 a4, Statement (.vfma a0 a1 a2 a3 a4) := fun _ _ _ _ _ l => decide_eq_true (vWord_lead l _ _ _ _ _ _ _)
theorem vfnma : ∀ a0 a1 a2 a3 a4, Statement (.vfnma a0 a1 a2 a3 a4) := fun _ _ _ _ _ l => decide_eq_true (vWord_lead l _ _ _ _ _ _ _)
theorem vmin : ∀ a0 a1 a2 a3 a4, Statement (.vmin a0 a1 a2 a3 a4) := fun _ _ _ _ _ l => decide_eq_true (vWord_lead l _ _ _ _ _ _ _)
theorem vmax : ∀ a0 a1 a2 a3 a4, Statement (.vmax a0 a1 a2 a3 a4) := fun _ _ _ _ _ l => decide_eq_true (vWord_lead l _ _ _ _ _ _ _)
theorem vabs : ∀ a0 a1 a2 a3, Statement (.vabs a0 a1 a2 a3) := fun _ _ _ _ l => decide_eq_true (vWord_lead l _ _ _ _ _ _ _)
theorem vcmpeq : ∀ a0 a1 a2 a3 a4, Statement (.vcmpeq a0 a1 a2 a3 a4) := fun _ _ _ _ _ l => decide_eq_true (vWord_lead l _ _ _ _ _ _ _)
theorem vcmpne : ∀ a0 a1 a2 a3 a4, Statement (.vcmpne a0 a1 a2 a3 a4) := fun _ _ _ _ _ l => decide_eq_true (vWord_lead l _ _ _ _ _ _ _)
theorem vcmplt : ∀ a0 a1 a2 a3 a4, Statement (.vcmplt a0 a1 a2 a3 a4) := fun _ _ _ _ _ l => decide_eq_true (vWord_lead l _ _ _ _ _ _ _)
theorem vcmple : ∀ a0 a1 a2 a3 a4, Statement (.vcmple a0 a1 a2 a3 a4) := fun _ _ _ _ _ l => decide_eq_true (vWord_lead l _ _ _ _ _ _ _)
theorem vsel : ∀ a0 a1 a2 a3 a4, Statement (.vsel a0 a1 a2 a3 a4) := fun _ _ _ _ _ l => decide_eq_true (vWord_lead l _ _ _ _ _ _ _)
theorem vmand : ∀ a0 a1 a2, Statement (.vmand a0 a1 a2) := fun _ _ _ l => decide_eq_true (vWord_lead l _ _ _ _ _ _ _)
theorem vmor : ∀ a0 a1 a2, Statement (.vmor a0 a1 a2) := fun _ _ _ l => decide_eq_true (vWord_lead l _ _ _ _ _ _ _)
theorem vmxor : ∀ a0 a1 a2, Statement (.vmxor a0 a1 a2) := fun _ _ _ l => decide_eq_true (vWord_lead l _ _ _ _ _ _ _)
theorem vand : ∀ a0 a1 a2 a3, Statement (.vand a0 a1 a2 a3) := fun _ _ _ _ l => decide_eq_true (vWord_lead l _ _ _ _ _ _ _)
theorem vor : ∀ a0 a1 a2 a3, Statement (.vor a0 a1 a2 a3) := fun _ _ _ _ l => decide_eq_true (vWord_lead l _ _ _ _ _ _ _)
theorem vxor : ∀ a0 a1 a2 a3, Statement (.vxor a0 a1 a2 a3) := fun _ _ _ _ l => decide_eq_true (vWord_lead l _ _ _ _ _ _ _)
theorem vshl : ∀ a0 a1 a2 a3 a4, Statement (.vshl a0 a1 a2 a3 a4) := fun _ _ _ _ _ l => decide_eq_true (vWord_lead l _ _ _ _ _ _ _)
theorem vshr : ∀ a0 a1 a2 a3 a4, Statement (.vshr a0 a1 a2 a3 a4) := fun _ _ _ _ _ l => decide_eq_true (vWord_lead l _ _ _ _ _ _ _)
theorem vsra : ∀ a0 a1 a2 a3 a4, Statement (.vsra a0 a1 a2 a3 a4) := fun _ _ _ _ _ l => decide_eq_true (vWord_lead l _ _ _ _ _ _ _)
theorem vclip : ∀ a0 a1 a2 a3 a4, Statement (.vclip a0 a1 a2 a3 a4) := fun _ _ _ _ _ l => decide_eq_true (vWord_lead l _ _ _ _ _ _ _)
theorem vscl : ∀ a0 a1 a2 a3 a4, Statement (.vscl a0 a1 a2 a3 a4) := fun _ _ _ _ _ l => decide_eq_true (vWord_lead l _ _ _ _ _ _ _)
theorem vperm : ∀ a0 a1 a2 a3 a4, Statement (.vperm a0 a1 a2 a3 a4) := fun _ _ _ _ _ l => decide_eq_true (vWord_lead l _ _ _ _ _ _ _)
theorem vbcst : ∀ a0 a1 a2 a3, Statement (.vbcst a0 a1 a2 a3) := fun _ _ _ _ l => decide_eq_true (vWord_lead l _ _ _ _ _ _ _)
theorem vmvx : ∀ a0 a1 a2 a3, Statement (.vmvx a0 a1 a2 a3) := fun _ _ _ _ l => decide_eq_true (vWord_lead l _ _ _ _ _ _ _)
theorem vins : ∀ a0 a1 a2 a3, Statement (.vins a0 a1 a2 a3) := fun _ _ _ _ l => decide_eq_true (vWord_lead l _ _ _ _ _ _ _)
theorem vslide : ∀ a0 a1 a2 a3 a4, Statement (.vslide a0 a1 a2 a3 a4) := fun _ _ _ _ _ l => decide_eq_true (vWord_lead l _ _ _ _ _ _ _)
theorem vzip : ∀ a0 a1 a2 a3 a4, Statement (.vzip a0 a1 a2 a3 a4) := fun _ _ _ _ _ l => decide_eq_true (vWord_lead l _ _ _ _ _ _ _)
theorem vuzp : ∀ a0 a1 a2 a3 a4, Statement (.vuzp a0 a1 a2 a3 a4) := fun _ _ _ _ _ l => decide_eq_true (vWord_lead l _ _ _ _ _ _ _)
theorem vmov : ∀ a0 a1 a2 a3, Statement (.vmov a0 a1 a2 a3) := fun _ _ _ _ l => decide_eq_true (vWord_lead l _ _ _ _ _ _ _)
theorem vrsum : ∀ a0 a1 a2 a3, Statement (.vrsum a0 a1 a2 a3) := fun _ _ _ _ l => decide_eq_true (vWord_lead l _ _ _ _ _ _ _)
theorem vrmax : ∀ a0 a1 a2 a3, Statement (.vrmax a0 a1 a2 a3) := fun _ _ _ _ l => decide_eq_true (vWord_lead l _ _ _ _ _ _ _)
theorem vrmin : ∀ a0 a1 a2 a3, Statement (.vrmin a0 a1 a2 a3) := fun _ _ _ _ l => decide_eq_true (vWord_lead l _ _ _ _ _ _ _)
theorem vrdot : ∀ a0 a1 a2 a3 a4, Statement (.vrdot a0 a1 a2 a3 a4) := fun _ _ _ _ _ l => decide_eq_true (vWord_lead l _ _ _ _ _ _ _)
theorem vrcp : ∀ a0 a1 a2 a3, Statement (.vrcp a0 a1 a2 a3) := fun _ _ _ _ l => decide_eq_true (vWord_lead l _ _ _ _ _ _ _)
theorem vrsq : ∀ a0 a1 a2 a3, Statement (.vrsq a0 a1 a2 a3) := fun _ _ _ _ l => decide_eq_true (vWord_lead l _ _ _ _ _ _ _)
theorem vexp2 : ∀ a0 a1 a2 a3, Statement (.vexp2 a0 a1 a2 a3) := fun _ _ _ _ l => decide_eq_true (vWord_lead l _ _ _ _ _ _ _)
theorem vlog2 : ∀ a0 a1 a2 a3, Statement (.vlog2 a0 a1 a2 a3) := fun _ _ _ _ l => decide_eq_true (vWord_lead l _ _ _ _ _ _ _)
theorem vcvt : ∀ a0 a1 a2 a3 a4 a5 a6, Statement (.vcvt a0 a1 a2 a3 a4 a5 a6) := fun _ _ _ _ _ _ _ l => decide_eq_true (vWord_lead l _ _ _ _ _ _ _)
theorem vld : ∀ a0 a1 a2, Statement (.vld a0 a1 a2) := fun _ _ _ l => decide_eq_true (vWord_lead l _ _ _ _ _ _ _)
theorem vst : ∀ a0 a1 a2, Statement (.vst a0 a1 a2) := fun _ _ _ l => decide_eq_true (vWord_lead l _ _ _ _ _ _ _)
theorem vgath : ∀ a0 a1 a2 a3 a4, Statement (.vgath a0 a1 a2 a3 a4) := fun _ _ _ _ _ l => decide_eq_true (vWord_lead l _ _ _ _ _ _ _)
theorem vscat : ∀ a0 a1 a2 a3 a4, Statement (.vscat a0 a1 a2 a3 a4) := fun _ _ _ _ _ l => decide_eq_true (vWord_lead l _ _ _ _ _ _ _)
theorem vtrb : ∀ a0 a1 a2, Statement (.vtrb a0 a1 a2) := fun _ _ _ l => decide_eq_true (vWord_lead l _ _ _ _ _ _ _)
theorem vtrbi : ∀ a0 a1 a2, Statement (.vtrbi a0 a1 a2) := fun _ _ _ l => decide_eq_true (vWord_lead l _ _ _ _ _ _ _)
theorem vpark : ∀ a0 a1, Statement (.vpark a0 a1) := fun _ _ l => decide_eq_true (vWord_lead l _ _ _ _ _ _ _)
theorem vunpk : ∀ a0 a1, Statement (.vunpk a0 a1) := fun _ _ l => decide_eq_true (vWord_lead l _ _ _ _ _ _ _)
theorem mzero : ∀ a0 a1, Statement (.mzero a0 a1) := fun _ _ l => decide_eq_true (qWord_lead l _ _ _ _ _ _)
theorem mstor : ∀ a0 a1 a2 a3, Statement (.mstor a0 a1 a2 a3) := fun _ _ _ _ l => decide_eq_true (qWord_lead l _ _ _ _ _ _)
theorem mread : ∀ a0 a1 a2 a3, Statement (.mread a0 a1 a2 a3) := fun _ _ _ _ l => decide_eq_true (qWord_lead l _ _ _ _ _ _)
theorem mspan : ∀ a0 a1, Statement (.mspan a0 a1) := fun _ _ l => decide_eq_true (qWord_lead l _ _ _ _ _ _)
theorem mpri : ∀ a0, Statement (.mpri a0) := fun _ l => decide_eq_true (qWord_lead l _ _ _ _ _ _)
theorem mload : ∀ a0 a1 a2, Statement (.mload a0 a1 a2) := fun _ _ _ l => decide_eq_true (qWord_lead l _ _ _ _ _ _)
theorem mmac : ∀ a0 a1 a2 a3 a4 a5 a6 a7, Statement (.mmac a0 a1 a2 a3 a4 a5 a6 a7) := fun _ _ _ _ _ _ _ _ l => decide_eq_true (qWord_lead l _ _ _ _ _ _)
theorem ltld : ∀ a0 a1 a2, Statement (.ltld a0 a1 a2) := fun _ _ _ l => decide_eq_true (qWord_lead l _ _ _ _ _ _)
theorem lwld : ∀ a0 a1 a2, Statement (.lwld a0 a1 a2) := fun _ _ _ l => decide_eq_true (qWord_lead l _ _ _ _ _ _)
theorem lctx : ∀ a0, Statement (.lctx a0) := fun _ l => decide_eq_true (qWord_lead l _ _ _ _ _ _)
theorem lrun : ∀ a0 a1 a2 a3, Statement (.lrun a0 a1 a2 a3) := fun _ _ _ _ l => decide_eq_true (qWord_lead l _ _ _ _ _ _)
theorem lstat : ∀ a0, Statement (.lstat a0) := fun _ l => decide_eq_true (qWord_lead l _ _ _ _ _ _)
theorem lflush : ∀ a0, Statement (.lflush a0) := fun _ l => decide_eq_true (qWord_lead l _ _ _ _ _ _)
theorem xten : ∀ a0 a1 a2, Statement (.xten a0 a1 a2) := fun _ _ _ l => decide_eq_true (qWord_lead l _ _ _ _ _ _)
theorem xpost : ∀ a0 a1, Statement (.xpost a0 a1) := fun _ _ l => decide_eq_true (qWord_lead l _ _ _ _ _ _)
theorem xsend : ∀ a0 a1 a2 a3, Statement (.xsend a0 a1 a2 a3) := fun _ _ _ _ l => decide_eq_true (qWord_lead l _ _ _ _ _ _)
theorem xcan : ∀ a0 a1, Statement (.xcan a0 a1) := fun _ _ l => decide_eq_true (qWord_lead l _ _ _ _ _ _)
theorem xprobe : ∀ a0 a1, Statement (.xprobe a0 a1) := fun _ _ l => decide_eq_true (qWord_lead l _ _ _ _ _ _)
theorem jrec : ∀ a0 a1, Statement (.jrec a0 a1) := fun _ _ l => decide_eq_true (qWord_lead l _ _ _ _ _ _)
theorem jsync : ∀ a0 a1, Statement (.jsync a0 a1) := fun _ _ l => decide_eq_true (qWord_lead l _ _ _ _ _ _)
theorem jtrunc : ∀ a0 a1, Statement (.jtrunc a0 a1) := fun _ _ l => decide_eq_true (qWord_lead l _ _ _ _ _ _)
theorem jstat : ∀ a0 a1, Statement (.jstat a0 a1) := fun _ _ l => decide_eq_true (qWord_lead l _ _ _ _ _ _)
theorem rngc : ∀ a0 a1 a2, Statement (.rngc a0 a1 a2) := fun _ _ _ l => decide_eq_true (qWord_lead l _ _ _ _ _ _)
theorem supervisorCoreReset : ∀ a0, Statement (.supervisorCoreReset a0) := fun _ _ => rfl
theorem resultWriteback : ∀ a0 a1, Statement (.resultWriteback a0 a1) := fun _ _ _ => rfl
theorem loadReply : ∀ a0 a1, Statement (.loadReply a0 a1) := fun _ _ _ => rfl
theorem storeDrain : ∀ a0 a1, Statement (.storeDrain a0 a1) := fun _ _ _ => rfl
theorem atomicAtPort : ∀ a0 a1, Statement (.atomicAtPort a0 a1) := fun _ _ _ => rfl
theorem pageWalk : ∀ a0 a1 a2, Statement (.pageWalk a0 a1 a2) := fun _ _ _ _ => rfl
theorem invalidation : ∀ a0 a1 a2, Statement (.invalidation a0 a1 a2) := fun _ _ _ _ => rfl
theorem pageIn : ∀ a0 a1 a2, Statement (.pageIn a0 a1 a2) := fun _ _ _ _ => rfl
theorem eviction : ∀ a0 a1, Statement (.eviction a0 a1) := fun _ _ _ => rfl
theorem copyEngineAccept : ∀ a0, Statement (.copyEngineAccept a0) := fun _ _ => rfl
theorem copyRound : ∀ a0 a1, Statement (.copyRound a0 a1) := fun _ _ _ => rfl
theorem roundRestart : ∀ a0 a1, Statement (.roundRestart a0 a1) := fun _ _ _ => rfl
theorem commandComplete : ∀ a0 a1, Statement (.commandComplete a0 a1) := fun _ _ _ => rfl
theorem templateFiring : ∀ a0 a1, Statement (.templateFiring a0 a1) := fun _ _ _ => rfl
theorem descriptorCheck : ∀ a0 a1, Statement (.descriptorCheck a0 a1) := fun _ _ _ => rfl
theorem remoteRequest : ∀ a0, Statement (.remoteRequest a0) := fun _ _ => rfl
theorem remoteReply : ∀ a0, Statement (.remoteReply a0) := fun _ _ => rfl
theorem remoteFaultReplay : Statement (.remoteFaultReplay) := fun _ => rfl
theorem matrixPassGrant : ∀ a0, Statement (.matrixPassGrant a0) := fun _ _ => rfl
theorem operandFetch : ∀ a0 a1, Statement (.operandFetch a0 a1) := fun _ _ _ => rfl
theorem kStep : ∀ a0, Statement (.kStep a0) := fun _ _ => rfl
theorem matrixCommandComplete : ∀ a0 a1, Statement (.matrixCommandComplete a0 a1) := fun _ _ _ => rfl
theorem atollArrival : ∀ a0, Statement (.atollArrival a0) := fun _ _ => rfl
theorem atollServiceStart : ∀ a0, Statement (.atollServiceStart a0) := fun _ _ => rfl
theorem tableLoadSlotRead : ∀ a0, Statement (.tableLoadSlotRead a0) := fun _ _ => rfl
theorem tableLoadCommit : ∀ a0, Statement (.tableLoadCommit a0) := fun _ _ => rfl
theorem lrunStep : ∀ a0, Statement (.lrunStep a0) := fun _ _ => rfl
theorem lrunStepOutput : ∀ a0, Statement (.lrunStepOutput a0) := fun _ _ => rfl
theorem decodeBlock : ∀ a0 a1, Statement (.decodeBlock a0 a1) := fun _ _ _ => rfl
theorem postAtEngine : ∀ a0 a1, Statement (.postAtEngine a0 a1) := fun _ _ _ => rfl
theorem cancelAtEngine : ∀ a0 a1, Statement (.cancelAtEngine a0 a1) := fun _ _ _ => rfl
theorem probeAtEngine : ∀ a0 a1, Statement (.probeAtEngine a0 a1) := fun _ _ _ => rfl
theorem tensorMapAtEngine : ∀ a0 a1, Statement (.tensorMapAtEngine a0 a1) := fun _ _ _ => rfl
theorem engineAnswer : ∀ a0 a1, Statement (.engineAnswer a0 a1) := fun _ _ _ => rfl
theorem messageHeaderArrival : ∀ a0 a1, Statement (.messageHeaderArrival a0 a1) := fun _ _ _ => rfl
theorem matchDecision : ∀ a0 a1, Statement (.matchDecision a0 a1) := fun _ _ _ => rfl
theorem retryBackoffExpiry : ∀ a0 a1, Statement (.retryBackoffExpiry a0 a1) := fun _ _ _ => rfl
theorem eagerLanding : ∀ a0 a1, Statement (.eagerLanding a0 a1) := fun _ _ _ => rfl
theorem rendezvousPull : ∀ a0 a1, Statement (.rendezvousPull a0 a1) := fun _ _ _ => rfl
theorem landingRound : ∀ a0 a1, Statement (.landingRound a0 a1) := fun _ _ _ => rfl
theorem completionPush : ∀ a0, Statement (.completionPush a0) := fun _ _ => rfl
theorem postSlotFree : ∀ a0 a1, Statement (.postSlotFree a0 a1) := fun _ _ _ => rfl
theorem portJoin : ∀ a0 a1 a2 a3, Statement (.portJoin a0 a1 a2 a3) := fun _ _ _ _ _ => rfl
theorem flitIngress : ∀ a0 a1, Statement (.flitIngress a0 a1) := fun _ _ _ => rfl
theorem straitSlot : ∀ a0, Statement (.straitSlot a0) := fun _ _ => rfl
theorem flitHop : ∀ a0 a1, Statement (.flitHop a0 a1) := fun _ _ _ => rfl
theorem relayForward : ∀ a0 a1, Statement (.relayForward a0 a1) := fun _ _ _ => rfl
theorem itemAccept : ∀ a0 a1, Statement (.itemAccept a0 a1) := fun _ _ _ => rfl
theorem creditReturn : ∀ a0 a1, Statement (.creditReturn a0 a1) := fun _ _ _ => rfl
theorem fullSignal : ∀ a0 a1, Statement (.fullSignal a0 a1) := fun _ _ _ => rfl
theorem triggerEntry : ∀ a0 a1, Statement (.triggerEntry a0 a1) := fun _ _ _ => rfl
theorem select : ∀ a0, Statement (.select a0) := fun _ _ => rfl
theorem activationStart : ∀ a0, Statement (.activationStart a0) := fun _ _ => rfl
theorem continuationReady : ∀ a0 a1, Statement (.continuationReady a0 a1) := fun _ _ _ => rfl
theorem inlineChildReturn : ∀ a0, Statement (.inlineChildReturn a0) := fun _ _ => rfl
theorem crewStart : ∀ a0, Statement (.crewStart a0) := fun _ _ => rfl
theorem actRequestArrival : ∀ a0, Statement (.actRequestArrival a0) := fun _ _ => rfl
theorem actAnswer : ∀ a0 a1, Statement (.actAnswer a0 a1) := fun _ _ _ => rfl
theorem barrierRelease : ∀ a0 a1, Statement (.barrierRelease a0 a1) := fun _ _ _ => rfl
theorem spanBarrierArrival : ∀ a0 a1, Statement (.spanBarrierArrival a0 a1) := fun _ _ _ => rfl
theorem spanBarrierRelease : ∀ a0 a1, Statement (.spanBarrierRelease a0 a1) := fun _ _ _ => rfl
theorem completionArrival : ∀ a0, Statement (.completionArrival a0) := fun _ _ => rfl
theorem parkedCallerResume : ∀ a0, Statement (.parkedCallerResume a0) := fun _ _ => rfl
theorem spanStartCall : ∀ a0, Statement (.spanStartCall a0) := fun _ _ => rfl
theorem spanMembersPlaced : ∀ a0, Statement (.spanMembersPlaced a0) := fun _ _ => rfl
theorem loadRequest : ∀ a0, Statement (.loadRequest a0) := fun _ _ => rfl
theorem imageBlock : ∀ a0 a1 a2, Statement (.imageBlock a0 a1 a2) := fun _ _ _ _ => rfl
theorem loadedReport : ∀ a0, Statement (.loadedReport a0) := fun _ _ => rfl
theorem startAck : ∀ a0, Statement (.startAck a0) := fun _ _ => rfl
theorem loadAborted : ∀ a0, Statement (.loadAborted a0) := fun _ _ => rfl
theorem unloadRequest : ∀ a0, Statement (.unloadRequest a0) := fun _ _ => rfl
theorem replacementRequest : ∀ a0, Statement (.replacementRequest a0) := fun _ _ => rfl
theorem stagedReport : ∀ a0, Statement (.stagedReport a0) := fun _ _ => rfl
theorem markerAtHead : ∀ a0 a1, Statement (.markerAtHead a0 a1) := fun _ _ _ => rfl
theorem cutReport : ∀ a0, Statement (.cutReport a0) := fun _ _ => rfl
theorem cutTimeout : ∀ a0, Statement (.cutTimeout a0) := fun _ _ => rfl
theorem cutCancel : ∀ a0, Statement (.cutCancel a0) := fun _ _ => rfl
theorem markerRemoval : ∀ a0 a1, Statement (.markerRemoval a0 a1) := fun _ _ _ => rfl
theorem faultFrameWritten : ∀ a0, Statement (.faultFrameWritten a0) := fun _ _ => rfl
theorem faultEntryHandover : ∀ a0, Statement (.faultEntryHandover a0) := fun _ _ => rfl
theorem resume : ∀ a0 a1 a2, Statement (.resume a0 a1 a2) := fun _ _ _ _ => rfl
theorem resumePast : ∀ a0 a1 a2, Statement (.resumePast a0 a1 a2) := fun _ _ _ _ => rfl
theorem endTheActivation : ∀ a0 a1 a2, Statement (.endTheActivation a0 a1 a2) := fun _ _ _ _ => rfl
theorem endTheProgram : ∀ a0 a1 a2, Statement (.endTheProgram a0 a1 a2) := fun _ _ _ _ => rfl
theorem freeze : ∀ a0 a1, Statement (.freeze a0 a1) := fun _ _ _ => rfl
theorem freezeWaveArrival : ∀ a0 a1, Statement (.freezeWaveArrival a0 a1) := fun _ _ _ => rfl
theorem drainComplete : ∀ a0, Statement (.drainComplete a0) := fun _ _ => rfl
theorem imageReadout : ∀ a0, Statement (.imageReadout a0) := fun _ _ => rfl
theorem restore : ∀ a0 a1, Statement (.restore a0 a1) := fun _ _ _ => rfl
theorem runReq : ∀ a0, Statement (.runReq a0) := fun _ _ => rfl
theorem clockGate : ∀ a0, Statement (.clockGate a0) := fun _ _ => rfl
theorem powerGate : ∀ a0, Statement (.powerGate a0) := fun _ _ => rfl
theorem gatingTakesEffect : ∀ a0, Statement (.gatingTakesEffect a0) := fun _ _ => rfl
theorem wakeComplete : ∀ a0, Statement (.wakeComplete a0) := fun _ _ => rfl
theorem serviceFirmwareReplace : ∀ a0 a1, Statement (.serviceFirmwareReplace a0 a1) := fun _ _ _ => rfl
theorem recordArrival : ∀ a0 a1, Statement (.recordArrival a0 a1) := fun _ _ _ => rfl
theorem jrecAnswer : ∀ a0 a1, Statement (.jrecAnswer a0 a1) := fun _ _ _ => rfl
theorem recordSend : Statement (.recordSend) := fun _ => rfl
theorem partnerRecordWrite : ∀ a0, Statement (.partnerRecordWrite a0) := fun _ _ => rfl
theorem ackSend : ∀ a0, Statement (.ackSend a0) := fun _ _ => rfl
theorem ackArrival : ∀ a0, Statement (.ackArrival a0) := fun _ _ => rfl
theorem guardedRelease : ∀ a0, Statement (.guardedRelease a0) := fun _ _ => rfl
theorem truncation : ∀ a0, Statement (.truncation a0) := fun _ _ => rfl
theorem partnerDownTimeout : Statement (.partnerDownTimeout) := fun _ => rfl
theorem partnerWrite : ∀ a0 a1, Statement (.partnerWrite a0 a1) := fun _ _ _ => rfl
theorem sourceLost : ∀ a0, Statement (.sourceLost a0) := fun _ _ => rfl
theorem sequenceReplay : ∀ a0 a1 a2 a3 a4, Statement (.sequenceReplay a0 a1 a2 a3 a4) := fun _ _ _ _ _ _ => rfl
theorem hostRead : ∀ a0 a1, Statement (.hostRead a0 a1) := fun _ _ _ => rfl
theorem hostWrite : ∀ a0 a1, Statement (.hostWrite a0 a1) := fun _ _ _ => rfl
theorem hostPush : ∀ a0 a1, Statement (.hostPush a0 a1) := fun _ _ _ => rfl
theorem hostCredit : ∀ a0 a1, Statement (.hostCredit a0 a1) := fun _ _ _ => rfl
theorem hostFlush : ∀ a0 a1, Statement (.hostFlush a0 a1) := fun _ _ _ => rfl
theorem flushAck : ∀ a0 a1, Statement (.flushAck a0 a1) := fun _ _ _ => rfl
theorem clientDelivery : ∀ a0 a1, Statement (.clientDelivery a0 a1) := fun _ _ _ => rfl
theorem hostLinkRejoin : ∀ a0, Statement (.hostLinkRejoin a0) := fun _ _ => rfl
theorem chipReset : Statement (.chipReset) := fun _ => rfl
theorem secureBoot : ∀ a0 a1 a2 a3 a4, Statement (.secureBoot a0 a1 a2 a3 a4) := fun _ _ _ _ _ _ => rfl
theorem keyStoreChange : ∀ a0 a1 a2 a3 a4, Statement (.keyStoreChange a0 a1 a2 a3 a4) := fun _ _ _ _ _ _ => rfl
theorem attestationReport : ∀ a0 a1, Statement (.attestationReport a0 a1) := fun _ _ _ => rfl
theorem readyBitSet : ∀ a0, Statement (.readyBitSet a0) := fun _ _ => rfl
theorem governorWindow : ∀ a0 a1, Statement (.governorWindow a0 a1) := fun _ _ _ => rfl
theorem pointChange : ∀ a0, Statement (.pointChange a0) := fun _ _ => rfl
theorem capWrite : ∀ a0 a1, Statement (.capWrite a0 a1) := fun _ _ _ => rfl
theorem deviceRegisterWrite : ∀ a0 a1, Statement (.deviceRegisterWrite a0 a1) := fun _ _ _ => rfl
theorem portDown : ∀ a0 a1 a2, Statement (.portDown a0 a1 a2) := fun _ _ _ _ => rfl
theorem uncorrectableSoftError : ∀ a0, Statement (.uncorrectableSoftError a0) := fun _ _ => rfl
theorem frameHold : ∀ a0, Statement (.frameHold a0) := fun _ _ => rfl
theorem frameRelease : ∀ a0, Statement (.frameRelease a0) := fun _ _ => rfl
theorem bootFirmwareLoad : ∀ a0, Statement (.bootFirmwareLoad a0) := fun _ _ => rfl

end Sys2Proof.Laws.Lone
end

