-- ==== Sys2Proof/Tests/Slice0.lean ====
section
/-!
SUPPORT. The author's tests: ill-formed terms, words written out from the encoding tables, and single instructions with results
taken from the spec's examples or calculated by hand.
-/

namespace Sys2Proof.Tests

open Sys2Proof.Machine Sys2Proof.Claims

set_option Elab.async false

/-- Core 0 runs activation 0 at clk 100. -/
def base : State :=
  { (((State.reset.setAct 0 0 placedAct).modCl 0 (fun k => { k with region := some 0, stack := 0xf0000, stackFrames := 102 })).modCore 0 (fun k =>
      { k with pc := 0x10000, mode := .running, act := some 0, role := some (0, 0) })) with clk := 100 }

/-- A supervisor core runs (03 R87). -/
def sup : State :=
  { (State.reset.modCore 8192 (fun k => { k with pc := 0x10000, mode := .running })) with clk := 100, cur := 8192 }

/-- The issuing core with x registers set. -/
def xs (s : State) (l : List (Nat × Word)) : State := s.onMe (fun k => l.foldl (fun k p => k.setX p.1 p.2) k)

/-- The issuing core with v registers set. -/
def vs (s : State) (l : List (Nat × Vec)) : State := s.onMe (fun k => l.foldl (fun k p => k.setV p.1 p.2) k)

/-- The state that an instruction leaves. -/
def after (i : Instr) (s : State) : State := match exec i s with | .next t => t | _ => State.reset

/-- x[r] after an instruction. -/
def xAfter (i : Instr) (s : State) (r : Nat) : Word := (after i s).me.getX r





/-! ### Ill-formed terms: one for each check of WellFormed -/
theorem illformed_sysnum : wellFormed (.yrd 5 5) = false := rfl
theorem illformed_sysnum_w : wellFormed (.ywr 5 0x7f) = false := rfl
theorem illformed_size : wellFormed (.ld 5 6 .q 0) = false := rfl
theorem illformed_size_st : wellFormed (.st 5 6 .q 0) = false := rfl
theorem illformed_size_ldaq : wellFormed (.ldaq 5 6 .q .core 0) = false := rfl
theorem illformed_size_strl : wellFormed (.strl 5 6 .q .core 0) = false := rfl
theorem illformed_size_ldx : wellFormed (.ldx 5 6 7 .q 0) = false := rfl
theorem illformed_size_stx : wellFormed (.stx 5 6 7 .q 0) = false := rfl
theorem illformed_size_ldz : wellFormed (.ldz 5 6 .q 0) = false := rfl
theorem illformed_size_pld : wellFormed (.pld 5 6 .q 0) = false := rfl
theorem illformed_fence : wellFormed (.fence 0 .core) = false := rfl
theorem illformed_fencee : wellFormed (.fencee 0 .core) = false := rfl
theorem illformed_atomic : wellFormed (.amo .add 5 6 7 .h .core .rlx) = false := rfl
theorem illformed_atomic_cas : wellFormed (.cas 5 6 7 .b .core .rlx) = false := rfl
theorem illformed_pair_odd : wellFormed (.casq 5 6 8 .core .rlx) = false := rfl
theorem illformed_pair_port : wellFormed (.cpy 24 8 1) = false := rfl
theorem illformed_pair_cpy2 : wellFormed (.cpy2 8 9 1) = false := rfl
theorem illformed_pair_cpyi : wellFormed (.cpyi 9 8 1) = false := rfl
theorem illformed_pair_cpys : wellFormed (.cpys 9 0 1) = false := rfl
theorem illformed_pair_cfill : wellFormed (.cfill 8 9 1) = false := rfl
theorem illformed_port : wellFormed (.qpush 23 5) = false := rfl
theorem illformed_port_pop : wellFormed (.qpop 5 23) = false := rfl
theorem illformed_port_bind : wellFormed (.qbindIn 23 5) = false := rfl
theorem illformed_port_cnt : wellFormed (.qcnt 5 23) = false := rfl
theorem illformed_handle : wellFormed (.rset 16 5 6) = false := rfl
theorem illformed_handle_adv : wellFormed (.radvw 16 5) = false := rfl
theorem illformed_handle_pos : wellFormed (.rposW 5 16) = false := rfl
theorem illformed_handle_vld : wellFormed (.vld 1 16 .f32) = false := rfl
theorem illformed_handle_vst : wellFormed (.vst 16 1 .f32) = false := rfl
theorem illformed_arith : wellFormed (.vadd 1 2 3 .e4 0) = false := rfl
theorem illformed_float3 : wellFormed (.vfma 1 2 3 .i8 0) = false := rfl
theorem illformed_signed : wellFormed (.vabs 1 2 .n8 0) = false := rfl
theorem illformed_maskdest : wellFormed (.vcmpeq 0 1 2 .f32 0) = false := rfl
theorem illformed_maskdest8 : wellFormed (.vmand 8 1 2) = false := rfl
theorem illformed_maskfield : wellFormed (.vmor 1 8 2) = false := rfl
theorem illformed_operand : wellFormed (.vsel 1 2 3 .p1 0) = false := rfl
theorem illformed_perm : wellFormed (.vperm 1 2 3 .i4 0) = false := rfl
theorem illformed_clip : wellFormed (.vclip 1 2 3 .n8 0) = false := rfl
theorem illformed_scl : wellFormed (.vscl 1 2 3 .i8 0) = false := rfl
theorem illformed_trans : wellFormed (.vrcp 1 2 .f16 0) = false := rfl
theorem illformed_cvt_same : wellFormed (.vcvt 1 2 .f32 .f32 .rne false 0) = false := rfl
theorem illformed_cvt_sat : wellFormed (.vcvt 1 2 .k3 .f32 .rne false 0) = false := rfl
theorem illformed_gather : wellFormed (.vgath 1 2 3 .i4 0) = false := rfl
theorem illformed_slice : wellFormed (.vtrb 1 2 .f32) = false := rfl
theorem illformed_tile : wellFormed (.mzero 16 1) = false := rfl
theorem illformed_mstor : wellFormed (.mstor 0 13 .b16 1) = false := rfl
theorem illformed_mload : wellFormed (.mload 16 12 1) = false := rfl
theorem illformed_mread : wellFormed (.mread 1 16 5 .f32) = false := rfl
theorem illformed_mmac_sat : wellFormed (.mmac 0 1 2 .e4 false false true 1) = false := rfl
theorem illformed_mmac_pair : wellFormed (.mmac 0 13 2 .e4 true false false 1) = false := rfl
theorem illformed_ltld : wellFormed (.ltld 16 5 1) = false := rfl
theorem illformed_lrun : wellFormed (.lrun 0 16 5 1) = false := rfl
theorem illformed_rngc : wellFormed (.rngc 5 11 12) = false := rfl

/-! ### Words of the encoding tables (03 R76, 03 worked handler, 04-07, 10, 12, 14-18) -/
theorem decode_lui : decodeWord 0x94587654 = .ok (.lui 5 0x87654) := rfl
theorem decode_addi : decodeWord 0x84528321 = .ok (.addi 5 5 801) := rfl
theorem decode_luh : decodeWord 0x98500006 = .ok (.luh 5 6) := rfl
theorem decode_srli : decodeWord 0x92550060 = .ok (.srli 5 10 32) := rfl
theorem decode_slli : decodeWord 0x92650020 = .ok (.slli 6 10 32) := rfl
theorem decode_padding : decodeWord 0x84000000 = .ok (.addi 0 0 0) := rfl
theorem decode_beq_chalf : decodeWord 0x20500006 = .ok (.beq 5 0 6) := rfl
theorem decode_remu_ahalf : decodeWord 0x02731416 = .ok (.remu 7 6 5) := rfl
theorem decode_j_back : decodeWord 0x2dfffffc = .ok (.j (BitVec.ofInt 25 (-4))) := rfl
theorem decode_end_chalf : decodeWord 0x58000001 = .ok (.endA) := rfl
theorem decode_addi_port : decodeWord 0x05830000 = .ok (.addi 24 6 0) := rfl
theorem decode_jlr_ret : decodeWord 0xda008000 = .ok (.jlr 0 1 0) := rfl
theorem decode_qpop : decodeWord 0xc0ac0003 = .ok (.qpop 10 24) := rfl
theorem decode_fork_busy : decodeWord 0xc2533004 = .ok (.forkBusy 5 6 12) := rfl
theorem decode_sync : decodeWord 0xc2000005 = .ok (.sync) := rfl
theorem decode_bar : decodeWord 0xc4028001 = .ok (.bar 5) := rfl
theorem decode_rwaitf : decodeWord 0xc6011c04 = .ok (.rwaitf 2 7) := rfl
theorem decode_twait : decodeWord 0xc8048001 = .ok (.twait 9) := rfl
theorem decode_ld : decodeWord 0xb0533002 = .ok (.ld 5 6 .d 2) := rfl
theorem decode_strl : decodeWord 0xb8733400 = .ok (.strl 7 6 .d .cl 0) := rfl
theorem decode_ldx : decodeWord 0xba531c28 = .ok (.ldx 5 6 7 .w 2) := rfl
theorem decode_fence : decodeWord 0xba000264 = .ok (.fence 0xc .chip) := rfl
theorem decode_casq : decodeWord 0xbea330cf = .ok (.casq 10 6 12 .sys .ar) := rfl
theorem decode_rld : decodeWord 0xd2530188 = .ok (.rld 5 6 3 0) := rfl
theorem decode_cpy : decodeWord 0xd0043081 = .ok (.cpy 8 12 1) := rfl
theorem decode_vfma : decodeWord 0xe0308803 = .ok (.vfma 3 1 2 .f32 0) := rfl
theorem decode_vrsum : decodeWord 0xe8208000 = .ok (.vrsum 2 1 .f32 0) := rfl
theorem decode_vcvt : decodeWord 0xec310080 = .ok (.vcvt 3 2 .b16 .f32 .rne false 0) := rfl
theorem decode_vcvt_sat : decodeWord 0xec414100 = .ok (.vcvt 4 2 .e4 .f32 .rne true 0) := rfl
theorem decode_vtrb : decodeWord 0xee628244 = .ok (.vtrb 6 5 .n8) := rfl
theorem decode_vpark : decodeWord 0xee538006 = .ok (.vpark 5 7) := rfl
theorem decode_mmac_regs : decodeWord 0xf20088a0 = .ok (.mmac 0 1 2 .e4 false false false 1) := rfl
theorem decode_mmac_b : decodeWord 0xf200b0a2 = .ok (.mmac 0 1 12 .e4 false true false 1) := rfl
theorem decode_mmac_ab : decodeWord 0xf20638a6 = .ok (.mmac 0 12 14 .e4 true true false 1) := rfl
theorem decode_mzero : decodeWord 0xf0300110 = .ok (.mzero 3 2) := rfl
theorem decode_mstor : decodeWord 0xf00031a2 = .ok (.mstor 0 12 .b16 3) := rfl
theorem decode_mload : decodeWord 0xf00040e0 = .ok (.mload 0 16 1) := rfl
theorem decode_lrun : decodeWord 0xf4102604 = .ok (.lrun 1 0 9 4) := rfl
theorem decode_xpost : decodeWord 0xf8530002 = .ok (.xpost 5 6) := rfl
theorem decode_jrec : decodeWord 0xfa530001 = .ok (.jrec 5 6) := rfl
theorem decode_rngc : decodeWord 0xfa553005 = .ok (.rngc 5 10 12) := rfl
theorem decode_casq_acq : decodeWord 0xbeea40c9 = .ok (.casq 14 20 16 .chip .acq) := rfl
theorem decode_binit : decodeWord 0xc40b9404 = .ok (.binit 23 5) := rfl
theorem decode_rset : decodeWord 0xc60b5401 = .ok (.rset 0 22 21) := rfl
theorem decode_vins : decodeWord 0xe6550003 = .ok (.vins 5 10 0 .f32) := rfl
theorem decode_vst : decodeWord 0xee001a41 = .ok (.vst 0 6 .n8) := rfl
theorem decode_lctx : decodeWord 0xf4030003 = .ok (.lctx 6) := rfl
theorem decode_xprobe : decodeWord 0xf89a8005 = .ok (.xprobe 9 21) := rfl
theorem decode_xten : decodeWord 0xf85a0001 = .ok (.xten 5 20 0) := rfl
theorem decode_qattr : decodeWord 0xc07c980a = .ok (.qattr 7 25 6) := rfl
theorem decode_jtrunc : decodeWord 0xfa051403 = .ok (.jtrunc 10 5) := rfl
theorem decode_cpys : decodeWord 0xd0040084 = .ok (.cpys 8 0 1) := rfl
theorem decode_qpush : decodeWord 0xc00c2801 = .ok (.qpush 24 10) := rfl
theorem decode_sysc : decodeWord 0xd8000002 = .ok (.sysc) := rfl
theorem refuses_zero : (decodeWord 0x80000000).toOption = none := rfl
theorem refuses_reserved_f : (decodeWord 0x820003ff).toOption = none := rfl
theorem refuses_fixed_b : (decodeWord 0x8210181a).toOption = none := rfl
theorem refuses_mzero_a : (decodeWord 0xf0318110).toOption = none := rfl
theorem refuses_sys5 : (decodeWord 0xdc500005).toOption = none := rfl
theorem table_word_first_byte_lowest : decodeTableWord 32 0x84528321 = some (.addi 5 5 801) := rfl
theorem encode_vcvt_sat : encode (.vcvt 4 2 .e4 .f32 .rne true 0) = some 0xec414100 := rfl

/-! ### Single instructions: scalar (03 R72-R81) -/
theorem test_add_wraps : xAfter (.add 3 1 2) (xs base [(1, BitVec.allOnes 64), (2, 1)]) 3 = 0 := by decide +kernel
theorem test_sub_source_is_dest : xAfter (.sub 1 1 2) (xs base [(1, 0), (2, 1)]) 1 = BitVec.allOnes 64 := by decide +kernel
theorem test_andn : xAfter (.andn 3 1 2) (xs base [(1, 0xff), (2, 0x0f)]) 3 = 0xf0 := by decide +kernel
theorem test_or : xAfter (.or 3 1 2) (xs base [(1, 0xf0), (2, 0x0f)]) 3 = 0xff := by decide +kernel
theorem test_xor : xAfter (.xor 3 1 2) (xs base [(1, 0xff), (2, 0x0f)]) 3 = 0xf0 := by decide +kernel
theorem test_and : xAfter (.and 3 1 2) (xs base [(1, 0xff), (2, 0x0f)]) 3 = 0x0f := by decide +kernel
theorem test_sll_count_mod_64 : xAfter (.sll 3 1 2) (xs base [(1, 1), (2, 65)]) 3 = 2 := by decide +kernel
theorem test_srl : xAfter (.srl 3 1 2) (xs base [(1, 0x8000000000000000), (2, 63)]) 3 = 1 := by decide +kernel
theorem test_sra_sign : xAfter (.sra 3 1 2) (xs base [(1, 0x8000000000000000), (2, 63)]) 3 = BitVec.allOnes 64 := by decide +kernel
theorem test_ror : xAfter (.ror 3 1 2) (xs base [(1, 1), (2, 1)]) 3 = 0x8000000000000000 := by decide +kernel
theorem test_slt_signed : xAfter (.slt 3 1 2) (xs base [(1, BitVec.allOnes 64), (2, 0)]) 3 = 1 := by decide +kernel
theorem test_sltu_unsigned : xAfter (.sltu 3 1 2) (xs base [(1, BitVec.allOnes 64), (2, 0)]) 3 = 0 := by decide +kernel
theorem test_min : xAfter (.min 3 1 2) (xs base [(1, BitVec.allOnes 64), (2, 1)]) 3 = BitVec.allOnes 64 := by decide +kernel
theorem test_max : xAfter (.max 3 1 2) (xs base [(1, BitVec.allOnes 64), (2, 1)]) 3 = 1 := by decide +kernel
theorem test_minu : xAfter (.minu 3 1 2) (xs base [(1, BitVec.allOnes 64), (2, 1)]) 3 = 1 := by decide +kernel
theorem test_maxu : xAfter (.maxu 3 1 2) (xs base [(1, BitVec.allOnes 64), (2, 1)]) 3 = BitVec.allOnes 64 := by decide +kernel
theorem test_mul : xAfter (.mul 3 1 2) (xs base [(1, BitVec.allOnes 64), (2, 2)]) 3 = 0xfffffffffffffffe := by decide +kernel
theorem test_sh1add : xAfter (.sh1add 3 1 2) (xs base [(1, 5), (2, 1)]) 3 = 11 := by decide +kernel
theorem test_sh2add : xAfter (.sh2add 3 1 2) (xs base [(1, 5), (2, 1)]) 3 = 21 := by decide +kernel
theorem test_sh3add : xAfter (.sh3add 3 1 2) (xs base [(1, 5), (2, 1)]) 3 = 41 := by decide +kernel
theorem test_clz_zero : xAfter (.clz 3 1) (xs base [(1, 0)]) 3 = 64 := by decide +kernel
theorem test_ctz : xAfter (.ctz 3 1) (xs base [(1, 8)]) 3 = 3 := by decide +kernel
theorem test_popc : xAfter (.popc 3 1) (xs base [(1, 0xf0f0)]) 3 = 8 := by decide +kernel
theorem test_addi_negative : xAfter (.addi 3 1 0x7fff) (xs base [(1, 0)]) 3 = BitVec.allOnes 64 := by decide +kernel
theorem test_andi_sign_extends : xAfter (.andi 3 1 0x7ff0) (xs base [(1, BitVec.allOnes 64)]) 3 = 0xfffffffffffffff0 := by decide +kernel
theorem test_ori : xAfter (.ori 3 1 0x4000) (xs base [(1, 0)]) 3 = 0xffffffffffffc000 := by decide +kernel
theorem test_xori : xAfter (.xori 3 1 1) (xs base [(1, 3)]) 3 = 2 := by decide +kernel
theorem test_muli : xAfter (.muli 3 1 3) (xs base [(1, 5)]) 3 = 15 := by decide +kernel
theorem test_slti : xAfter (.slti 3 1 0) (xs base [(1, BitVec.allOnes 64)]) 3 = 1 := by decide +kernel
theorem test_sltiu : xAfter (.sltiu 3 1 0x7fff) (xs base [(1, 5)]) 3 = 1 := by decide +kernel
theorem test_slli : xAfter (.slli 3 1 63) (xs base [(1, 3)]) 3 = 0x8000000000000000 := by decide +kernel
theorem test_srli : xAfter (.srli 3 1 4) (xs base [(1, 0x80)]) 3 = 8 := by decide +kernel
theorem test_srai : xAfter (.srai 3 1 4) (xs base [(1, 0x8000000000000000)]) 3 = 0xf800000000000000 := by decide +kernel
theorem test_rori : xAfter (.rori 3 1 4) (xs base [(1, 0xf)]) 3 = 0xf000000000000000 := by decide +kernel
theorem test_lui_example : xAfter (.lui 5 0x87654) (xs base []) 5 = 0xffffffff87654000 := by decide +kernel
theorem test_luh_example : xAfter (.luh 5 6) (xs base [(5, 0xffffffff87654321)]) 5 = 0x0000000587654321 := by decide +kernel
theorem test_addpc : xAfter (.addpc 3 0xfffff) (xs base []) 3 = 0xffff := by decide +kernel
theorem test_x0_discards : xAfter (.addi 0 1 1) (xs base [(1, 1)]) 0 = 0 := by decide +kernel
theorem test_mulh : ((after (.mulh 3 1 2) (xs base [(1, BitVec.allOnes 64), (2, 2)])).me.pending.map (fun p => (p.dest, p.value, p.ready))) = [(.x 3, (0xffffffffffffffff : Vec), 102)] := by decide +kernel
theorem test_mulhu : ((after (.mulhu 3 1 2) (xs base [(1, BitVec.allOnes 64), (2, 2)])).me.pending.map (fun p => (p.dest, p.value, p.ready))) = [(.x 3, (1 : Vec), 102)] := by decide +kernel
theorem test_div_overflow : ((after (.div 3 1 2) (xs base [(1, 0x8000000000000000), (2, BitVec.allOnes 64)])).me.pending.map (fun p => (p.dest, p.value, p.ready))) = [(.x 3, (0x8000000000000000 : Vec), 112)] := by decide +kernel
theorem test_rem_sign_of_dividend : ((after (.rem 3 1 2) (xs base [(1, BitVec.ofInt 64 (-7)), (2, 2)])).me.pending.map (fun p => (p.dest, p.value, p.ready))) = [(.x 3, (0xffffffffffffffff : Vec), 112)] := by decide +kernel
theorem test_divu_zero : ((after (.divu 3 1 2) (xs base [(1, 6), (2, 0)])).me.pending.map (fun p => (p.dest, p.value, p.ready))) = [(.x 3, (0xffffffffffffffff : Vec), 112)] := by decide +kernel
theorem test_remu_worked : ((after (.remu 7 6 5) (xs base [(6, 30), (5, 18)])).me.pending.map (fun p => (p.dest, p.value, p.ready))) = [(.x 7, (12 : Vec), 112)] := by decide +kernel
theorem test_div_zero_sets_idz : (after (.div 3 1 2) (xs base [(1, 6)])).me.yflags = 0x20 := by decide +kernel
theorem test_beq_taken : (after (.beq 1 2 6) (xs base [])).me.pc = 0x10018 := by decide +kernel
theorem test_bne_not_taken : (after (.bne 1 2 6) (xs base [])).me.pc = 0x10004 := by decide +kernel
theorem test_blt_signed : (after (.blt 1 2 0x7fff) (xs base [(1, BitVec.allOnes 64)])).me.pc = 0xfffc := by decide +kernel
theorem test_bge : (after (.bge 1 2 2) (xs base [])).me.pc = 0x10008 := by decide +kernel
theorem test_bltu : (after (.bltu 1 2 2) (xs base [(1, BitVec.allOnes 64)])).me.pc = 0x10004 := by decide +kernel
theorem test_bgeu : (after (.bgeu 1 2 2) (xs base [(1, BitVec.allOnes 64)])).me.pc = 0x10008 := by decide +kernel
theorem test_j : (after (.j (BitVec.ofInt 25 (-4))) (xs base [])).me.pc = 0xfff0 := by decide +kernel
theorem test_jl_link : xAfter (.jl 4) (xs base []) 1 = 0x10004 := by decide +kernel
theorem test_jlr_same_register : (let t := after (.jlr 1 1 0) (xs base [(1, 0x10107)]); (t.me.pc, t.me.getX 1)) = (0x10104, 0x10004) := by decide +kernel

/-! ### System instructions (03 R82-R98) -/
theorem test_end_idles : (let t := after .endA base; (t.me.mode, t.me.act)) = (.idle, none) := by decide +kernel
theorem test_eret : (let t := after .eret (sup.onMe (fun k => { k with th := true, yepc := 0x10040 })); (t.me.pc, t.me.th)) = (0x10040, false) := by decide +kernel
theorem test_brk_supervisor : (let t := after .brk (sup.onMe (fun k => { k with ytvec := 0x10100 })); (t.me.pc, t.me.yepc, t.me.th)) = (0x10100, 0x10004, true) := by decide +kernel
theorem test_eret_tenant_parks : ((after .eret base).me.mode = .running) = False := by decide +kernel
theorem test_yrd_clk : xAfter (.yrd 5 0x13) (xs base []) 5 = 100 := by decide +kernel
theorem test_ywr_scratch : (after (.ywr 5 9) (xs sup [(5, 7)])).me.yscr = [(1, 7)] := by decide +kernel
theorem test_ywr_clears_flags : (after (.ywr 5 0x14) ((xs base [(5, 1)]).onMe (fun k => { k with yflags := 3 }))).me.yflags = 2 := by decide +kernel
theorem test_prio_capped : ((after (.prio 5) (xs (base.modCl 0 (fun k => { k with yceil := 10 })) [(5, 20)])).act? 0 0).map (fun a => (a.base, a.eff)) = some (10, 10) := by decide +kernel
theorem test_sync_no_children : (after .sync base).me.pc = 0x10004 := by decide +kernel
theorem test_yield_alone : (after .yield base).me.pc = 0x10004 := by decide +kernel
theorem test_sysc_pushes_call : ((after .sysc (xs base [(10, 7)])).me.mode = .running) = False := by decide +kernel

/-! ### Memory (05) -/
theorem test_ld_enters : ((after (.ld 5 6 .d 2) (xs base [(6, 0x10000)])).me.mem.map (fun o => (o.lanes, o.size, o.dest))) = [([(localKey 0 16, 0)], 8, some (.x 5))] := by decide +kernel
theorem test_ld_misaligned_parks : ((after (.ld 5 6 .d 0) (xs base [(6, 0x10001)])).me.mode = .running) = False := by decide +kernel
theorem test_ldz_enters : ((after (.ldz 5 6 .h 1) (xs base [(6, 0x10000)])).me.mem.map (fun o => o.lanes)) = [[(localKey 0 2, 0)]] := by decide +kernel
theorem test_ldaq_acquires : ((after (.ldaq 5 6 .w .chip 0) (xs base [(6, 0x10000)])).me.mem.map (fun o => o.acq)) = [some .chip] := by decide +kernel
theorem test_strl_releases : ((after (.strl 5 6 .w .chip 0) (xs base [(6, 0x10000)])).me.mem.map (fun o => o.rel)) = [some .chip] := by decide +kernel
theorem test_st_bytes_low_first : ((after (.st 5 6 .h 0) (xs base [(5, 0x1234), (6, 0x10000)])).me.mem.map (fun o => o.kind)) = [.store [[0x34, 0x12]]] := by decide +kernel
theorem test_stx_shift : ((after (.stx 5 6 7 .d 3) (xs base [(6, 0x10000), (7, 2)])).me.mem.map (fun o => o.lanes)) = [[(localKey 0 16, 0)]] := by decide +kernel
theorem test_ldx_shift : ((after (.ldx 5 6 7 .d 3) (xs base [(6, 0x10000), (7, 2)])).me.mem.map (fun o => o.lanes)) = [[(localKey 0 16, 0)]] := by decide +kernel
theorem test_pref_moves_on : (after (.pref 6 7 0) (xs base [(6, 0x10000)])).me.pc = 0x10004 := by decide +kernel
theorem test_fence_clears_stale : (after (.fence 8 .core) (base.onMe (fun k => { k with stale := [(0, 1)] }))).me.stale = [] := by decide +kernel
theorem test_fencee_waits_copy : (after (.fencee 8 .core) (after (.cpy 8 12 1) (xs base [(8, 0x10000), (9, 8), (12, 0x10100)]))).me.pc = 0x10004 := by decide +kernel
theorem test_amo_enters : ((after (.amo .add 5 6 7 .d .chip .ar) (xs base [(6, 0x10000), (7, 3)])).me.mem.map (fun o => (o.kind, o.acq, o.rel))) = [(MemKind.amo .add 3, some .chip, some .chip)] := by decide +kernel
theorem test_cas_enters : ((after (.cas 5 6 7 .d .chip .rlx) (xs base [(5, 2), (6, 0x10000), (7, 3)])).me.mem.map (fun o => o.kind)) = [.cas 2 3] := by decide +kernel
theorem test_casq_enters : ((after (.casq 10 6 12 .chip .rlx) (xs base [(6, 0x10000), (10, 2), (12, 3)])).me.mem.map (fun o => o.size)) = [16] := by decide +kernel
theorem test_famo_deterministic_parks : ((after (.famo true 5 6 7 .chip .rlx) (xs (base.onMe (fun k => { k with det := true })) [(6, 0x10000)])).me.mode = .running) = False := by decide +kernel
theorem test_cpy_counts : (let t := after (.cpy 8 12 1) (xs base [(8, 0x10000), (9, 8), (12, 0x10100)]); (t.me.getK 1, t.me.copies.length, t.me.foot.length)) = (1, 1, 1) := by decide +kernel
theorem test_cpy_empty_no_footprint : (let t := after (.cpy 8 12 1) (xs base [(8, 0x10000), (12, 0x10100)]); (t.me.getK 1, t.me.foot.length)) = (1, 0) := by decide +kernel
theorem test_cpy2_counts : (after (.cpy2 8 12 1) (xs base [(8, 0x10000), (9, 0x800010008), (12, 0x10100), (13, 0x800010008)])).me.getK 1 = 1 := by decide +kernel
theorem test_cfill_counts : (after (.cfill 8 12 1) (xs base [(8, 5), (12, 0x10100), (13, 8)])).me.getK 1 = 1 := by decide +kernel
theorem test_cdis_range_parks : ((after (.cdis 5) (xs base [(5, 8)])).me.mode = .running) = False := by decide +kernel
theorem test_rld_waits : ((after (.rld 5 6 3 0) (xs base [(6, 0x0000004000000000)])).me.waits.map (fun w => w.dest)) = [.x 5] := by decide +kernel

/-! ### Queues, activations, barriers, rings, tokens (04) -/

/-- A queue of one-word items with one consumer. -/
def fifo (consumer : Party) (store : List Elem) (credits : List (Party × Nat)) : Queue :=
  { part := 0, region := some 0, words := 1, log2 := 4, window := 4, chan := 0, prio := 3, cls := 0, merge := false, relays := [],
    branches := [⟨consumer, consumer.router, store, 0, 0⟩], subs := [], mprod := [], credits := credits, entryQ := false, isOpen := true, named := [],
    flight := [], returns := [], order := [], beyond := [], farConsumers := 0, farRelays := 0 }

/-- A released item. -/
def item (ws : List Word) : Elem := ⟨ws, false, 0, true, .service, none⟩

/-- p0 of core 0 is an input from queue 5. -/
def inPort (store : List Elem) : State :=
  { (base.onMe (fun k => { k with ports := [(0, ⟨5, 0, false, 0⟩)] })) with queues := [(5, fifo (.core 0 0) store [])] }

/-- p1 of core 0 is an output to queue 6, which core 1 consumes, with credits left. -/
def outPort (credits : Nat) : State :=
  { (base.onMe (fun k => { k with ports := [(1, ⟨6, 0, true, 9⟩)] })) with
    queues := [(6, fifo (.core 1 0) [] [(.core 0 1, credits)])] }

/-- h1 is a ring of four 8-byte slots at the start of the local-store window. -/
def ring : State := base.onMe (fun k => k.setH 1 ⟨true, 0x10000, 2, 8, 3, 1, 0⟩)
theorem test_qpush_takes_credit : (mget (after (.qpush 25 5) (xs (outPort 2) [(5, 7)])).queues 6).map (fun q => (q.creditsOf (.core 0 1), q.flight.map (fun f => f.elem.words))) = some (1, [[7]]) := by decide +kernel
theorem test_qpush_stalls : (after (.qpush 25 5) (outPort 0)).me.pc = 0x10000 := by decide +kernel
theorem test_qpush_nb_full : xAfter (.qpushNb 4 25 5) (outPort 0) 4 = 1 := by decide +kernel
theorem test_qpop : (let t := after (.qpop 4 24) (inPort [item [7], item [8]]); (t.me.getX 4, (mget t.queues 5).map (fun q => q.branches.map (fun b => b.store.length)))) = (7, some [1]) := by decide +kernel
theorem test_qtry_empty : xAfter (.qtry 4 24 5) (inPort []) 5 = 1 := by decide +kernel
theorem test_qpeek_keeps : (let t := after (.qpeek 4 24 5) (inPort [item [7]]); (t.me.getX 4, t.me.getX 5, (mget t.queues 5).map (fun q => q.branches.map (fun b => b.store.length)))) = (7, 0, some [1]) := by decide +kernel
theorem test_port_read_pops_once : xAfter (.add 4 24 24) (inPort [item [7], item [9]]) 4 = 14 := by decide +kernel
theorem test_output_port_reads_last : xAfter (.addi 4 25 0) (outPort 1) 4 = 9 := by decide +kernel
theorem test_qcnt : xAfter (.qcnt 4 24) (inPort [item [7], item [8]]) 4 = 2 := by decide +kernel
theorem test_qattr_capacity : xAfter (.qattr 4 24 5) (xs (inPort []) [(5, 1)]) 4 = 16 := by decide +kernel
theorem test_qunb : (after (.qunb 25) (outPort 1)).me.ports = [] := by decide +kernel
theorem test_qbind_in_fails_parks : ((after (.qbindIn 26 5) (xs base [(5, 5)])).me.mode = .running) = False := by decide +kernel
theorem test_qbind_out_far_stalls : (let t := after (.qbindOut 26 5) (xs base [(5, 0x0010000000000005)]); (t.me.pc, t.asks.length)) = (0x10000, 1) := by decide +kernel
theorem test_qmark_tenant_parks : ((after (.qmark 25) (outPort 1)).me.mode = .running) = False := by decide +kernel
theorem test_spawn_queues_task : (after (.spawn 5 6 10) (xs base [(6, 0x40)])).me.runq.map (fun e => (e.kind, e.cls)) = [(.task 1, 2)] := by decide +kernel
theorem test_fork_counts_child : ((after (.forkBusy 5 6 10) (xs base [(6, 0x40)])).act? 0 0).map (fun a => a.children) = some 1 := by decide +kernel
theorem test_fork_stall_creates : ((after (.forkStall 5 6 10) (xs base [(6, 0x1000000000000040), (10, 7)])).act? 0 1).map (fun a => (a.args, a.start)) = some ([7], 0x10040) := by decide +kernel
theorem test_fork_inline_creates : ((after (.forkInline 5 6 10) (xs base [(6, 0x40)])).act? 0 1).map (fun a => a.parent) = some (some 0) := by decide +kernel
theorem test_act_outside_region_parks : ((after (.act 5 6 10) (xs base [(6, 0x0000010000000040)])).me.mode = .running) = False := by decide +kernel
theorem test_crew_mask_of_one_parks : ((after (.crew 5 6 10) (xs base [(6, 0x40), (10, 1)])).me.mode = .running) = False := by decide +kernel
theorem test_binit : (mget (after (.binit 5 6) (xs base [(5, 3), (6, 2)])).myCl.bars 3).map (fun b => b.n) = some 2 := by decide +kernel
theorem test_bara_uninitialised_parks : ((after (.bara 5) (xs base [(5, 3)])).me.mode = .running) = False := by decide +kernel
theorem test_bara_counts : ((after (.bara 5) (xs (base.modCl 0 (fun k => { k with bars := [(3, ⟨2, 0, [], [], none⟩)] })) [(5, 3)])).myCl.bars.map (fun b => b.2.a)) = [1] := by decide +kernel
theorem test_bar_waits : (let t := after (.bar 5) (xs (base.modCl 0 (fun k => { k with bars := [(3, ⟨2, 0, [], [], none⟩)] })) [(5, 3)]); (t.me.pc, t.me.barArrived)) = (0x10000, true) := by decide +kernel
theorem test_barw_free : (after (.barw 5) (xs base [(5, 3)])).me.pc = 0x10004 := by decide +kernel
theorem test_rset : ((after (.rset 2 5 6) (xs base [(5, 0x10000), (6, 0x300010)])).me.getH 2).slot = 16 := by decide +kernel
theorem test_radvw_overrun_parks : ((after (.radvw 1 5) (xs ring [(5, 3)])).me.mode = .running) = False := by decide +kernel
theorem test_radvw : ((after (.radvw 1 5) (xs ring [(5, 2)])).me.getH 1).wpos = 5 := by decide +kernel
theorem test_radvr : ((after (.radvr 1 5) (xs ring [(5, 2)])).me.getH 1).rpos = 3 := by decide +kernel
theorem test_rwaitf_stalls : (after (.rwaitf 1 5) (xs ring [(5, 3)])).me.pc = 0x10000 := by decide +kernel
theorem test_rwaite_goes : (after (.rwaite 1 5) (xs ring [(5, 2)])).me.pc = 0x10004 := by decide +kernel
theorem test_rpos_invalid : xAfter (.rposW 5 3) (xs base []) 5 = 0 := by decide +kernel
theorem test_rpos_w : xAfter (.rposW 5 1) ring 5 = 3 := by decide +kernel
theorem test_rpos_r : xAfter (.rposR 5 1) ring 5 = 1 := by decide +kernel
theorem test_twait_stalls : (after (.twait 5) (xs (base.onMe (fun k => k.setK 1 1)) [(5, 2)])).me.pc = 0x10000 := by decide +kernel
theorem test_tpoll : xAfter (.tpoll 4 5) (xs (base.onMe (fun k => (k.setK 1 1).setK 3 2)) [(5, 0xff)]) 4 = 0xa := by decide +kernel
theorem test_carm_counts : (after (.carm 5 6 1) (xs base [(5, 0), (6, 0x10000)])).me.getK 1 = 1 := by decide +kernel
theorem test_cpyi_counts : (after (.cpyi 8 12 1) (xs base [(8, 0x10000), (9, 0x10200), (12, 0x10100), (13, 0x0000000400000002)])).me.getK 1 = 1 := by decide +kernel
theorem test_rst_counts : (after (.rst 5 6 3 0) (xs base [(5, 0x0000004000000000), (6, 1)])).me.getK 3 = 1 := by decide +kernel
theorem test_rcas_waits : ((after (.rcas 4 5 6 3 0) (xs base [(5, 0x0000004000000000)])).me.waits.map (fun w => w.dest)) = [.x 4] := by decide +kernel
theorem test_ramo_waits : ((after (.ramo .add 4 5 6 3 0) (xs base [(5, 0x0000004000000000)])).me.waits.map (fun w => w.dest)) = [.x 4] := by decide +kernel
theorem test_cpys_counts : (after (.cpys 8 1 1) (xs ring [(8, 0x10100), (9, 1)])).me.getK 1 = 1 := by decide +kernel

/-! ### Vectors (06) -/
theorem test_vadd_f32 : ((after (.vadd 3 1 2 .f32 0) (vs base [(1, 0x3f800000), (2, 0x40000000)])).me.pending.map (fun p => (p.value.setWidth 64 : BitVec 64))) = [(0x40400000 : BitVec 64)] := by decide +kernel
theorem test_vsub_f32 : ((after (.vsub 3 1 2 .f32 0) (vs base [(1, 0x40400000), (2, 0x40000000)])).me.pending.map (fun p => (p.value.setWidth 64 : BitVec 64))) = [(0x3f800000 : BitVec 64)] := by decide +kernel
theorem test_vmul_f32 : ((after (.vmul 3 1 2 .f32 0) (vs base [(1, 0x40000000), (2, 0x40400000)])).me.pending.map (fun p => (p.value.setWidth 64 : BitVec 64))) = [(0x40c00000 : BitVec 64)] := by decide +kernel
theorem test_vfma_f32 : ((after (.vfma 3 1 2 .f32 0) (vs base [(1, 0x40000000), (2, 0x40400000), (3, 0x3f800000)])).me.pending.map (fun p => (p.value.setWidth 64 : BitVec 64))) = [(0x40e00000 : BitVec 64)] := by decide +kernel
theorem test_vfnma_f32 : ((after (.vfnma 3 1 2 .f32 0) (vs base [(1, 0x40000000), (2, 0x40400000), (3, 0x3f800000)])).me.pending.map (fun p => (p.value.setWidth 64 : BitVec 64))) = [(0xc0a00000 : BitVec 64)] := by decide +kernel
theorem test_vadd_i8_wraps : ((after (.vadd 3 1 2 .i8 0) (vs base [(1, 0xff), (2, 0x02)])).me.pending.map (fun p => (p.value.setWidth 64 : BitVec 64))) = [(1 : BitVec 64)] := by decide +kernel
theorem test_vmin_i8 : ((after (.vmin 3 1 2 .i8 0) (vs base [(1, 0xff), (2, 0x02)])).me.pending.map (fun p => (p.value.setWidth 64 : BitVec 64))) = [(0xff : BitVec 64)] := by decide +kernel
theorem test_vmax_n8 : ((after (.vmax 3 1 2 .n8 0) (vs base [(1, 0xff), (2, 0x02)])).me.pending.map (fun p => (p.value.setWidth 64 : BitVec 64))) = [(0xff : BitVec 64)] := by decide +kernel
theorem test_vabs_i8 : ((after (.vabs 3 1 .i8 0) (vs base [(1, 0xff)])).me.pending.map (fun p => (p.value.setWidth 64 : BitVec 64))) = [(1 : BitVec 64)] := by decide +kernel
theorem test_vshl_i8 : ((after (.vshl 3 1 2 .n8 0) (vs base [(1, 0x81), (2, 9)])).me.pending.map (fun p => (p.value.setWidth 64 : BitVec 64))) = [(2 : BitVec 64)] := by decide +kernel
theorem test_vshr_n8 : ((after (.vshr 3 1 2 .n8 0) (vs base [(1, 0x81), (2, 1)])).me.pending.map (fun p => (p.value.setWidth 64 : BitVec 64))) = [(0x40 : BitVec 64)] := by decide +kernel
theorem test_vsra_i8 : ((after (.vsra 3 1 2 .i8 0) (vs base [(1, 0x81), (2, 1)])).me.pending.map (fun p => (p.value.setWidth 64 : BitVec 64))) = [(0xc0 : BitVec 64)] := by decide +kernel
theorem test_vcmpeq : ((after (.vcmpeq 1 1 2 .i8 0) (vs base [(1, 0x0102), (2, 0x0202)])).me.pending.map (fun p => (p.value.setWidth 64 : BitVec 64))) = [(0xfffffffffffffffd : BitVec 64)] := by decide +kernel
theorem test_vcmpne : ((after (.vcmpne 1 1 2 .i8 0) (vs base [(1, 0x0102), (2, 0x0202)])).me.pending.map (fun p => (p.value.setWidth 64 : BitVec 64))) = [(2 : BitVec 64)] := by decide +kernel
theorem test_vcmplt_signed : ((after (.vcmplt 1 1 2 .i8 0) (vs base [(1, 0xff)])).me.pending.map (fun p => (p.value.setWidth 64 : BitVec 64))) = [(1 : BitVec 64)] := by decide +kernel
theorem test_vcmple : ((after (.vcmple 1 1 2 .n8 0) (vs base [(1, 0xff)])).me.pending.map (fun p => (p.value.setWidth 64 : BitVec 64))) = [(0xfffffffffffffffe : BitVec 64)] := by decide +kernel
theorem test_vclip_f32 : ((after (.vclip 3 1 2 .f32 0) (vs base [(1, 0x40400000), (2, 0x40000000)])).me.pending.map (fun p => (p.value.setWidth 64 : BitVec 64))) = [(0x40000000 : BitVec 64)] := by decide +kernel
theorem test_vrsum_i8 : ((after (.vrsum 3 1 .i8 0) (vs base [(1, 0xff02)])).me.pending.map (fun p => (p.value.setWidth 64 : BitVec 64))) = [(1 : BitVec 64)] := by decide +kernel
theorem test_vrmax_i8 : ((after (.vrmax 3 1 .i8 0) (vs base [(1, 0xff02)])).me.pending.map (fun p => (p.value.setWidth 64 : BitVec 64))) = [(2 : BitVec 64)] := by decide +kernel
theorem test_vrmin_i8 : ((after (.vrmin 3 1 .i8 0) (vs base [(1, 0xff02)])).me.pending.map (fun p => (p.value.setWidth 64 : BitVec 64))) = [(0xff : BitVec 64)] := by decide +kernel
theorem test_vrdot_i8 : ((after (.vrdot 3 1 2 .i8 0) (vs base [(1, 0x0302), (2, 0x0504)])).me.pending.map (fun p => (p.value.setWidth 64 : BitVec 64))) = [(23 : BitVec 64)] := by decide +kernel
theorem test_vcvt_b16_tie : ((after (.vcvt 3 2 .b16 .f32 .rne false 0) (vs base [(2, 0x4b80000f)])).me.pending.map (fun p => (p.value.setWidth 64 : BitVec 64))) = [(0x4b80 : BitVec 64)] := by decide +kernel
theorem test_vcvt_e4_saturates : ((after (.vcvt 4 2 .e4 .f32 .rne true 0) (vs base [(2, 0x4b80000f)])).me.pending.map (fun p => (p.value.setWidth 64 : BitVec 64))) = [(0x7e : BitVec 64)] := by decide +kernel
theorem test_vtrb_n8 : ((after (.vtrb 3 1 .n8) (vs base [(1, 0x0101)])).me.pending.map (fun p => (p.value.setWidth 64 : BitVec 64))) = [(3 : BitVec 64)] := by decide +kernel
theorem test_vtrbi_n8 : ((after (.vtrbi 3 1 .n8) (vs base [(1, 3)])).me.pending.map (fun p => (p.value.setWidth 64 : BitVec 64))) = [(0x0101 : BitVec 64)] := by decide +kernel
theorem test_vrcp_two : ((after (.vrcp 3 1 .f32 0) (vs base [(1, 0x40000000)])).me.pending.map (fun p => (p.value.setWidth 64 : BitVec 64))) = [(0x7f8000003f000000 : BitVec 64)] := by decide +kernel
theorem test_vexp2_one : ((after (.vexp2 3 1 .f32 0) (vs base [(1, 0x3f800000)])).me.pending.map (fun p => (p.value.setWidth 64 : BitVec 64))) = [(0x3f80000040000000 : BitVec 64)] := by decide +kernel
theorem test_vlog2_two : ((after (.vlog2 3 1 .f32 0) (vs base [(1, 0x40000000)])).me.pending.map (fun p => (p.value.setWidth 64 : BitVec 64))) = [(0xff8000003f800000 : BitVec 64)] := by decide +kernel
theorem test_vrsq_four : ((after (.vrsq 3 1 .f32 0) (vs base [(1, 0x40800000)])).me.pending.map (fun p => (p.value.setWidth 64 : BitVec 64))) = [(0x7f8000003f000000 : BitVec 64)] := by decide +kernel
theorem test_vand : ((after (.vand 3 1 2 0) (vs base [(1, 0xff), (2, 0x0f)])).me.getV 3).setWidth 64 = (0x0f : BitVec 64) := by decide +kernel
theorem test_vor : ((after (.vor 3 1 2 0) (vs base [(1, 0xf0), (2, 0x0f)])).me.getV 3).setWidth 64 = (0xff : BitVec 64) := by decide +kernel
theorem test_vxor : ((after (.vxor 3 1 2 0) (vs base [(1, 0xff), (2, 0x0f)])).me.getV 3).setWidth 64 = (0xf0 : BitVec 64) := by decide +kernel
theorem test_vsel_mask : ((after (.vsel 3 1 2 .f32 1) ((vs base [(1, 0x100000002), (2, 0x300000004)]).onMe (fun k => k.setM 1 1))).me.getV 3).setWidth 64 = (0x300000002 : BitVec 64) := by decide +kernel
theorem test_vperm : ((after (.vperm 3 1 2 .n8 0) (vs base [(1, 0x0807060504030201), (2, 0x0001020304050607)])).me.getV 3).setWidth 64 = (0x0102030405060708 : BitVec 64) := by decide +kernel
theorem test_vbcst : ((after (.vbcst 3 5 .n8 0) (xs base [(5, 0x1ab)])).me.getV 3).setWidth 64 = (0xabababababababab : BitVec 64) := by decide +kernel
theorem test_vslide : ((after (.vslide 3 1 5 .n8 0) (xs (vs base [(1, 0x0807060504030201)]) [(5, 1)])).me.getV 3).setWidth 64 = (0x0008070605040302 : BitVec 64) := by decide +kernel
theorem test_vzip : ((after (.vzip 3 1 2 .n8 0) (vs base [(1, 0x04030201), (2, 0x14131211)])).me.getV 3).setWidth 64 = (0x1404130312021101 : BitVec 64) := by decide +kernel
theorem test_vuzp : ((after (.vuzp 3 1 2 .n8 0) (vs base [(1, 0x1404130312021101)])).me.getV 3).setWidth 64 = (0x04030201 : BitVec 64) := by decide +kernel
theorem test_vmov_inactive_zero : ((after (.vmov 3 1 .f32 1) ((vs base [(1, 0x100000002), (3, BitVec.allOnes 1024)]).onMe (fun k => k.setM 1 1))).me.getV 3).setWidth 64 = (2 : BitVec 64) := by decide +kernel
theorem test_vins : ((after (.vins 3 5 6 .f32) (xs base [(5, 7), (6, 1)])).me.getV 3).setWidth 64 = (0x700000000 : BitVec 64) := by decide +kernel
theorem test_vmvx_sign : ((after (.vmvx 5 1 6 .i8) (vs base [(1, 0xff)])).me.pending.map (fun p => (p.value.setWidth 64 : BitVec 64))) = [BitVec.allOnes 64] := by decide +kernel
theorem test_vmand : ((after (.vmand 3 1 2) (base.onMe (fun k => (k.setM 1 6).setM 2 3))).me.getM 3) = 2 := by decide +kernel
theorem test_vmor : ((after (.vmor 3 1 2) (base.onMe (fun k => (k.setM 1 6).setM 2 3))).me.getM 3) = 7 := by decide +kernel
theorem test_vmxor : ((after (.vmxor 3 1 2) (base.onMe (fun k => (k.setM 1 6).setM 2 3))).me.getM 3) = 5 := by decide +kernel
theorem test_vscl : ((after (.vscl 3 1 2 .f32 0) ((vs base [(1, 0x3f800000)]).modCl 0 (fun k => { k with z := [(2, 3)] }))).me.pending.map (fun p => (p.value.setWidth 64 : BitVec 64))) = [(0x41000000 : BitVec 64)] := by decide +kernel
theorem test_vld_too_few_slots : (after (.vld 1 1 .f32) ring).me.pc = 0x10000 := by decide +kernel
theorem test_vgath_lanes : ((after (.vgath 1 5 2 .n8 1) ((xs base [(5, 0x10000)]).onMe (fun k => k.setM 1 3))).me.mem.map (fun o => o.lanes.length)) = [2] := by decide +kernel
theorem test_vscat_lanes : ((after (.vscat 1 5 2 .n8 1) ((xs base [(5, 0x10000)]).onMe (fun k => k.setM 1 3))).me.mem.map (fun o => o.kind)) = [.store [[0], [0]]] := by decide +kernel
theorem test_vpark_handle : ((after (.vpark 5 1) base).me.pending.map (fun p => (p.value.setWidth 64 : BitVec 64))) = [(0x8000 : BitVec 64)] := by decide +kernel
theorem test_vunpk_stale_parks : ((after (.vunpk 1 5) (xs base [(5, 0x8000)])).me.mode = .running) = False := by decide +kernel

/-! ### Matrix, Atoll, messages, journal (07) -/
theorem test_mzero_binds : (let t := after (.mzero 3 2) base; (mget t.me.a 3, t.me.getK 2)) = (some 0, 1) := by decide +kernel
theorem test_mstor_unbound_parks : ((after (.mstor 0 12 .b16 3) base).me.mode = .running) = False := by decide +kernel
theorem test_mload_shape : ((after (.mload 0 16 1) (xs base [(16, 0x10000000000), (17, 0x0010000000000303)])).myCl.tiles.map (fun t => (t.2.m, t.2.n, t.2.rows))) = [(4, 4, [0, 1, 2, 3])] := by decide +kernel
theorem test_mmac_shapes_tile : (let s := after (.mzero 0 2) base; (after (.mmac 0 1 2 .f32 false false false 1) s).myCl.tiles.map (fun t => (t.2.m, t.2.n, t.2.kind))) = [(4, 4, .float)] := by decide +kernel
theorem test_mread_waits : (after (.mread 1 0 5 .f32) (after (.mzero 0 2) (xs base [(5, 0x8000000000000000)]))).me.pc = 0x10004 := by decide +kernel
theorem test_mpri : (after (.mpri 5) (xs base [(5, 20)])).me.mprio = 20 := by decide +kernel
theorem test_mspan_no_span_parks : ((after (.mspan 5 1) (xs base [(5, 0x10000)])).me.mode = .running) = False := by decide +kernel
theorem test_lctx : (after (.lctx 5) (xs base [(5, 0x04100000)])).me.sel = 0x04100000 := by decide +kernel
theorem test_lstat_empty : xAfter (.lstat 5) base 5 = 0 := by decide +kernel
theorem test_lflush_counts : (after (.lflush 1) base).me.getK 1 = 1 := by decide +kernel
theorem test_ltld_counts : (after (.ltld 1 5 1) (xs ring [(5, 3)])).me.getK 1 = 1 := by decide +kernel
theorem test_lwld_range_parks : ((after (.lwld 1 5 1) (xs ring [(5, 8)])).me.mode = .running) = False := by decide +kernel
theorem test_lrun_goes : ((after (.lrun 2 1 5 1) (xs (ring.onMe (fun k => (k.setH 2 (k.getH 1)))) [(5, 1)])).me.mode = .running) = True := by decide +kernel
theorem test_xpost_sends : ((after (.xpost 5 6) (xs base [(6, 0x10000)])).engine 0).inbox.map (fun r => r.cmd) = [.post [0, 0, 0, 0, 0, 0]] := by decide +kernel
theorem test_xten_sends : ((after (.xten 5 6 7) (xs base [(6, 0x10000), (7, 9)])).engine 0).inbox.map (fun r => r.cmd) = [.xten 9 [0, 0, 0, 0, 0, 0]] := by decide +kernel
theorem test_xcan_engine : ((after (.xcan 5 6) (xs base [(6, 0x80020000)])).engine 2).inbox.map (fun r => r.cmd) = [.cancel 0x80020000] := by decide +kernel
theorem test_xprobe_sends : ((after (.xprobe 5 6) (xs base [(6, 0x10000)])).engine 0).inbox.map (fun r => r.cmd) = [.probe [0, 0]] := by decide +kernel
theorem test_xsend_unknown_communicator : ((after (.xsend 5 6 7 1) (xs base [(6, 0x10000)])).me.pending.map (fun p => (p.value.setWidth 64 : BitVec 64))) = [(1 : BitVec 64)] := by decide +kernel
theorem test_jrec_not_enabled_parks : ((after (.jrec 5 6) (xs { base with mem := memWrite [] (localKey 0 0) [1] } [(6, 0x10000)])).me.mode = .running) = False := by decide +kernel
theorem test_jsync_counts : (after (.jsync 5 1) base).me.getK 1 = 1 := by decide +kernel
theorem test_jtrunc_not_enabled_parks : ((after (.jtrunc 5 6) base).me.mode = .running) = False := by decide +kernel
theorem test_jstat_last : ((after (.jstat 5 6) { base with journal := { Journal.reset with last := 7 } }).me.pending.map (fun p => (p.value.setWidth 64 : BitVec 64))) = [(7 : BitVec 64)] := by decide +kernel
theorem test_rngc_vector_0 : ((after (.rngc 5 10 12) base).me.pending.map (fun p => ((p.value.setWidth 64 : BitVec 64), p.ready))) = [((0x665516772be76924 : BitVec 64), 104)] := by decide +kernel
theorem test_rngc_vector_1 : ((after (.rngc 5 10 12) (xs base [(10, 1)])).me.pending.map (fun p => (p.value.setWidth 64 : BitVec 64))) = [(0x6654167c2bdd6924 : BitVec 64)] := by decide +kernel

/-! ### One step (01) -/
theorem test_step_runs_placed_word : (match step (State.reset.withFetchWord 32 0x84528321) with | .next t => (t.core 0).getX 5 | _ => 0) = 801 := by decide +kernel
theorem test_step_next_clk : (match step State.reset with | .next t => t.clk | _ => 0) = 1 := by decide +kernel

end Sys2Proof.Tests
end

