-- ==== Sys2Proof/Tests/Witnesses.lean ====
section
/-!
SUPPORT. Witnesses: for each statement with hypotheses, concrete states and operands that meet all of them, for each clause at the
edges of its range.
-/

namespace Sys2Proof.Tests

open Sys2Proof.Machine Sys2Proof.Claims

set_option Elab.async false

/-! ### Scalar instructions, branches, system instructions -/

theorem base_runs : base.runs 0 placedAct := by unfold State.runs; decide +kernel

theorem witness_ScalarTableResults : ∃ f g, base.lone = true ∧
    tableR72 (.add 31 1 2) = some (31, 1, 2, f) ∧ base.xOk [1, 2, 31] = true ∧
    tableR72 (.popc 0 0) = some (0, 0, 0, g) ∧ base.xOk [0, 0, 0] = true :=
  ⟨_, _, by decide +kernel, rfl, by decide +kernel, rfl, by decide +kernel⟩

theorem witness_ImmediateResults : ∃ f g, base.lone = true ∧ tableR74 (.addi 1 1 0x7fff) = some (1, 1, f) ∧
    base.xOk [1, 1] = true ∧ tableR74 (.rori 0 31 63) = some (0, 31, g) ∧ base.xOk [31, 0] = true :=
  ⟨_, _, by decide +kernel, rfl, by decide +kernel, rfl, by decide +kernel⟩

theorem witness_UpperImmediateResults : base.lone = true ∧ base.xOk [0] = true ∧ base.xOk [31] = true := by decide +kernel

theorem witness_HighProducts : base.lone = true ∧ base.xOk [1, 2, 3] = true ∧ base.xOk [0, 0, 0] = true := by decide +kernel

/-- A division is in flight. -/
def dividing : State := after (.div 3 1 2) (xs base [(1, 6)])

theorem witness_Divisions : base.lone = true ∧ division (.div 3 1 2) = some (3, 1, 2, true, false) ∧ base.xOk [1, 2, 3] = true ∧
    base.me.pending.any (fun p => p.divider) = false ∧ dividing.lone = true ∧
    division (.remu 0 1 2) = some (0, 1, 2, false, true) ∧ dividing.xOk [1, 2, 0] = true ∧
    dividing.me.pending.any (fun p => p.divider) = true ∧ (xs base [(1, 6)]).xv 2 = 0 := by decide +kernel

theorem witness_Branches : ∃ p q : Word → Word → Prop, base.lone = true ∧ branchOf (.beq 1 0 0x7fff) = some (1, 0, 0x7fff, p) ∧
    base.xOk [1, 0] = true ∧ p (base.xv 1) (base.xv 0) ∧ branchOf (.blt 31 31 1) = some (31, 31, 1, q) ∧
    base.xOk [31, 31] = true ∧ ¬ q (base.xv 31) (base.xv 31) :=
  ⟨_, _, by decide +kernel, rfl, by decide +kernel, show base.xv 1 = base.xv 0 by decide +kernel, rfl, by decide +kernel,
    show ¬ (base.xv 31).toInt < (base.xv 31).toInt by decide +kernel⟩

theorem witness_Jumps : base.lone = true ∧ base.xOk [1] = true ∧ base.xOk [1, 1] = true ∧ base.xOk [31, 0] = true := by decide +kernel

theorem witness_EndRetires : base.lone = true ∧ base.memOk ∧ base.runs 0 placedAct ∧ placedAct.children = 0 ∧
    base.me.tokensDone = true ∧ base.me.recordsDone = true ∧ base.me.portPending = false ∧ placedAct.parent = none ∧
    placedAct.parent ≠ some 0 := by
  unfold State.runs; decide +kernel

/-- A child runs beside its parent, which waits with a frame. -/
def childOf : Act := { placedAct with parent := some 1 }
def childRuns : State := (base.setAct 0 0 childOf).setAct 0 1 (suspended base { placedAct with children := 1 } .waitChildren 0)

theorem witness_EndRetires_child : childRuns.lone = true ∧ childRuns.memOk ∧ childRuns.runs 0 childOf ∧ childOf.children = 0 ∧
    childRuns.me.tokensDone = true ∧ childRuns.me.recordsDone = true ∧ childRuns.me.portPending = false ∧
    childRuns.me.mem.all (fun o => o.shownAt .cl) = true ∧ childOf.left.all (childRuns.gateOpen .cl) = true ∧
    childOf.parent ≠ some 0 ∧ (childRuns.act? (clusterOf childRuns.cur) 1).isSome = true := by
  unfold State.runs; decide +kernel

/-- Cluster 0 has bound its system-call queue, on which core 0 holds a credit. -/
def calls : State :=
  { (xs base [(10, 7)]).modCl 0 (fun k => { k with sysq := some 9 }) with
    queues := [(9, fifo .service [] [(callParty 0, 1)])] }

/-- The queue holds no credit for core 0. -/
def noCredit : State := { calls with queues := [(9, fifo .service [] [(callParty 0, 0)])] }

theorem witness_TenantCall : calls.lone = true ∧ calls.memOk ∧ isSup calls.cur = false ∧ calls.runs 0 placedAct ∧
    placedAct.member = false ∧ calls.xOk [10, 11, 12, 13, 14, 15, 16] = true ∧ calls.me.poisonFree = true ∧
    calls.me.recordsDone = true ∧ calls.me.framePending = false ∧ calls.myCl.freeFrame = some 0 ∧ calls.myCl.sysq = some 9 ∧
    (calls.canCall calls.cur && !calls.olderCaller (clusterOf calls.cur) 0) = true ∧
    noCredit.lone = true ∧ noCredit.memOk ∧ isSup noCredit.cur = false ∧ noCredit.runs 0 placedAct ∧
    noCredit.xOk [10, 11, 12, 13, 14, 15, 16] = true ∧ noCredit.me.poisonFree = true ∧ noCredit.me.recordsDone = true ∧
    noCredit.me.framePending = false ∧ noCredit.myCl.freeFrame = some 0 ∧ noCredit.myCl.sysq = some 9 ∧
    (noCredit.canCall noCredit.cur && !noCredit.olderCaller (clusterOf noCredit.cur) 0) = false := by
  unfold State.runs; decide +kernel

theorem witness_SupervisorCall : sup.lone = true ∧ isSup sup.cur = true := by decide +kernel

theorem witness_BreakPoint : base.lone = true ∧ sup.lone = true := by decide +kernel

theorem witness_ReturnFromTrap : sup.lone = true ∧ isSup sup.cur = true ∧ base.lone = true ∧ isSup base.cur = false := by
  decide +kernel

theorem witness_AllSupervisorTrap : isSup 8192 = true ∧ (sup.core 8192).th = false ∧ isSup 8255 = true ∧
    ((sup.modCore 8255 (fun k => { k with th := true })).core 8255).th = true := by decide +kernel

theorem witness_AllTenantFaultParks : isSup 0 = false ∧ (base.cl (clusterOf 0)).freeEntry = some 0 ∧ isSup 8191 = false ∧
    (base.cl (clusterOf 8191)).freeEntry = some 0 := by decide +kernel

/-- The running activation has a child. -/
def parent : State := base.setAct 0 0 { placedAct with children := 1 }

theorem witness_EndWaits : parent.lone = true ∧ parent.memOk ∧ parent.runs 0 { placedAct with children := 1 } ∧
    ({ placedAct with children := 1 } : Act).children ≠ 0 ∧ placedAct.member = false ∧ parent.me.tokensDone = true ∧
    parent.me.recordsDone = true ∧ parent.me.framePending = false ∧ parent.myCl.freeFrame = some 0 := by
  unfold State.runs; decide +kernel

/-- Another activation of the cluster waits in the run queue of core 0. -/
def rival : State :=
  (base.setAct 0 1 { placedAct with place := .queued 0 }).onMe (fun k => { k with runq := [⟨.task 1, 0, 0, 2, 0⟩] })

/-- A member of a crew, its last child just ended, and one with a child. -/
def memberAct : Act := { placedAct with member := true, endAt := some 100 }
def members : State := base.setAct 0 0 memberAct
def memberWaits : Act := { placedAct with member := true, children := 1 }
def memberHolds : State := base.setAct 0 0 memberWaits

theorem witness_SyncAndYield : base.lone = true ∧ base.memOk ∧ base.runs 0 placedAct ∧ base.me.poisonFree = true ∧
    placedAct.children = 0 ∧ (placedAct.member || !base.otherWork base.cur placedAct) = true ∧
    members.lone = true ∧ members.memOk ∧ members.runs 0 memberAct ∧ members.me.poisonFree = true ∧ memberAct.children = 0 ∧
    memberAct.member = true ∧ memberAct.endAt = some members.clk ∧
    memberHolds.lone = true ∧ memberHolds.memOk ∧ memberHolds.runs 0 memberWaits ∧ memberHolds.me.poisonFree = true ∧
    memberWaits.children ≠ 0 ∧
    parent.lone = true ∧ parent.memOk ∧ parent.runs 0 { placedAct with children := 1 } ∧ parent.me.poisonFree = true ∧
    placedAct.member = false ∧ parent.me.tokensDone = true ∧ parent.me.framePending = false ∧ parent.myCl.freeFrame = some 0 ∧
    rival.lone = true ∧ rival.memOk ∧ rival.runs 0 placedAct ∧ rival.me.poisonFree = true ∧
    rival.otherWork rival.cur placedAct = true ∧ rival.me.tokensDone = true ∧ rival.me.framePending = false ∧
    rival.myCl.freeFrame = some 0 ∧ rival.me.role = placedAct.role ∧ rival.me.runq.length < 64 ∧
    rival.myCl.olderReady 0 placedAct rival.clk = false := by
  unfold State.runs; decide +kernel

theorem witness_SetPriority : (xs base [(5, 31), (6, 32)]).lone = true ∧ (xs base [(5, 31), (6, 32)]).runs 0 placedAct ∧
    (xs base [(5, 31), (6, 32)]).xOk [5] = true ∧ ((xs base [(5, 31), (6, 32)]).xv 5).toNat ≤ 31 ∧
    (xs base [(5, 31), (6, 32)]).xOk [6] = true ∧ 31 < ((xs base [(5, 31), (6, 32)]).xv 6).toNat := by
  unfold State.runs; decide +kernel

theorem witness_ReadSystemRegister : base.lone = true ∧ base.xOk [5] = true ∧ isSysNum 0x14 = true ∧
    (isSup base.cur || tenantReads 0x14) = true ∧ base.me.flagsPending = false ∧ isSysNum 4 = true ∧
    (isSup base.cur || tenantReads 4) = false := by decide +kernel

theorem witness_SystemRegisterValues : isSup 0 = false ∧ isSup 8191 = false := by decide +kernel

theorem witness_AllWriteSystemRegister : base.lone = true ∧ base.xOk [5] = true ∧ isSysNum 0x14 = true ∧
    tenantWrites 0x14 = true ∧ sysInvalid 0x14 (base.xv 5) = false ∧ base.me.flagsPending = false ∧
    isSysNum 0x15 = true ∧ tenantWrites 0x15 = true ∧ sysInvalid 0x15 (base.xv 5) = false ∧
    isSysNum 0x20 = true ∧ tenantWrites 0x20 = true ∧ isClusterReg 0x20 = true ∧ sysInvalid 0x20 (base.xv 5) = false ∧
    sysInvalid 0x20 ((xs base [(5, 0x80)]).xv 5) = true ∧ (xs base [(5, 0x80)]).xOk [5] = true ∧
    isSysNum 9 = true ∧ tenantWrites 9 = false ∧ sup.lone = true ∧ sup.xOk [5] = true ∧
    (∀ n, n ∈ [0, 1, 2, 3, 4, 8, 11, 0x20] → isSysNum (BitVec.ofNat 12 n) = true ∧ supWrites n = true ∧
      sysInvalid n (sup.xv 5) = false) ∧ isSysNum 0x13 = true ∧ supWrites 0x13 = false := by decide +kernel

/-! ### Memory -/

theorem witness_LoadsIssue : ∃ f g, base.lone = true ∧ loadForm (xs base [(6, 0x10000)]).xv (.ld 5 6 .d 1) = some f ∧
    (xs base [(6, 0x10000)]).xOk (f.dest :: f.sources) = true ∧
    (xs base [(6, 0x10000)]).reach f.va (sizeBytes f.size) true false false = some (localKey 0 8) ∧
    (xs base [(6, 0x10000)]).loadsOut < 16 ∧ loadForm (xs base [(6, 0x1ffff)]).xv (.ldz 0 6 .b 0) = some g ∧
    (xs base [(6, 0x1ffff)]).xOk (g.dest :: g.sources) = true ∧
    (xs base [(6, 0x1ffff)]).reach g.va (sizeBytes g.size) true false false = some (localKey 0 0xffff) :=
  ⟨_, _, by decide +kernel, rfl, by decide +kernel, by decide +kernel, by decide +kernel, rfl, by decide +kernel,
    by decide +kernel⟩

theorem witness_StoresIssue : ∃ f, (xs base [(6, 0x10000)]).lone = true ∧
    storeForm (xs base [(6, 0x10000)]).xv (.strl 5 6 .d .chip 0) = some f ∧ (xs base [(6, 0x10000)]).xOk f.sources = true ∧
    (xs base [(6, 0x10000)]).reach f.va (sizeBytes f.size) false true false = some (localKey 0 0) ∧
    (xs base [(6, 0x10000)]).storesOut < 32 ∧ f.releases.isSome = true ∧ (xs base [(6, 0x10000)]).me.recordsDone = true :=
  ⟨_, by decide +kernel, rfl, by decide +kernel, by decide +kernel, by decide +kernel, rfl, by decide +kernel⟩

/-- A core whose 64 KiB page at 2^44 a walk has found absent. -/
def absentPage : State := (xs base [(6, 0x100000000000)]).onMe (fun k => { k with absent := some 0x10000000 })

/-- A supervisor core that names a device register of four bytes. -/
def supDevice : State := xs sup [(6, 0xffff800300000000)]

theorem witness_AllAccessFaults : ∃ f g h i, accessOf (xs base [(6, 0x8000000000000000)]).xv (.ld 5 6 .d 0) = some f ∧
    (xs base [(6, 0x8000000000000000)]).lone = true ∧ (xs base [(6, 0x8000000000000000)]).xOk f.2.2.2 = true ∧
    (xs base [(6, 0x8000000000000000)]).me.recordsDone = true ∧ canonical f.1 = false ∧
    accessOf (xs base [(6, 0x10004)]).xv (.ld 5 6 .d 0) = some g ∧ (xs base [(6, 0x10004)]).xOk g.2.2.2 = true ∧
    canonical g.1 = true ∧ g.1.toNat % g.2.1 ≠ 0 ∧
    accessOf (xs base [(6, 0)]).xv (.ld 5 6 .d 0) = some h ∧ (xs base [(6, 0)]).xOk h.2.2.2 = true ∧
    canonical h.1 = true ∧ h.1.toNat % h.2.1 = 0 ∧ base.xlate base.cur h.1 (!h.2.2.1) h.2.2.1 = .bad .protection ∧
    accessOf (xs base [(6, 0x100000000000)]).xv (.ld 5 6 .d 0) = some i ∧ (xs base [(6, 0x100000000000)]).xOk i.2.2.2 = true ∧
    canonical i.1 = true ∧ i.1.toNat % i.2.1 = 0 ∧ base.xlate base.cur i.1 (!i.2.2.1) i.2.2.1 = .miss ∧
    base.me.absent ≠ some (i.1.toNat / 65536) ∧ absentPage.lone = true ∧ absentPage.xOk i.2.2.2 = true ∧
    absentPage.me.recordsDone = true ∧ accessOf absentPage.xv (.ld 5 6 .d 0) = some i ∧
    absentPage.xlate absentPage.cur i.1 (!i.2.2.1) i.2.2.1 = .miss ∧ absentPage.me.absent = some (i.1.toNat / 65536) :=
  ⟨_, _, _, _, rfl, by decide +kernel, by decide +kernel, by decide +kernel, by decide +kernel, rfl, by decide +kernel,
    by decide +kernel, by decide +kernel, rfl, by decide +kernel, by decide +kernel, by decide +kernel, by decide +kernel, rfl,
    by decide +kernel, by decide +kernel, by decide +kernel, by decide +kernel, by decide +kernel, by decide +kernel,
    by decide +kernel, by decide +kernel, rfl, by decide +kernel, by decide +kernel⟩

/-- A program of one role. -/
def image : Image :=
  { id := 7, rows := 1, cols := 1, det := false, roles := [⟨0, 0, [], [], List.replicate 16 0x84000000, 64, [], none⟩],
    place := [(0, 0, 0, 0, 0, 0)], queues := [], placeWords := [], queueWords := [], root := 0, edges := [], chans := [], scales := [],
    codes := [], wins := [(3, false, 0, [1, 2])], tensors := [], digest := [] }

/-- It is live in partition 0 at the origin of cluster 0, with two bytes in window 3. -/
def live : State :=
  { base with progs := [(0, ⟨image, 0, [], .live, [], [(3, [1, 2])], [], none, none, 0, 0, []⟩)] }

theorem witness_PrefetchAndWindows :
    (xs live [(6, 0x100000000000)]).lone = true ∧ (xs live [(6, 0x100000000000)]).xOk [6, 7] = true ∧
    (xs live [(6, 0x100000000000)]).xlate 0 ((xs live [(6, 0x100000000000)]).xv 6 + ((xs live [(6, 0x100000000000)]).xv 7 <<< 0))
      false false = .miss ∧
    (xs live [(6, 0x10000)]).lone = true ∧ (xs live [(6, 0x10000)]).xOk [6, 7] = true ∧
    (xs live [(6, 0x10000)]).xlate 0 ((xs live [(6, 0x10000)]).xv 6 + ((xs live [(6, 0x10000)]).xv 7 <<< 3)) false false ≠ .miss ∧
    live.lone = true ∧ live.xOk [6, 5] = true ∧ (live.xv 6).toNat % sizeBytes .h = 0 ∧ live.window live.cur 3 = some [1, 2] ∧
    (live.xv 6).toNat < 2 ∧ live.window live.cur 4 = none ∧
    ((xs live [(6, 2)]).xv 6).toNat % sizeBytes .h = 0 ∧ (xs live [(6, 2)]).window live.cur 3 = some [1, 2] ∧
    2 ≤ ((xs live [(6, 2)]).xv 6).toNat ∧ (xs live [(6, 2)]).lone = true ∧ (xs live [(6, 2)]).xOk [6, 5] = true ∧
    ((xs live [(6, 1)]).xv 6).toNat % sizeBytes .h ≠ 0 ∧ (xs live [(6, 1)]).lone = true ∧ (xs live [(6, 1)]).xOk [6, 5] = true := by
  decide +kernel

/-- A load is outstanding; a copy is in flight. -/
def loading : State := after (.ld 5 6 .d 0) (xs base [(6, 0x10000)])
def copying : State := after (.cpy 8 12 1) (xs base [(8, 0x10000), (9, 8), (12, 0x10100)])

theorem witness_Fences : base.lone = true ∧ (8 : BitVec 4) ≠ 0 ∧ (15 : BitVec 4) ≠ 0 ∧
    base.me.mem.any (fun o => !o.isStore && !o.shownAt .sys) = false ∧ loading.lone = true ∧
    loading.me.mem.any (fun o => !o.isStore && !o.shownAt .core) = true ∧
    copying.lone = true ∧ copying.writesOutstanding 0 = true := by decide +kernel

theorem witness_AtomicsIssue : ∃ f g,
    (xs base [(6, 0x10000)]).lone = true ∧ atomForm (xs base [(6, 0x10000)]).xv (.casq 10 6 12 .sys .ar) = some f ∧
    (xs base [(6, 0x10000)]).xOk f.regs = true ∧
    (xs base [(6, 0x10000)]).reach f.va f.size true true true = some (localKey 0 0) ∧ orderReleases f.order = true ∧
    (xs base [(6, 0x10000)]).me.recordsDone = true ∧ f.barred (xs base [(6, 0x10000)]).me = false ∧
    atomForm (xs base [(6, 0x10000)]).xv (.famo true 0 6 7 .core .rlx) = some g ∧
    (xs base [(6, 0x10000)]).xOk g.regs = true ∧
    (xs base [(6, 0x10000)]).reach g.va g.size true true true = some (localKey 0 0) ∧ orderReleases g.order = false ∧
    g.barred (xs base [(6, 0x10000)]).me = false :=
  ⟨_, _, by decide +kernel, rfl, by decide +kernel, by decide +kernel, rfl, by decide +kernel, by decide +kernel, rfl,
    by decide +kernel, by decide +kernel, rfl, by decide +kernel⟩

theorem witness_DeterministicFamo : (base.onMe (fun k => { k with det := true })).lone = true ∧
    (base.onMe (fun k => { k with det := true })).xOk [6, 7] = true ∧
    (base.onMe (fun k => { k with det := true })).me.det = true := by decide +kernel

/-- h1 is a full ring of four 32-byte slots at the start of the local-store window. -/
def vring : State := base.onMe (fun k => k.setH 1 ⟨true, 0x10000, 2, 32, 4, 0, 0⟩)

/-- The same ring, empty. -/
def vempty : State := base.onMe (fun k => k.setH 1 ⟨true, 0x10000, 2, 32, 4, 4, 0⟩)

theorem witness_RingVectors : vring.lone = true ∧ vring.me.vFree 1 = true ∧ (vring.me.getH 1).valid = true ∧
    (vring.me.getH 1).vectorOk = true ∧ (vring.me.getH 1).slots - (vring.me.getH 1).filled < 128 / (vring.me.getH 1).slot ∧
    128 / (vring.me.getH 1).slot ≤ (vring.me.getH 1).filled ∧ vring.loadsOut < 16 ∧
    (vring.reachAll 8 false (vring.fillers vring.cur 1) ((List.range 16).map ((vring.me.getH 1).unitAddr (vring.me.getH 1).rpos.toNat))).isSome = true ∧
    vempty.lone = true ∧ vempty.me.vFree 1 = true ∧ (vempty.me.getH 1).valid = true ∧ (vempty.me.getH 1).vectorOk = true ∧
    (vempty.me.getH 1).filled < 128 / (vempty.me.getH 1).slot ∧ 128 / (vempty.me.getH 1).slot ≤ (vempty.me.getH 1).slots - (vempty.me.getH 1).filled ∧
    vempty.storesOut < 32 ∧
    (vempty.reachAll 8 true [] ((List.range 16).map ((vempty.me.getH 1).unitAddr (vempty.me.getH 1).wpos.toNat))).isSome = true := by
  decide +kernel

/-- x5 holds the window's base, and two lanes of m1 are active. -/
def gathers : State := (xs base [(5, 0x10000)]).onMe (fun k => k.setM 1 3)

theorem witness_GatherAndScatter : gathers.lone = true ∧ gathers.xOk [5] = true ∧ gathers.me.vFree 1 = true ∧
    gathers.me.vFree 2 = true ∧ gathers.me.mFree 1 = true ∧ gathers.loadsOut < 16 ∧ gathers.storesOut < 32 ∧
    (gathers.reachAll 1 false [] (((List.range (laneCount .n8)).filter (laneActive (laneCount .n8) (gathers.mv 1))).map
      (fun i => gathers.xv 5 + BitVec.ofNat 64 (laneOf .n8 (gathers.vv 2) i * 1)))).isSome = true ∧
    (gathers.reachAll 1 true [] (((List.range (laneCount .n8)).filter (laneActive (laneCount .n8) (gathers.mv 1))).map
      (fun i => gathers.xv 5 + BitVec.ofNat 64 (laneOf .n8 (gathers.vv 2) i * 1)))).isSome = true := by decide +kernel

/-! ### Queues -/

/-- The binding and queue of the tests' input port, with these items. -/
def inBound (l : List Elem) : Option (Binding × Queue) := some (⟨5, 0, false, 0⟩, fifo (.core 0 0) l [])

/-- The binding and queue of the tests' output port, with these credits. -/
def outBound (n : Nat) : Option (Binding × Queue) := some (⟨6, 0, true, 9⟩, fifo (.core 1 0) [] [(.core 0 1, n)])

theorem witness_QueuePushes : base.lone = true ∧ base.xOk [4] = true ∧ base.opened 25 = none ∧
    (inPort []).lone = true ∧ (inPort []).xOk [4] = true ∧ (inPort []).opened 24 = inBound [] ∧
    (outPort 0).lone = true ∧ (outPort 0).xOk [4] = true ∧ (outPort 0).opened 25 = outBound 0 ∧ (outPort 0).xOk [23] = true ∧
    (outPort 0).me.recordsDone = true ∧ (23 : Reg).toNat + 1 ≤ 24 ∧
    (outPort 1).lone = true ∧ (outPort 1).xOk [4] = true ∧ (outPort 1).opened 25 = outBound 1 ∧ (outPort 1).xOk [23] = true ∧
    (outPort 1).me.recordsDone = true := by decide +kernel

theorem witness_PushTakesACredit : ∃ q, mget (outPort 1).queues 6 = some q ∧ q.branches ≠ [] :=
  ⟨_, rfl, by decide +kernel⟩

/-- A marker. -/
def mark : Elem := ⟨[], true, 0, true, .service, none⟩

/-- p0 of core 0 is an input from a keyed merge whose producers are all closed. -/
def closedPort : State :=
  { (base.onMe (fun k => { k with ports := [(0, ⟨5, 0, false, 0⟩)] })) with
    queues := [(5, { fifo (.core 0 0) [] [] with merge := true, mprod := [.core 1 0], subs := [[item [BitVec.allOnes 64]]] })] }

theorem witness_QueuePops : base.lone = true ∧ base.opened 24 = none ∧ base.xOk [5] = true ∧
    (∀ l, l ∈ [[], [item [7]], [item [7], item [8]], [mark]] →
      (inPort l).lone = true ∧ (inPort l).opened 24 = inBound l ∧ (4 : Reg).toNat + 1 ≤ 24 ∧ (inPort l).xOk [5, 4] = true) ∧
    (inPort []).headFor 5 0 = .empty ∧ (inPort [item [7]]).headFor 5 0 = .item [7] ∧ (inPort [mark]).headFor 5 0 = .marker ∧
    closedPort.lone = true ∧ (closedPort.opened 24).isSome = true ∧ closedPort.xOk [5, 4] = true ∧
    closedPort.headFor 5 0 = .closed := by decide +kernel

theorem witness_PortRegisters : (inPort [item [7]]).lone = true ∧ (inPort [item [7]]).opened 24 = inBound [item [7]] ∧
    (inPort [item [7]]).me.isPending (.x 24) = false ∧ (inPort [item [7]]).xOk [4] = true ∧
    (inPort [item [7]]).headFor 5 0 = .item [7] ∧ (inPort []).lone = true ∧ (inPort []).opened 24 = inBound [] ∧
    (inPort []).me.isPending (.x 24) = false ∧ (inPort []).xOk [4] = true ∧ (inPort []).headFor 5 0 = .empty ∧
    (outPort 1).lone = true ∧ (outPort 1).opened 25 = outBound 1 ∧ (outPort 1).me.isPending (.x 25) = false ∧
    (outPort 1).xOk [4] = true ∧ (outPort 1).me.recordsDone = true := by decide +kernel

/-- Partition 0 owns queues 0 to 15; queue 5 has core 0 as its consumer. -/
def owned : State :=
  { base with parts := [(0, ⟨0, 0, 1, 1, 0, 0, 16, 31, 0, none, [], false, []⟩)], queues := [(5, fifo (.core 0 2) [] [])] }

/-- Queue 5 of chip 1 is to be bound to p2; the answer of that chip has come. -/
def binding : State := xs owned [(5, 0x0010000000000005)]
def bindAnswered (ok : Bool) : State := { binding with asks := [⟨0, 2, 1, 5, some (ok, [8, 3, 1, 0, 0, 1, 0])⟩] }

theorem witness_QueueBindings : (xs owned [(5, 5)]).lone = true ∧ (xs owned [(5, 5)]).xOk [5] = true ∧
    (xs owned [(5, 5)]).me.isPending (.x 26) = false ∧
    ((xs owned [(5, 5)]).unbind 0 2).mayBindIn 0 2 ((xs owned [(5, 5)]).xv 5) = true ∧
    idChip ((xs owned [(5, 5)]).xv 5) = owned.chip.toNat ∧
    ((xs owned [(5, 5)]).unbind 0 2).mayBindOut 0 false ((xs owned [(5, 5)]).xv 5) = true ∧
    (xs owned [(5, 6)]).lone = true ∧ (xs owned [(5, 6)]).xOk [5] = true ∧ (xs owned [(5, 6)]).me.isPending (.x 26) = false ∧
    ((xs owned [(5, 6)]).unbind 0 2).mayBindIn 0 2 ((xs owned [(5, 6)]).xv 5) = false ∧
    idChip ((xs owned [(5, 6)]).xv 5) = owned.chip.toNat ∧
    ((xs owned [(5, 6)]).unbind 0 2).mayBindOut 0 false ((xs owned [(5, 6)]).xv 5) = false ∧
    binding.lone = true ∧ binding.xOk [5] = true ∧
    binding.me.isPending (.x 26) = false ∧
    idChip (binding.xv 5) ≠ owned.chip.toNat ∧
    idClean (binding.xv 5) = true ∧ binding.asks = [] ∧
    (∀ ok, ok ∈ [true, false] → (bindAnswered ok).lone = true ∧ (bindAnswered ok).xOk [5] = true ∧
      (bindAnswered ok).me.isPending (.x 26) = false ∧ idChip ((bindAnswered ok).xv 5) ≠ (bindAnswered ok).chip.toNat ∧
      idClean ((bindAnswered ok).xv 5) = true ∧ (bindAnswered ok).asks =
        ⟨(bindAnswered ok).cur, 2, idChip ((bindAnswered ok).xv 5), idQueue ((bindAnswered ok).xv 5), some (ok, [8, 3, 1, 0, 0, 1, 0])⟩ :: []) := by
  decide +kernel

/-- A supervisor core has an output port with a credit. -/
def supOut : State :=
  { (sup.onMe (fun k => { k with ports := [(1, ⟨6, 0, true, 0⟩)] })) with
    queues := [(6, fifo (.core 8193 0) [] [(.core 8192 1, 1)])] }

theorem witness_QueueQueries : base.lone = true ∧ base.xOk [4, 5] = true ∧ mget base.me.ports 0 = none ∧
    (inPort []).lone = true ∧ (inPort []).xOk [4, 5] = true ∧ mget (inPort []).me.ports 0 = some ⟨5, 0, false, 0⟩ ∧
    mget (inPort []).queues ((inPort []).bindKey ⟨5, 0, false, 0⟩) = some (fifo (.core 0 0) [] []) ∧
    ((xs (inPort []) [(5, 10)]).xv 5).toNat ≤ 10 ∧ 10 < ((xs (inPort []) [(5, 11)]).xv 5).toNat ∧ isSup base.cur = false ∧
    supOut.lone = true ∧ supOut.xOk [4, 5] = true ∧ isSup supOut.cur = true ∧
    supOut.opened 25 = some (⟨6, 0, true, 0⟩, fifo (.core 8193 0) [] [(.core 8192 1, 1)]) ∧ supOut.me.recordsDone = true ∧
    0 < (fifo (.core 8193 0) [] [(.core 8192 1, 1)]).creditsOf (.core supOut.cur 1) := by decide +kernel

/-! ### Activations -/

/-- A run queue that has no space. -/
def crowd : List RunEntry := List.replicate 60 ⟨.task 1, 0, 0, 2, 0⟩

/-- Core 0 alone holds the role, and its run queue is full. -/
def crowded : State := base.onMe (fun k => { k with runq := crowd })

/-- x6 chooses core 1, which holds another role. -/
def strange : State := (xs base [(6, 0xc000000000000)]).modCore 1 (fun k => { k with role := some (0, 1) })

theorem witness_ForksAndSpawn : base.lone = true ∧ base.memOk ∧ base.xOk [6, 5] = true ∧ base.me.role = some (0, 0) ∧
    base.me.recordsDone = true ∧ ActWord.valid ((xs base [(6, 2)]).xv 6) = false ∧ (xs base [(6, 2)]).lone = true ∧
    (xs base [(6, 2)]).xOk [6, 5] = true ∧ (xs base [(6, 2)]).me.role = some (0, 0) ∧
    ActWord.valid (base.xv 6) = true ∧ (ActWord.ofWord (base.xv 6)).cluster = 0 ∧ (ActWord.ofWord (base.xv 6)).argc = 0 ∧
    base.target 0 (0, 0) (ActWord.ofWord 0) none = .core 0 ∧ base.runs 0 placedAct ∧ placedAct.children < 65535 ∧
    base.target 0 (0, 0) (ActWord.ofWord 0) (some 0) = .core 0 ∧
    (base.create 0 0 (0, 0) (((ActWord.ofWord 0).new [] ((ActWord.ofWord 0).base (base.baseOf 0) base.myCl.yceil) 0 (0, 0)
      (base.me.mem.map (fun o => o.id))).act none) 2 0).isSome = true ∧
    crowded.lone = true ∧ crowded.memOk ∧ crowded.xOk [6, 5] = true ∧ crowded.me.role = some (0, 0) ∧ crowded.me.recordsDone = true ∧
    crowded.target 0 (0, 0) (ActWord.ofWord 0) (some 0) = .full ∧ crowded.target 0 (0, 0) (ActWord.ofWord 0) none = .full ∧
    crowded.runs 0 placedAct ∧ crowded.me.tokensDone = true ∧ crowded.me.framePending = false ∧
    crowded.myCl.freeFrame = some 0 ∧ crowded.myCl.freeAct = some 1 ∧
    strange.lone = true ∧ strange.memOk ∧
    strange.xOk [6, 5] = true ∧ strange.me.role = some (0, 0) ∧ strange.me.recordsDone = true ∧
    ActWord.valid (strange.xv 6) = true ∧ (ActWord.ofWord (strange.xv 6)).cluster = 0 ∧ (ActWord.ofWord (strange.xv 6)).argc = 0 ∧
    strange.target 0 (0, 0) (ActWord.ofWord (strange.xv 6)) (some 0) = .refused ∧
    strange.target 0 (0, 0) (ActWord.ofWord (strange.xv 6)) none = .refused := by unfold State.runs; decide +kernel

theorem witness_CreatedTask : (base.create 0 0 (0, 0) placedAct 2 0).isSome = true ∧ (base.core 0).role.isSome = true ∧
    (base.create 0 1 (0, 0) placedAct 4 0).isSome = true ∧ (base.core 1).role = none := by decide +kernel

/-- A region of two columns. -/
def wide : State := base.modCl 0 (fun k => { k with cols1 := 1 })

theorem witness_ActSends : wide.lone = true ∧ wide.xOk [6, 5] = true ∧ wide.me.role = some (0, 0) ∧
    wide.me.recordsDone = true ∧ ActWord.valid (wide.xv 6) = true ∧ (ActWord.ofWord (wide.xv 6)).argc = 0 ∧
    wide.myCl.offsetCluster (ActWord.ofWord (wide.xv 6)).cluster = some (clusterOf wide.cur) ∧
    wide.target 0 (0, 0) (ActWord.ofWord 0) none = .core 0 ∧ crowded.target 0 (0, 0) (ActWord.ofWord 0) none = .full ∧
    crowded.myCl.offsetCluster (ActWord.ofWord (crowded.xv 6)).cluster = some (clusterOf crowded.cur) ∧
    (wide.setAct 0 0 placedAct).target 0 (1, 0) (ActWord.ofWord 0x4000000000000) none = .refused ∧
    (xs wide [(6, 0x10000000000)]).lone = true ∧ (xs wide [(6, 0x10000000000)]).xOk [6, 5] = true ∧
    ActWord.valid ((xs wide [(6, 0x10000000000)]).xv 6) = true ∧
    (xs wide [(6, 0x10000000000)]).myCl.offsetCluster (ActWord.ofWord ((xs wide [(6, 0x10000000000)]).xv 6)).cluster = some 1 ∧
    (xs base [(6, 0x10000000000)]).lone = true ∧ (xs base [(6, 0x10000000000)]).xOk [6, 5] = true ∧
    (xs base [(6, 0x10000000000)]).myCl.offsetCluster (ActWord.ofWord ((xs base [(6, 0x10000000000)]).xv 6)).cluster = none := by
  decide +kernel

/-- The registers of a CREW of cores 0 and 1. -/
def crews : State := xs base [(6, 0x40), (10, 3)]

/-- The crew slot is held. -/
def crewed : State := after (.crew 5 6 10) crews

theorem witness_CrewWaits : crews.lone = true ∧ crews.xOk [6, 10, 5] = true ∧ crews.me.role = some (0, 0) ∧
    crews.me.recordsDone = true ∧ ActWord.valid (crews.xv 6) = true ∧ (ActWord.ofWord (crews.xv 6)).chosen = false ∧
    (ActWord.ofWord (crews.xv 6)).core = 0 ∧ (ActWord.ofWord (crews.xv 6)).cluster = 0 ∧ (crews.xv 10).toNat < 256 ∧
    2 ≤ maskCount (crews.xv 10).toNat ∧ (ActWord.ofWord (crews.xv 6)).argc = 0 ∧
    (∀ c, c ∈ maskCores 0 (crews.xv 10).toNat → ((crews.core c).role = none ∨ (crews.core c).role = some (0, 0)) ∧
      (crews.core c).cutBegun = false) ∧ crews.myCl.crew = none ∧
    crewed.lone = true ∧ crewed.xOk [6, 10, 4] = true ∧ crewed.me.role = some (0, 0) ∧ crewed.me.recordsDone = true ∧
    crewed.myCl.crew ≠ none ∧
    (∀ c, c ∈ maskCores 0 (crewed.xv 10).toNat → (crewed.core c).role = none ∨ (crewed.core c).role = some (0, 0)) := by decide +kernel

/-! ### Barriers, rings, tokens -/

/-- Barrier 3 of the cluster, as given. -/
def barred (b : Barrier) : State := xs (base.modCl 0 (fun k => { k with bars := [(3, b)] })) [(5, 3), (6, 4096)]

theorem witness_Barriers :
    (∀ b, b ∈ [Barrier.reset, ⟨1, 0, [], [], none⟩, ⟨2, 0, [], [], none⟩, ⟨4096, 1, [], [], none⟩] →
      (barred b).lone = true ∧ (barred b).xOk [5, 6] = true ∧ barWordOk ((barred b).xv 5) = true ∧
      bitsAt ((barred b).xv 5).toNat 14 1 = 0 ∧ (barred b).me.recordsDone = true ∧ (barred b).me.mem.all (fun o => o.shownAt .cl) = true ∧
      (barred b).me.barArrived = false ∧ 1 ≤ ((barred b).xv 6).toNat ∧ ((barred b).xv 6).toNat ≤ 4096) ∧
    ((barred Barrier.reset).barrier 0 3).n = 0 ∧ ((barred ⟨2, 0, [], [], none⟩).barrier 0 3).n ≠ 0 ∧
    (((barred ⟨1, 0, [], [], none⟩).arrive 0 3).barrier 0 3).holds 0 = false ∧
    (((barred ⟨2, 0, [], [], none⟩).arrive 0 3).barrier 0 3).holds 0 = true ∧
    ((barred ⟨4096, 1, [], [], none⟩).barrier 0 3).a ≠ 0 ∧ ((barred ⟨2, 0, [], [], none⟩).barrier 0 3).a = 0 ∧
    (after (.bar 5) (barred ⟨2, 0, [], [], none⟩)).me.barArrived = true ∧
    (after (.bar 5) (barred ⟨2, 0, [], [], none⟩)).lone = true ∧ barWordOk ((xs base [(5, 0x8000)]).xv 5) = false ∧
    (xs base [(5, 0x8000)]).lone = true ∧ (xs base [(5, 0x8000)]).xOk [5, 6] = true ∧
    loading.lone = true ∧ loading.me.mem.all (fun o => o.shownAt .cl) = false := by decide +kernel

theorem witness_BarrierPhases : (⟨2, 0, [], [], none⟩ : Barrier).doneAt ≠ some 5 ∧ 0 + 1 < 2 ∧
    (⟨2, 1, [1], [], none⟩ : Barrier).doneAt ≠ some 5 ∧ 2 ≤ 1 + 1 ∧ (⟨2, 1, [1], [], none⟩ : Barrier).holds 1 = true := by
  decide +kernel

theorem witness_Rings :
    (xs ring [(5, 0x10000), (6, 0x300010), (7, 2), (8, 3), (9, 5)]).lone = true ∧
    (xs ring [(5, 0x10000), (6, 0x300010), (7, 2), (8, 3), (9, 5)]).xOk [5, 6, 4] = true ∧
    ring.ringInUse ring.cur 2 = false ∧ (ringWordOk 0x300010 && decide ((0x10000 : Word).toNat % 8 = 0) &&
      insideWindow (0x10000 : Word).toNat (RingH.ofWords 0x10000 0x300010).extent) = true ∧
    ringWordOk 0 = false ∧ (ring.me.getH 2).valid = false ∧ (ring.me.getH 1).valid = true ∧ ring.me.recordsDone = true ∧
    (2 : Word).toNat ≤ (ring.me.getH 1).room ∧ (2 : Word).toNat ≤ (ring.me.getH 1).filled ∧
    (ring.me.getH 1).room < (3 : Word).toNat ∧ (ring.me.getH 1).filled < (3 : Word).toNat ∧
    (3 : Word).toNat ≤ 2 ^ (ring.me.getH 1).log2 ∧ 2 ^ (ring.me.getH 1).log2 < (5 : Word).toNat ∧
    (after (.cpys 8 1 1) (xs ring [(8, 0x10100), (9, 1)])).ringInUse 0 1 = true ∧
    (after (.cpys 8 1 1) (xs ring [(8, 0x10100), (9, 1)])).lone = true := by decide +kernel

/-- Token 1 counts a command and token 2 has failed. -/
def tokens : State := base.onMe (fun k => { k.setK 1 1 with fails := [(2, ⟨6, 0, 0, 0⟩)] })

theorem witness_Tokens : (xs base [(5, 0xff)]).lone = true ∧ (xs base [(5, 0xff)]).xOk [5, 4] = true ∧ base.me.fails = [] ∧
    (∀ t, t < 8 → base.me.getK t = 0) ∧ (xs tokens [(5, 2)]).lone = true ∧ (xs tokens [(5, 2)]).xOk [5, 4] = true ∧
    (∀ f, f ∈ tokens.me.fails → (2 : Word).getLsbD f.1 = false) ∧ (2 : Word).getLsbD 1 = true ∧ tokens.me.getK 1 ≠ 0 ∧
    (xs tokens [(5, 4)]).lone = true ∧ (4 : Word).getLsbD 2 = true := by decide +kernel

/-! ### Copies and remote operations -/

/-- The registers of a copy of eight bytes within the local store. -/
def copies : State := xs base [(8, 0x10000), (9, 8), (12, 0x10100)]

theorem witness_CopiesIssue : ∃ f g h, copies.lone = true ∧ copyForm copies (.cpy 8 12 1) = some (.cpy, 1, [8, 9, 12], f) ∧
    copies.xOk [8, 9, 12] = true ∧ copyCheck (f (CopyCmd.blank 0 .cpy 1 copies.clk 0 0)) = none ∧ copies.copyRoom = true ∧
    copies.me.getK 1 < 255 ∧ (f (CopyCmd.blank 0 .cpy 1 copies.clk 0 0)).total ≠ 0 ∧ copies.me.foot.length < 16 ∧
    (copies.onMe (fun k => k.setK 1 255)).lone = true ∧
    copyForm (copies.onMe (fun k => k.setK 1 255)) (.cpy 8 12 1) = some (.cpy, 1, [8, 9, 12], h) ∧
    (copies.onMe (fun k => k.setK 1 255)).me.getK 1 = 255 ∧ copyCheck (h (CopyCmd.blank 0 .cpy 1 copies.clk 0 0)) = none ∧
    copyForm (xs copies [(9, 0x100000000)]) (.cpy 8 12 1) = some (.cpy, 1, [8, 9, 12], g) ∧
    (copyCheck (g (CopyCmd.blank 0 .cpy 1 copies.clk 0 0))).isSome = true ∧ (xs copies [(9, 0x100000000)]).xOk [8, 9, 12] = true :=
  ⟨_, _, _, by decide +kernel, rfl, by decide +kernel, by decide +kernel, by decide +kernel, by decide +kernel,
    by decide +kernel, by decide +kernel, by decide +kernel, rfl, by decide +kernel, by decide +kernel, rfl, by decide +kernel,
    by decide +kernel⟩

/-- A firing of template 7 is in flight. -/
def fired : State :=
  (xs base [(5, 7), (6, 0x10000)]).onMe (fun k => { k with
    copies := [{ CopyCmd.blank 1 .cpy 0 0 0 0 with template := some (7, []) }] })

theorem witness_Templates : (xs base [(5, 7), (6, 0x10040)]).lone = true ∧ (xs base [(5, 7), (6, 0x10040)]).xOk [5, 6] = true ∧
    ((xs base [(5, 7), (6, 0x10040)]).xv 5).toNat ≤ 7 ∧ base.me.firing 7 = false ∧
    placeOf ((xs base [(5, 7), (6, 0x10040)]).xv 6) = .own 0x40 ∧ ((xs base [(5, 7), (6, 0x10040)]).xv 6).toNat % 64 = 0 ∧
    base.copyRoom = true ∧ base.me.getK 7 < 255 ∧ base.me.foot.length < 16 ∧ 7 < ((xs base [(5, 8)]).xv 5).toNat ∧
    (xs base [(5, 8)]).lone = true ∧ (xs base [(5, 8)]).xOk [5, 6] = true ∧
    fired.lone = true ∧ fired.xOk [5, 6] = true ∧ (fired.xv 5).toNat ≤ 7 ∧ fired.me.firing 7 = true := by decide +kernel

/-- x5 is an address of HBM as a remote operation may name it. -/
def remotes : State := xs base [(5, 0x0000004000000000)]

theorem witness_RemoteIssue : ∃ f g, remotes.lone = true ∧ remoteForm remotes.xv (.ramo .add 4 5 6 3 7) = some f ∧
    remotes.xOk f.regs = true ∧ remotePlace f.va = none ∧ remotes.copyRoom = true ∧ remotes.me.getK f.token.toNat < 255 ∧
    remoteForm (xs base [(5, 0x8000000000000000)]).xv (.rld 4 5 3 0) = some g ∧ (xs base [(5, 0x8000000000000000)]).lone = true ∧
    (xs base [(5, 0x8000000000000000)]).xOk g.regs = true ∧ (remotePlace g.va).isSome = true :=
  ⟨_, _, by decide +kernel, rfl, by decide +kernel, by decide +kernel, by decide +kernel, by decide +kernel, rfl,
    by decide +kernel, by decide +kernel, by decide +kernel⟩

/-! ### Vectors -/

theorem witness_VectorLanes : ∃ f g, base.lone = true ∧ laneForm base.myCl (.vfma 31 1 2 .f32 7) = some f ∧
    f.reads.all base.me.vFree = true ∧ base.me.vFree f.dest = true ∧ base.me.mFree f.mask.toNat = true ∧
    laneForm base.myCl (.vand 0 0 0 0) = some g ∧ g.reads.all base.me.vFree = true ∧ base.me.vFree g.dest = true ∧
    base.me.mFree g.mask.toNat = true :=
  ⟨_, _, by decide +kernel, rfl, by decide +kernel, by decide +kernel, by decide +kernel, rfl, by decide +kernel,
    by decide +kernel, by decide +kernel⟩

theorem witness_VectorCompares : ∃ c, base.lone = true ∧ compareForm (.vcmpeq 7 1 2 .i8 0) = some (7, 1, 2, .i8, 0, c) ∧
    base.me.vFree 1 = true ∧ base.me.vFree 2 = true ∧ base.me.mFree 0 = true ∧ base.me.isPending (.m 7) = false :=
  ⟨_, by decide +kernel, rfl, by decide +kernel, by decide +kernel, by decide +kernel, by decide +kernel⟩

theorem witness_MaskOperations : base.lone = true ∧ base.me.mFree 0 = true ∧ base.me.mFree 7 = true ∧
    base.me.isPending (.m 1) = false := by decide +kernel

theorem witness_VectorMoves : ∃ f g, base.lone = true ∧ moveForm base (.vslide 3 1 5 .n8 0) = some f ∧ base.xOk f.regs = true ∧
    f.reads.all base.me.vFree = true ∧ base.me.vFree f.dest = true ∧ base.me.mFree f.mask.toNat = true ∧
    moveForm base (.vsel 0 0 31 .f32 7) = some g ∧ base.xOk g.regs = true ∧ g.reads.all base.me.vFree = true ∧
    base.me.vFree g.dest = true ∧ base.me.mFree g.mask.toNat = true :=
  ⟨_, _, by decide +kernel, rfl, by decide +kernel, by decide +kernel, by decide +kernel, by decide +kernel, rfl,
    by decide +kernel, by decide +kernel, by decide +kernel, by decide +kernel⟩

theorem witness_LaneAccess : (xs base [(6, 127)]).lone = true ∧ (xs base [(6, 127)]).xOk [5, 6, 4] = true ∧
    base.me.vFree 1 = true ∧ ((xs base [(6, 127)]).xv 6).toNat < laneCount .i8 ∧ (xs base [(6, 128)]).lone = true ∧
    (xs base [(6, 128)]).xOk [5, 6, 4] = true ∧ laneCount .i8 ≤ ((xs base [(6, 128)]).xv 6).toNat := by decide +kernel

theorem witness_VectorReductions : ∃ f, base.lone = true ∧ reduceForm (.vrdot 3 1 2 .f32 1) = some f ∧ base.me.vFree f.a = true ∧
    base.me.vFree f.b = true ∧ base.me.vFree f.dest = true ∧ base.me.mFree f.mask.toNat = true :=
  ⟨_, by decide +kernel, rfl, by decide +kernel, by decide +kernel, by decide +kernel, by decide +kernel⟩

/-- A transcendental has just issued. -/
def trans : State := after (.vrcp 3 1 .f32 0) base

theorem witness_Transcendentals : ∃ f g, base.lone = true ∧ transForm (.vexp2 3 1 .f32 0) = some (3, 1, 0, f) ∧
    base.me.vFree 1 = true ∧ base.me.vFree 3 = true ∧ base.me.mFree 0 = true ∧
    base.me.pending.any (fun p => decide (base.clk + 8 < p.ready) && (match p.dest with | .v _ => true | _ => false)) = false ∧
    trans.lone = true ∧ transForm (.vlog2 4 1 .f32 0) = some (4, 1, 0, g) ∧ trans.me.vFree 1 = true ∧ trans.me.vFree 4 = true ∧
    trans.me.mFree 0 = true ∧
    trans.me.pending.any (fun p => decide (trans.clk + 8 < p.ready) && (match p.dest with | .v _ => true | _ => false)) = true :=
  ⟨_, _, by decide +kernel, rfl, by decide +kernel, by decide +kernel, by decide +kernel, by decide +kernel, by decide +kernel,
    rfl, by decide +kernel, by decide +kernel, by decide +kernel, by decide +kernel⟩

theorem witness_Conversions : base.lone = true ∧ base.me.vFree 1 = true ∧ base.me.vFree 3 = true ∧ base.me.mFree 7 = true ∧
    Fmt.n8.isSlice = true ∧ 7 < fmtBits .n8 := by decide +kernel

/-- Row 0 is parked by the running activation. -/
def parked : State := (xs base [(5, 0x8000)]).modCl 0 (fun k => { k with parks := [(0, base.me.owner)] })

/-- The running activation has parked 32 rows. -/
def parkedFull : State := base.modCl 0 (fun k => { k with parks := (List.range 32).map (fun n => (n, base.me.owner)) })

theorem witness_Parking : parked.lone = true ∧ parked.xOk [4, 5] = true ∧ parked.me.vFree 1 = true ∧
    (parked.myCl.parks.filter (fun p => decide (p.2 = parked.me.owner))).length ≠ 32 ∧
    firstFree (parked.myCl.rowUsed parked.clk) 2048 0 = some 1 ∧ 0x8000 ≤ (parked.xv 5).toNat ∧ (parked.xv 5).toNat < 0x8800 ∧
    mget parked.myCl.parks ((parked.xv 5).toNat - 0x8000) = some parked.me.owner ∧ (base.xv 5).toNat < 0x8000 ∧
    parkedFull.lone = true ∧ parkedFull.xOk [4, 5] = true ∧ parkedFull.me.vFree 1 = true ∧
    (parkedFull.myCl.parks.filter (fun p => decide (p.2 = parkedFull.me.owner))).length = 32 := by decide +kernel

/-! ### Matrix and Atoll -/

theorem witness_MzeroIssues : base.lone = true ∧ base.matrixRoom = true ∧ base.me.getK 7 < 255 ∧ base.me.foot.length < 16 := by
  decide +kernel

/-- a0 is bound to a fresh tile, its command has been served, and x12 and x13 name a 4 by 4 F32 operand of the own slice. -/
def tiled : State :=
  xs ((after (.mzero 0 2) base).modCl 0 (fun k => { k with mat := Matrix.reset }))
    [(12, 0x10000000000), (13, 0x0010000000000303), (5, 0x8000000000000000)]

/-- The same with F set, and four commands in the queue. -/
def queued : State :=
  (xs tiled [(13, 0x0010000000800303)]).modCl 0 (fun k => { k with mat := { Matrix.reset with
    queues := [(0, List.replicate 4 (command base (.mzero none) 0 [] 0 0 .none 0))] } })

/-- A tile of another activation holds every row of the accumulator store; a1 is bound to a tile with no shape. -/
def rowsTaken : State :=
  (tiled.modCl 0 (fun k => { k with tiles := [(7, ⟨List.range 2048, 256, 256, .float, 0, 1⟩), (8, ⟨[], 0, 0, .none, 0, base.me.owner⟩)] })).onMe
    (fun k => { k with a := [(1, 8)] })

theorem rowsTaken_used (r : Nat) (h : r < 2048) : rowsTaken.myCl.rowUsed rowsTaken.clk r = true := by
  have ht : rowsTaken.myCl.tiles = [(7, ⟨List.range 2048, 256, 256, .float, 0, 1⟩), (8, ⟨[], 0, 0, .none, 0, base.me.owner⟩)] := rfl
  simp [Cluster.rowUsed, ht, h]

theorem firstFree_none (used : Nat → Bool) : ∀ (n i : Nat), (∀ r, i ≤ r → r < i + n → used r = true) → firstFree used n i = none
  | 0, _, _ => rfl
  | n + 1, i, h => by
    rw [firstFree, if_pos (h i (Nat.le_refl i) (by omega))]
    exact firstFree_none used n (i + 1) (fun r h1 h2 => h r (by omega) (by omega))

theorem witness_Parking_no_row : rowsTaken.lone = true ∧ rowsTaken.xOk [4, 5] = true ∧ rowsTaken.me.vFree 1 = true ∧
    (rowsTaken.myCl.parks.filter (fun p => decide (p.2 = rowsTaken.me.owner))).length ≠ 32 ∧
    firstFree (rowsTaken.myCl.rowUsed rowsTaken.clk) 2048 0 = none :=
  ⟨by decide +kernel, by decide +kernel, by decide +kernel, by decide +kernel,
    firstFree_none _ _ _ (fun r _ h => rowsTaken_used r (by omega))⟩

theorem rowsTaken_take (n : Nat) (h : 0 < n) : rowsTaken.myCl.takeRows rowsTaken.clk n = none := by
  have hf : rowsTaken.myCl.freeRows rowsTaken.clk = [] := by
    simp only [Cluster.freeRows, List.filter_eq_nil_iff, List.mem_range]
    intro r hr; simp [rowsTaken_used r hr]
  simp [Cluster.takeRows, hf]; omega

/-- Tile 0 holds a shape of 4 by 4 F32. -/
def shaped : State :=
  tiled.modCl 0 (fun k => { k with tiles := [(0, ⟨[0, 1, 2, 3], 4, 4, .float, 0, base.me.owner⟩)] })

theorem witness_MstorIssues : tiled.lone = true ∧ tiled.xOk [12, 13] = true ∧ tiled.tileOf 0 1 = none ∧
    shaped.lone = true ∧ shaped.xOk [12, 13] = true ∧ shaped.tileOf 0 0 = some (0, ⟨[0, 1, 2, 3], 4, 4, .float, 0, base.me.owner⟩) ∧
    storeFmtOk .float .f32 = true ∧ (shaped.operand (shaped.xv 12) (shaped.xv 13) (laneBits .f32) true false).isSome = true ∧
    shaped.matrixRoom = true ∧ shaped.me.getK 1 < 255 ∧ shaped.me.foot.length < 16 ∧
    queued.lone = true ∧ queued.xOk [12, 13] = true ∧ (queued.tileOf 0 0).isSome = true ∧
    (queued.operand (queued.xv 12) (queued.xv 13) (laneBits .f32) true false).isSome = true ∧
    (queued.xv 13).getLsbD 23 = true ∧ queued.matrixRoom = false := by decide +kernel

theorem witness_MloadIssues : tiled.lone = true ∧ tiled.xOk [12, 13] = true ∧
    (tiled.operand (tiled.xv 12) (tiled.xv 13) 32 false true).isSome = true ∧ tiled.matrixRoom = true ∧
    tiled.me.getK 1 < 255 ∧ tiled.me.foot.length < 16 ∧ tiled.tileOf 0 2 = none ∧ tileRows 4 4 = 4 ∧
    tiled.myCl.takeRows tiled.clk 4 = some [0, 1, 2, 3] := by decide +kernel

theorem witness_MloadIssues_no_row : rowsTaken.lone = true ∧ rowsTaken.xOk [12, 13] = true ∧
    (rowsTaken.operand (rowsTaken.xv 12) (rowsTaken.xv 13) 32 false true).isSome = true ∧
    rowsTaken.myCl.takeRows rowsTaken.clk (tileRows 4 4 - 0) = none :=
  ⟨by decide +kernel, by decide +kernel, by decide +kernel, rowsTaken_take 4 (by omega)⟩

theorem witness_MmacIssues : tiled.lone = true ∧ tiled.tileOf 0 1 = none ∧ shaped.lone = true ∧
    shaped.tileOf 0 0 = some (0, ⟨[0, 1, 2, 3], 4, 4, .float, 0, base.me.owner⟩) ∧ tileKindOf .f32 = .float ∧ tileKindOf .i8 = .int ∧
    (shaped.panel 1 false .f32).isSome = true ∧ (shaped.panel 12 true .f32).isSome = true ∧ laneCount .f32 / 4 = 8 ∧
    shaped.matrixRoom = true ∧ shaped.me.getK 1 < 255 ∧ shaped.me.foot.length < 16 ∧
    tiled.tileOf 0 0 = some (0, ⟨[], 0, 0, .none, 0, base.me.owner⟩) ∧ tiled.myCl.takeRows tiled.clk (tileRows 4 4) = some [0, 1, 2, 3] ∧
    tiled.matrixRoom = true ∧ (tiled.panel 1 false .f32).isSome = true := by decide +kernel

theorem witness_MmacIssues_no_row : rowsTaken.lone = true ∧
    rowsTaken.tileOf 0 1 = some (8, ⟨[], 0, 0, .none, 0, base.me.owner⟩) ∧ (rowsTaken.panel 1 false .f32).isSome = true ∧
    rowsTaken.myCl.takeRows rowsTaken.clk (tileRows 4 4) = none :=
  ⟨by decide +kernel, by decide +kernel, by decide +kernel, rowsTaken_take _ (by decide)⟩

theorem witness_MatrixReads : shaped.lone = true ∧ shaped.xOk [5] = true ∧ shaped.me.vFree 1 = true ∧
    ((xs shaped [(5, 31)]).xv 5).toNat ≤ 31 ∧ 31 < ((xs shaped [(5, 32)]).xv 5).toNat ∧ (shaped.tileOf 0 0).isSome = true ∧
    bitsAt (shaped.xv 5).toNat 21 42 = 0 ∧ (shaped.xv 5).getLsbD 63 = true ∧ mgetD shaped.myCl.mat.queues 0 [] = [] ∧
    (xs shaped [(5, 0x303)]).lone = true ∧ (xs shaped [(5, 0x303)]).xOk [5] = true ∧
    ((xs shaped [(5, 0x303)]).xv 5).getLsbD 63 = false ∧ bitsAt ((xs shaped [(5, 0x303)]).xv 5).toNat 21 42 = 0 ∧
    (xs queued [(5, 0)]).lone = true ∧ (xs queued [(5, 0)]).xOk [5] = true ∧ ((xs queued [(5, 0)]).xv 5).getLsbD 63 = false ∧
    mgetD queued.myCl.mat.queues 0 [] ≠ [] := by decide +kernel

/-- Core 0 runs a member of a span over two clusters; at its local store stands the descriptor of 32 bytes for the other. -/
def spanning : State :=
  let s := (base.setAct 0 0 { placedAct with kind := 4, span := some 0 }).modCl 0 (fun k => { k with cols1 := 1 })
  { s with
    spans := [(0, ⟨0, 0, 0, 1, 2, 1, 0x10000, [], 0, (0, 0), 0, 0, [0, 1], true, true, 2, [], [], [], []⟩)]
    mem := [(localKey 0 5, 1), (localKey 0 14, 32), (localKey 0 22, 16)] }

theorem witness_MspanIssues : base.lone = true ∧ (xs base [(5, 0x10000)]).xOk [5] = true ∧ base.running 0 = some placedAct ∧
    placedAct.kind ≠ 4 ∧ (xs spanning [(5, 0x10000)]).lone = true ∧ (xs spanning [(5, 0x10000)]).xOk [5] = true ∧
    ((spanning.running 0).map (fun a => (a.kind, a.span))) = some (4, some 0) ∧ (mget spanning.spans 0).isSome = true ∧
    (xs spanning [(5, 0x10000)]).descriptor 0x10000 32 4 = some [0x10000000000, 0x0020000000000000, 0x0010000000000000, 0] ∧
    bitsAt (0x0020000000000000 : Word).toNat 24 5 = 0 ∧ bitsAt (0x0010000000000000 : Word).toNat 62 2 ≠ 3 ∧
    (spanning.operand 0x10000000000 0x0020000000000000 256 false false).isSome = true ∧
    spanning.matrixRoom = true ∧ spanning.me.getK 1 < 255 ∧ spanning.me.foot.length < 16 := by decide +kernel

/-- The ring of the tests with the count of a command in x5. -/
def runs (n : Word) : State := xs ring [(5, n)]

/-- h2 is a ring of 32-byte slots, h1 one of 8-byte slots; the selection takes one input unit and gives four. -/
def lruns : State :=
  ((xs ring [(5, 1)]).onMe (fun k => k.setH 2 ⟨true, 0x10100, 2, 8, 0, 0, 0⟩))

theorem witness_AtollIssues : (runs 3).lone = true ∧ (runs 3).xOk [5] = true ∧ ((runs 3).me.getH 1).valid = true ∧
    ((runs 3).xv 5).toNat ≤ 3 ∧ 4096 % ((runs 3).me.getH 1).slot = 0 ∧ 3072 % ((runs 3).me.getH 1).slot = 0 ∧
    (runs 3).atollWaiting 0 < 2 ∧ (runs 3).me.getK 1 < 255 ∧ (runs 3).me.foot.length < 16 ∧
    3 < ((runs 4).xv 5).toNat ∧ ((runs 7).xv 5).toNat ≤ 7 ∧ 7 < ((runs 8).xv 5).toNat ∧
    lruns.lone = true ∧ lruns.xOk [5] = true ∧ (lruns.me.getH 2).valid = true ∧ (2 : Reg) ≠ 1 ∧
    (lruns.me.getH 1).slot = selNi lruns.me.sel * 8 ∧ (lruns.me.getH 2).slot = selNo lruns.me.sel * 8 ∧
    (lruns.onMe (fun k => { k with sel := 0x00100000 })).lone = true ∧
    (lruns.me.getH 1).slot ≠ selNi (lruns.onMe (fun k => { k with sel := 0x00100000 })).me.sel * 8 ∧
    (after (.lflush 1) (after (.lflush 1) base)).lone = true ∧ (after (.lflush 1) (after (.lflush 1) base)).atollWaiting 0 = 2 := by
  decide +kernel

theorem witness_AtollState : (xs base [(5, 0x04100000)]).lone = true ∧ (xs base [(5, 0x04100000)]).xOk [5, 4] = true ∧
    selOk ((xs base [(5, 0x04100000)]).xv 5) = true ∧ selOk ((xs base [(5, 8)]).xv 5) = false ∧
    (xs base [(5, 8)]).lone = true := by decide +kernel

/-! ### Messages and the journal -/

theorem witness_EngineCommands : (xs base [(6, 0x10000), (7, 1023)]).lone = true ∧
    (xs base [(6, 0x10000), (7, 1023)]).xOk [5, 6, 7] = true ∧ ((xs base [(6, 0x10000), (7, 1023)]).xv 7).toNat ≤ 1023 ∧
    1023 < ((xs base [(7, 1024)]).xv 7).toNat ∧ (xs base [(7, 1024)]).xOk [5, 6, 7] = true ∧
    (xs base [(6, 0x10000), (7, 1023)]).descriptor 0x10000 16 6 = some [0, 0, 0, 0, 0, 0] ∧
    (xs base [(6, 0x10000), (7, 1023)]).descriptor 0x10000 16 2 = some [0, 0] := by decide +kernel

/-- Communicator 0 has ranks 0 and 1 in partition 0, which has a share of engine 0. -/
def sharing : State :=
  (xs { base with comms := [(0, ⟨[(0, 0), (1, 0)], []⟩)] } [(6, 0x10000), (7, 0x10000000000)]).modEngine 0
    (fun g => { g with shares := [(0, (1, 1, 1))] })

/-- Rank 1 of the communicator is on chip 3, which no port reaches; the descriptor names it as the receiver. -/
def sendsFar : State := { sharing with comms := [(0, ⟨[(0, 0)], [(1, 3)]⟩)], mem := [(localKey 0 3, 0x10)] }

theorem witness_SendMessage : base.lone = true ∧ (xs base [(6, 0x10000)]).xOk [5, 6, 7] = true ∧
    (xs base [(6, 0x10000)]).descriptor 0x10000 16 4 = some [0, 0, 0, 0] ∧
    (xs base [(6, 0x10000)]).sendStatus 0 0 0 0 ≠ 0 ∧ sharing.lone = true ∧ sharing.xOk [5, 6, 7] = true ∧
    sharing.descriptor (sharing.xv 6) 16 4 = some [0, 0, 0, 0] ∧ sharing.sendStatus (sharing.partOf 0) 0 0 0 = 0 ∧
    payloadPlace (sharing.xv 7) 0 = none ∧ payloadPlace (sharing.xv 6) 8 = some .accessKind ∧
    ({ sharing with mem := [(localKey 0 8, 8)] } : State).descriptor (sharing.xv 6) 16 4 = some [0, 8, 0, 0] ∧
    payloadPlace (sharing.xv 7) 8 = none ∧ sharing.me.getK 1 < 255 ∧ sharing.me.foot.length < 16 ∧
    sharing.rankChip 0 0 = some sharing.chip.toNat ∧ sendsFar.lone = true ∧ sendsFar.xOk [5, 6, 7] = true ∧
    sendsFar.descriptor (sendsFar.xv 6) 16 4 = some [0x10000000, 0, 0, 0] ∧ sendsFar.sendStatus (sendsFar.partOf 0) 0 0 1 = 0 ∧
    payloadPlace (sendsFar.xv 7) 0 = none ∧ sendsFar.me.getK 1 < 255 ∧ sendsFar.me.foot.length < 16 ∧
    sendsFar.rankChip 0 1 = some 3 ∧ 3 ≠ sendsFar.chip.toNat ∧ sendsFar.egressPort 3 = none ∧
    mget sendsFar.me.fails 1 = none ∧ sendsFar.sends = [] := by decide +kernel

/-- The journal is enabled for partition 0; at the start of the local store stands a record of one word. -/
def journals : State :=
  { (xs base [(6, 0x10000), (7, 3)]) with journal := { Journal.reset with enable := 1, last := 4 }, mem := [(localKey 0 0, 1)] }

theorem witness_JournalCommands : journals.lone = true ∧ journals.xOk [5, 6, 7] = true ∧ journals.me.recordsDone = true ∧
    journals.descriptor (journals.xv 6) 32 4 = some [1, 0, 0, 0] ∧ journals.journals 0 = true ∧ journals.buffered < 4096 ∧
    ({ journals with journal := Journal.reset } : State).journals 0 = false ∧
    journals.journal.last < ((xs journals [(6, 5)]).xv 6).toNat ∧ ((xs journals [(6, 4)]).xv 6).toNat ≤ journals.journal.last ∧
    journals.me.getK 1 < 255 ∧ journals.me.foot.length < 16 ∧ (journals.xv 6).toNat < 2 ^ 48 ∧
    (journals.xv 7).toNat ≤ 3 ∧ 3 < ((xs journals [(7, 4)]).xv 7).toNat := by decide +kernel

theorem buffered_of (s : State) (n : Nat) (h : s.journal.buffer.length = n) : n ≤ s.buffered := by simp [State.buffered, h]

theorem witness_JournalCommands_full : ∃ s : State, s.lone = true ∧ s.xOk [5, 6, 7] = true ∧ s.journals 0 = true ∧ 4096 ≤ s.buffered :=
  ⟨{ journals with journal := { journals.journal with buffer := List.replicate 4096 (0, []) } }, by decide +kernel,
    by decide +kernel, by decide +kernel, buffered_of _ _ (List.length_replicate)⟩

theorem witness_RandomSample : base.lone = true ∧ base.xOk [10, 11, 12, 13, 5] = true := by decide +kernel

/-! ### The core's own units -/

/-- The result of a MULH is due. -/
def due : State := { after (.mulh 3 1 2) base with clk := 102 }

/-- The result is pending for a port that is bound to a queue with a credit. -/
def portDue : State :=
  (outPort 1).onMe (fun k => { k with pending := [⟨7, .x 25, 3, 0, 100, .scalar⟩] })

theorem witness_Writeback : ∃ p, (due.core 0).pending.find? (fun q => decide (q.id = p.id)) = some p ∧ p.ready ≤ due.clk ∧
    (due.core 0).portOf p.dest = none ∧
    (portDue.core 0).pending.find? (fun q => decide (q.id = 7)) = some ⟨7, .x 25, 3, 0, 100, .scalar⟩ ∧ 100 ≤ portDue.clk ∧
    (portDue.core 0).portOf (.x 25) = some (1, ⟨6, 0, true, 9⟩) ∧ portDue.bindKey ⟨6, 0, true, 9⟩ = 6 ∧
    mget portDue.queues 6 = some (fifo (.core 1 0) [] [(.core 0 1, 1)]) ∧ (portDue.core 0).recs = [] :=
  ⟨⟨base.nextId, .x 3, 0, 0, 102, .scalar⟩, by decide +kernel⟩

/-- An access of core 0 that may be performed. -/
def ready (i : Instr) : State := { after i (xs base [(6, 0x10000), (5, 0x1234)]) with clk := 300 }

theorem witness_LoadPerformed : ∃ o, (ready (.ld 5 6 .d 0)).me.mem.find? (fun p => decide (p.id = base.nextId)) = some o ∧
    o.kind = .load true ∧ o.lanes = [(localKey 0 0, 0)] ∧ (ready (.ld 5 6 .d 0)).portReady 0 o = true ∧
    (ready (.ld 5 6 .d 0)).sleepers o = [] ∧ (ready (.ld 5 6 .d 0)).lanePoison (localKey 0 0) o.size = false ∧
    (ready (.ld 5 6 .d 0)).me.destsFor base.nextId = [.x 5] ∧ o.size = 8 :=
  ⟨_, rfl, rfl, rfl, by decide +kernel, by decide +kernel, by decide +kernel, by decide +kernel, rfl⟩

theorem witness_StorePerformed : ∃ o, (ready (.st 5 6 .h 0)).me.mem.find? (fun p => decide (p.id = base.nextId)) = some o ∧
    o.kind = .store [[0x34, 0x12]] ∧ o.lanes = [(localKey 0 0, 0)] ∧ (ready (.st 5 6 .h 0)).portReady 0 o = true ∧
    (ready (.st 5 6 .h 0)).sleepers o = [] ∧ paSpace (localKey 0 0) ≤ 2 ∧ (ready (.st 5 6 .h 0)).memOk :=
  ⟨_, rfl, by decide +kernel, rfl, by decide +kernel, by decide +kernel, by decide +kernel, by decide +kernel⟩

theorem witness_AmoPerformed : ∃ o, (ready (.amo .add 4 6 5 .w .chip .rlx)).me.mem.find? (fun p => decide (p.id = base.nextId)) = some o ∧
    o.kind = .amo .add 0x1234 ∧ o.lanes = [(localKey 0 0, 0)] ∧ (ready (.amo .add 4 6 5 .w .chip .rlx)).portReady 0 o = true ∧
    (ready (.amo .add 4 6 5 .w .chip .rlx)).sleepers o = [] ∧ paSpace (localKey 0 0) ≤ 2 ∧
    (ready (.amo .add 4 6 5 .w .chip .rlx)).lanePoison (localKey 0 0) o.size = false ∧
    (ready (.amo .add 4 6 5 .w .chip .rlx)).me.destsFor base.nextId = [.x 4] ∧ (ready (.amo .add 4 6 5 .w .chip .rlx)).memOk ∧
    o.size = 4 :=
  ⟨_, rfl, by decide +kernel, rfl, by decide +kernel, by decide +kernel, by decide +kernel, by decide +kernel,
    by decide +kernel, by decide +kernel, rfl⟩

/-- The ring load of a vector may be performed. -/
def ringReady : State := { after (.vld 1 1 .f32) vring with clk := 300 }

theorem witness_RingLoadPerformed : ∃ o, ringReady.me.mem.find? (fun p => decide (p.id = base.nextId)) = some o ∧ o.kind = .vload ∧
    o.size = 8 ∧ o.lanes = (List.range 16).map (fun j => (localKey 0 (8 * j), j)) ∧ ringReady.portReady 0 o = true ∧
    ringReady.sleepers o = [] ∧ (∀ j, j < 16 → ringReady.lanePoison (localKey 0 (8 * j)) 8 = false) ∧
    ringReady.me.destsFor base.nextId = [.v 1] :=
  ⟨_, rfl, rfl, rfl, by decide +kernel, by decide +kernel, by decide +kernel, by decide +kernel, by decide +kernel⟩

/-- The line that a load is to read is poisoned. -/
def poisonReady : State := { ready (.ld 5 6 .d 0) with poison := [localKey 0 0 / 32] }

theorem witness_PoisonMet : ∃ o, poisonReady.me.mem.find? (fun p => decide (p.id = base.nextId)) = some o ∧ o.kind = .load true ∧
    o.lanes = [(localKey 0 0, 0)] ∧ poisonReady.portReady 0 o = true ∧ poisonReady.sleepers o = [] ∧
    poisonReady.lanePoison (localKey 0 0) o.size = true ∧ poisonReady.me.destsFor base.nextId = [.x 5] :=
  ⟨_, rfl, rfl, rfl, by decide +kernel, by decide +kernel, by decide +kernel, by decide +kernel⟩

theorem witness_CasPerformed : ∃ o, (ready (.cas 4 6 5 .w .chip .ar)).me.mem.find? (fun p => decide (p.id = base.nextId)) = some o ∧
    o.kind = .cas 0 0x1234 ∧ o.lanes = [(localKey 0 0, 0)] ∧ (ready (.cas 4 6 5 .w .chip .ar)).portReady 0 o = true ∧
    (ready (.cas 4 6 5 .w .chip .ar)).sleepers o = [] ∧ paSpace (localKey 0 0) ≤ 2 ∧
    (ready (.cas 4 6 5 .w .chip .ar)).lanePoison (localKey 0 0) o.size = false ∧ (ready (.cas 4 6 5 .w .chip .ar)).memOk ∧
    (ready (.cas 4 6 5 .w .chip .ar)).me.destsFor base.nextId = [.x 4] ∧ o.size = 4 :=
  ⟨_, rfl, by decide +kernel, rfl, by decide +kernel, by decide +kernel, by decide +kernel, by decide +kernel, by decide +kernel,
    by decide +kernel, rfl⟩

theorem witness_CasqPerformed : ∃ o, (ready (.casq 10 6 12 .sys .ar)).me.mem.find? (fun p => decide (p.id = base.nextId)) = some o ∧
    o.kind = .casq 0 0 ∧ o.lanes = [(localKey 0 0, 0)] ∧ o.size = 16 ∧ (ready (.casq 10 6 12 .sys .ar)).portReady 0 o = true ∧
    (ready (.casq 10 6 12 .sys .ar)).sleepers o = [] ∧ paSpace (localKey 0 0) ≤ 2 ∧
    (ready (.casq 10 6 12 .sys .ar)).lanePoison (localKey 0 0) 16 = false ∧ (ready (.casq 10 6 12 .sys .ar)).memOk ∧
    (ready (.casq 10 6 12 .sys .ar)).me.destsFor base.nextId = [.x 10, .x (10 + 1)] :=
  ⟨_, rfl, by decide +kernel, rfl, rfl, by decide +kernel, by decide +kernel, by decide +kernel, by decide +kernel,
    by decide +kernel, by decide +kernel⟩

/-- The table of partition 0 for the page at 0x100000000000, with the given entry at level 0. -/
def paged (entry : Nat) : State :=
  { base with
    parts := [(0, ⟨0, 0, 1, 1, 0, 0, 16, 31, 0, none, [], false, []⟩)]
    ready := 0xff00
    mem := [(0, 0x1001), (0x1100, 0x2001), (0x2000, 0x3001), (0x3000, 0x4001), (0x4000, entry)].foldl
      (fun m p => memWrite m p.1 (leBytes 8 p.2)) [] }

/-- A walk of that page for core 0. -/
def walking (entry : Nat) : State := { paged entry with walks := [⟨0, 0, 0x100000000000, true, [0], [], 0⟩] }

theorem witness_WalkEnds : (walking 0x10000f).walksOf 0 0x100000000000 = [⟨0, 0, 0x100000000000, true, [0], [], 0⟩] ∧
    (walking 0x10000f).walkRuns 0 0 0x100000000000 = true ∧
    (walking 0x10000f).walkTable 0 0x100000000000 = .leaf 0x4000 16 0x10000f ∧
    ofBytes (memRead (walking 0x10000f).mem 0x4000 8) = 0x10000f ∧
    (walking 0).walksOf 0 0x100000000000 = [⟨0, 0, 0x100000000000, true, [0], [], 0⟩] ∧
    (walking 0).walkRuns 0 0 0x100000000000 = true ∧ (walking 0).walkTable 0 0x100000000000 = .absent := by decide +kernel

theorem witness_Invalidated : base.inUse 0 0 (2 ^ 57) = false := by decide +kernel

theorem witness_PagedIn : (paged 0).levelZero 0 0x100000000000 = some 0x4000 ∧ ofBytes (memRead (paged 0).mem 0x4000 8) % 2 = 0 ∧
    (paged 0).hbmReady = true ∧ 0x100000 / 65536 * 65536 % 2 ^ 48 + 65536 ≤ 384 * 2 ^ 30 ∧ 0x4000 + 8 ≤ memKey 0 0x100000 ∧
    (paged 0).far = [] ∧ (paged 0).memOk := by decide +kernel

theorem witness_Evicted : (paged 0x10008f).levelZero 0 0x100000000000 = some 0x4000 ∧
    ofBytes (memRead (paged 0x10008f).mem 0x4000 8) = 0x10008f ∧ 0x10008f % 4 = 3 ∧
    malformed (paged 0x10008f).chip.toNat 0 0x10008f = false ∧ paChip (0x10008f / 4096 * 4096) = (paged 0x10008f).chip.toNat ∧
    paSpace (0x10008f / 4096 * 4096) = 0 ∧ (paged 0x10008f).windowOver 0 0x100000000000 = false ∧
    (paged 0x10008f).inUse 0 0x100000000000 (0x100000000000 + 65535) = false ∧ (0x10008f : Nat).testBit 7 = true ∧
    (paged 0x10008f).memOk := by
  decide +kernel

theorem witness_SupervisorReset : isSup 8192 = true ∧ isSup 8255 = true ∧
    ((sup.modCore 8192 (fun k => { k with mode := .stopped })).core 8192).mode = .stopped := by decide +kernel

/-! ### The Atoll -/

/-- A command of core 0. -/
def atollCmd (kind : AtollKind) : AtollCmd :=
  ⟨0, 0, kind, 1, 2, ⟨true, 0x10000, 2, 8, 3, 1, 0⟩, ⟨true, 0x10100, 2, 8, 0, 0, 0⟩, 1, 0, 0⟩

/-- The Atoll of cluster 0 as given, with core 0's rings h1 (two slots filled) and h2 (empty). -/
def atollAt (arrivals : List AtollCmd) (serving : Option AtollServe) : State :=
  (ring.onMe (fun k => k.setH 2 ⟨true, 0x10100, 2, 8, 0, 0, 0⟩)).modAtoll 0 (fun t => { t with arrivals := arrivals, serving := serving })

/-- A command in service. -/
def serving (kind : AtollKind) (staged : Nat) (outs : List (Nat × List Nat × List Word)) : AtollServe :=
  ⟨atollCmd kind, List.replicate staged 0, 0, outs.length, 0, false, outs⟩

/-- The same with input slots of 64 bytes at h1. -/
def wide64 : AtollServe :=
  { serving (.ltld 3) 0 [] with cmd := { atollCmd (.ltld 3) with rIn := ⟨true, 0x10000, 2, 64, 3, 1, 0⟩ } }

theorem witness_AtollServes : (base.cl 0).awake = true ∧
    (((after (.lflush 1) base).core 0).atollQ.map (fun c => decide (c.at_ ≤ 102))) = [true] ∧
    (∀ kind, kind ∈ [AtollKind.ltld 3, .lflush, .lrun 0 0, .lrun 0 1] → ((atollAt [atollCmd kind] none).cl 0).awake = true ∧
      ((atollAt [atollCmd kind] none).cl 0).atoll.serving = none ∧
      ((atollAt [atollCmd kind] none).cl 0).atoll.arrivals = [atollCmd kind] ∧
      ((atollAt [atollCmd kind] none).cl 0).atoll.freeAt ≤ base.clk ∧ ((atollAt [atollCmd kind] none).cl 0).atoll.isLoaded 0 = false ∧
      (atollCmd kind).token < 8 ∧ mget ((atollAt [atollCmd kind] none).core 0).fails 1 = none) := by decide +kernel

theorem witness_TableLoads : ((atollAt [] (some wide64)).cl 0).awake = true ∧
    ((atollAt [] (some wide64)).cl 0).atoll.serving = some wide64 ∧ wide64.staged.length < wide64.cmd.kind.loadSize ∧
    wide64.staged.length % 64 = 0 ∧ wide64.cmd.rIn.slot = 64 ∧ wide64.nextAt < base.clk ∧
    1 ≤ ((atollAt [] (some wide64)).handle 0 1).filled ∧
    ((atollAt [] (some wide64)).slotKeys 0 (wide64.cmd.rIn.slotAddr ((atollAt [] (some wide64)).handle 0 1).rpos.toNat) 64 false).toOption =
      some ((List.range 8).map (fun j => localKey 0 (64 + 8 * j))) ∧
    (atollAt [] (some wide64)).atollFree wide64.cmd false ((List.range 8).map (fun j => localKey 0 (64 + 8 * j))) = true := by
  decide +kernel

theorem witness_RunSteps : (∀ v, v ∈ [serving (.lrun 0 1) 0 [], serving (.lrun 0 1) 0 [(100, [localKey 0 0x100], [5])], serving (.lrun 0 0) 0 []] →
      ((atollAt [] (some v)).cl 0).awake = true ∧ ((atollAt [] (some v)).cl 0).atoll.serving = some v ∧
      1 ≤ ((atollAt [] (some v)).handle 0 1).filled ∧ 1 ≤ ((atollAt [] (some v)).handle 0 2).room ∧
      ((atollAt [] (some v)).handle 0 1).valid = true ∧ ((atollAt [] (some v)).handle 0 2).valid = true ∧
      ((atollAt [] (some v)).slotKeys 0 (v.cmd.rIn.slotAddr ((atollAt [] (some v)).handle 0 1).rpos.toNat) v.cmd.rIn.slot false).toOption =
        some [localKey 0 8] ∧
      ((atollAt [] (some v)).slotKeys 0 (v.cmd.rOut.slotAddr (((atollAt [] (some v)).handle 0 2).wpos.toNat +
        ((atollAt [] (some v)).handle 0 2).resv)) v.cmd.rOut.slot true).toOption = some [localKey 0 0x100] ∧
      (atollAt [] (some v)).atollFree v.cmd false [localKey 0 8] = true ∧
      (atollAt [] (some v)).atollFree v.cmd true [localKey 0 0x100] = true ∧
      (atollAt [] (some v)).slotsRead 0 [(localKey 0 0x100, 8)] = true ∧ v.cmd.hIn = 1 ∧ v.cmd.hOut = 2 ∧ v.nextAt < base.clk ∧
      v.cmd.token < 8) ∧
    (serving (.lrun 0 1) 0 []).steps < 1 ∧
    (serving (.lrun 0 1) 0 [(100, [localKey 0 0x100], [5])]).outs = [(100, [localKey 0 0x100], [5])] ∧ 100 ≤ base.clk ∧
    (serving (.lrun 0 0) 0 []).cmd.kind = .lrun 0 0 ∧ (serving (.lrun 0 0) 0 []).outs = [] := by decide +kernel

theorem witness_TableLoads_bank : ∃ v, ((atollAt [] (some v)).cl 0).awake = true ∧
    ((atollAt [] (some v)).cl 0).atoll.serving = some v ∧ v.cmd.kind = .ltld 3 ∧
    4096 ≤ v.staged.length ∧ v.nextAt < base.clk ∧ v.cmd.token < 8 :=
  ⟨serving (.ltld 3) 4096 [], rfl, rfl, rfl, Nat.le_of_eq List.length_replicate.symm, by decide, by decide⟩

theorem witness_TableLoads_context : ∀ b, b ∈ [(0 : Byte), 0xff] → ∃ v, ((atollAt [] (some v)).cl 0).awake = true ∧
    ((atollAt [] (some v)).cl 0).atoll.serving = some v ∧ v.cmd.kind = .lwld 3 ∧ v.staged = List.replicate 3072 b ∧
    v.nextAt < base.clk ∧ v.cmd.token < 8 ∧ mget ((atollAt [] (some v)).core 0).fails v.cmd.token = none :=
  fun b _ => ⟨{ serving (.lwld 3) 0 [] with staged := List.replicate 3072 b }, rfl, rfl, rfl, rfl,
    (by decide : (serving (.lwld 3) 0 []).nextAt < base.clk), (by decide : (serving (.lwld 3) 0 []).cmd.token < 8), rfl⟩

theorem witness_TableLoads_selectors :
    (∀ b, b ∈ (List.replicate 3072 (0 : Byte)).take 3072 → badSelector b = false) ∧
    ((List.replicate 3072 (0xff : Byte)).take 3072).any badSelector = true := by
  rw [List.take_of_length_le (Nat.le_of_eq List.length_replicate), List.take_of_length_le (Nat.le_of_eq List.length_replicate)]
  refine ⟨fun b hb => ?_, List.any_eq_true.2 ⟨0xff, List.mem_replicate.2 ⟨by decide, rfl⟩, by decide⟩⟩
  rw [(List.mem_replicate.1 hb).2]
  decide

theorem witness_AllLookupCells : 0 < 64 ∧ 63 < 64 := by decide

/-! ### The copy engine and remote operations -/

/-- A copy is queued, and then taken up. -/
def queuedCopy : State := after (.cpy 8 12 1) copies
def flyingCopy : State := after (.copyEngineAccept 0) queuedCopy

theorem witness_EngineAccepts : queuedCopy.awakeAt 0 = true ∧ (queuedCopy.core 0).flying + queuedCopy.pullsOf 0 < 64 ∧
    (((queuedCopy.core 0).copies.find? (fun c => decide (c.phase = .queued) &&
      (!(c.template.isSome && decide (c.total ≠ 0)) || decide ((queuedCopy.core 0).foot.length < 16)))).map
        (fun c => (c.template, c.total))) = some (none, 8) ∧
    (((after (.cpy 8 12 1) (xs copies [(9, 0)])).core 0).copies.map (fun c => (c.template, c.total))) = [(none, 0)] := by
  decide +kernel

/-- The copy in flight, before its round and after it has been read. -/
def copyNow (s : State) : CopyCmd := ((s.core 0).copyOf copies.nextId).getD (CopyCmd.blank 0 .cpy 0 0 0 0)
def roundRead : State := after (.copyRound 0 copies.nextId) flyingCopy

theorem witness_RoundRead : flyingCopy.awakeAt 0 = true ∧ Claims.alone flyingCopy 0 copies.nextId (copyNow flyingCopy) ∧
    (copyNow flyingCopy).kind = .cpy ∧ (copyNow flyingCopy).rounds = [] ∧ (copyNow flyingCopy).carry.2 = [] ∧
    flyingCopy.nextCopy 0 = some copies.nextId ∧ (flyingCopy.core 0).roundsInHand < 2 ∧
    (copyNow flyingCopy).total ≤ (copyNow flyingCopy).pos + 4096 ∧ (copyNow flyingCopy).a0 = 0x10000 ∧
    (copyNow flyingCopy).total = 8 ∧ (copyNow flyingCopy).b0 = 0x10100 ∧ flyingCopy.isPoisoned (localKey 0 0) 8 = false := by
  unfold Claims.alone; decide +kernel

theorem witness_RoundWritten : roundRead.awakeAt 0 = true ∧ Claims.alone roundRead 0 copies.nextId (copyNow roundRead) ∧
    (copyNow roundRead).kind = .cpy ∧
    (copyNow roundRead).rounds.map (fun r => (r.stage, r.got, r.buf.length, r.len, r.pos)) = [(.full, [], 8, 8, 0)] ∧
    (copyNow roundRead).z.out = none ∧ (copyNow roundRead).total = 8 ∧ (copyNow roundRead).b0 = 0x10100 ∧ roundRead.memOk := by
  unfold Claims.alone; decide +kernel

/-- A remote load of HBM has been taken up; its page is in the table. -/
def flyingRemote (pa : Nat) : State :=
  after (.copyEngineAccept 0) (after (.rld 4 5 3 0) ((xs base [(5, 0x100000000000)]).modCl 0 (fun k =>
    { k with tlb := [⟨0, 16, 0x10000000, pa, false, true, true, true⟩] })))

/-- The same page on chip 3, to which a port leads or none. -/
def flyingFar (up : Bool) : State :=
  { flyingRemote (3 * 2 ^ 52 + 0x100000) with
    routes := [(3, [1])], straits := [(1, { Strait.reset with peer := 3, state := if up then 3 else 0 })] }

/-- The command as it stands. -/
def remoteNow (s : State) : CopyCmd := ((s.core 0).copyOf base.nextId).getD (CopyCmd.blank 0 .cpy 0 0 0 0)

theorem witness_RemoteLeaves :
    (∀ p, p ∈ [(flyingRemote 0x100000, 0x100000), (flyingFar true, 3 * 2 ^ 52 + 0x100000), (flyingFar false, 3 * 2 ^ 52 + 0x100000)] →
      p.1.awakeAt 0 = true ∧ (p.1.core 0).copyOf base.nextId = some (remoteNow p.1) ∧ (remoteNow p.1).kind = .remote .load ∧
      (remoteNow p.1).phase = .flying ∧ (remoteNow p.1).rounds = [] ∧ p.1.orderMet 0 (remoteNow p.1) = true ∧
      (p.1.engineXlate (.command base.nextId) 0 (remoteNow p.1).a0 (remNeeds .load).1 (remNeeds .load).2).1 = .ok p.2 ∧
      paSpace p.2 ≤ 1 ∧ (p.1.engineXlate (.command base.nextId) 0 (remoteNow p.1).a0 (remNeeds .load).1 (remNeeds .load).2).2.remoteHeld
        0 base.nextId p.2 8 = false ∧
      (p.1.engineXlate (.command base.nextId) 0 (remoteNow p.1).a0 (remNeeds .load).1 (remNeeds .load).2).2.accessHeld
        0 base.nextId (remNeeds .load).2 [(paKey p.2, 8)] = false ∧ (remoteNow p.1).token < 8 ∧ (remoteNow p.1).template = none ∧
      mget (p.1.core 0).fails (remoteNow p.1).token = none) ∧
    paChip 0x100000 = base.chip.toNat ∧ paChip (3 * 2 ^ 52 + 0x100000) ≠ base.chip.toNat ∧
    ((flyingFar true).egressPort 3).isSome = true ∧ (flyingFar false).egressPort 3 = none := by decide +kernel

/-- A remote load of core 0 by RST's ordering token: the command counted there is outstanding. -/
def orderedRemote : State :=
  let s := after (.rld 4 5 3 2) (after (.cpy 8 12 2) (xs copies [(5, 0x100000000000)]))
  after (.copyEngineAccept 0) (after (.copyEngineAccept 0) s)

theorem witness_RemoteWaits : ∃ c, (orderedRemote.core 0).copyOf (copies.nextId + 1) = some c ∧ c.kind = .remote .load ∧
    copies.nextId ∈ c.after ∧ copies.nextId ∈ orderedRemote.outstanding 0 :=
  ⟨_, rfl, by decide +kernel, by decide +kernel, by decide +kernel⟩

/-- A round of core 0 has been voided on the page at 0x100000000000. -/
def voided (entry : Nat) : State :=
  (paged entry).onMe (fun k => { k with copies := [{ CopyCmd.blank 7 .cpy 1 0 0 0 with phase := .voided, missing := 0x100000000000 }] })

theorem witness_RoundRestarts : ∃ c, (voided 0).awakeAt 0 = true ∧ ((voided 0).core 0).copyOf 7 = some c ∧ c.phase = .voided ∧
    (voided 0).physOf 0 c.missing = none ∧ (voided 0x10000f).awakeAt 0 = true ∧ ((voided 0x10000f).core 0).copyOf 7 = some c ∧
    ((voided 0x10000f).physOf 0 c.missing).isSome = true :=
  ⟨_, by decide +kernel, rfl, by decide +kernel⟩

theorem witness_CommandCompletes : ∃ c, (after (.copyRound 0 base.nextId) roundRead).awakeAt 0 = true ∧
    ((after (.copyRound 0 base.nextId) roundRead).core 0).copyOf base.nextId = some c ∧ c.template = none ∧ c.counts = true ∧
    c.token < 8 ∧ c.phase = .finished ∧ c.total ≠ 0 :=
  ⟨_, by decide +kernel, rfl, by decide +kernel⟩

/-- Partition 0 owns queues 0 to 15; queue 5 goes to port 16 of core 0, queue 6 from it, as the template's done queue. -/
def templates (w0 : Nat) (store : List Elem) : State :=
  { (xs base [(5, 0), (6, 0x10000)]) with
    parts := [(0, ⟨0, 0, 1, 1, 0, 0, 16, 31, 0, none, [], false, []⟩)]
    queues := [(5, fifo (.core 0 16) store [])]
    mem := [(8, 0x10), (16, 8), (24, 0x10)].foldl (fun m p => memWrite m (localKey 0 p.1) (leBytes 8 (p.2 * (if p.1 = 16 then 1 else 4096)))) []
      |> fun m => memWrite m (localKey 0 0) (leBytes 8 w0) }

/-- CARM of that descriptor has been taken up. -/
def arming (w0 : Nat) : State := after (.copyEngineAccept 0) (after (.carm 5 6 1) (templates w0 []))

/-- The template is armed, with these items at its trigger. -/
def armed (store : List Elem) : State :=
  let p : Template := ⟨5, 0, false, false, true, .cpy, 0x10000, 8, 0x10100, 0⟩
  (templates 0 store).onMe (fun k => { k with templates := [(0, p)], triggers := [] })

theorem witness_DescriptorFields :
    ((templates 0x0005000000000100 []).readTemplate 0 0 [0x0005000000000100, 0x10000, 8, 0x10000, 0, 0, 0, 0]).isSome = true := by
  decide +kernel

theorem witness_DescriptorChecks : ∃ c d, (arming 0x0005000000000100).awakeAt 0 = true ∧
    ((arming 0x0005000000000100).core 0).copyOf base.nextId = some c ∧ c.kind = .carm ∧ c.template = none ∧ c.phase = .flying ∧
    c.token < 8 ∧ (arming 0x0005000000000100).accessHeld 0 base.nextId false [(localKey 0 0, 64)] = false ∧
    ((arming 0x0005000000000100).core 0).footBlocked base.nextId [(c.b0.toNat, 64)] [] = false ∧
    (arming 0x0005000000000100).isPoisoned (localKey 0 0) 64 = false ∧
    ((arming 0x0005000000000100).readTemplate 0 c.a0.toNat (wordsOfBytes 8 ((arming 0x0005000000000100).readOwn 0 (localKey 0 0) 64))).isSome = true ∧
    ((arming 0).core 0).copyOf base.nextId = some d ∧
    (arming 0).readTemplate 0 d.a0.toNat (wordsOfBytes 8 ((arming 0).readOwn 0 (localKey 0 0) 64)) = none ∧
    ((arming 0).core 0).destsFor base.nextId = [] ∧ mget ((arming 0).core 0).fails d.token = none :=
  ⟨_, _, by decide +kernel, rfl, by decide +kernel, by decide +kernel, by decide +kernel, by decide +kernel, by decide +kernel,
    by decide +kernel, by decide +kernel, by decide +kernel, rfl, by decide +kernel⟩

theorem witness_TemplateFires : ∃ p, (armed [item [8]]).awakeAt 0 = true ∧ mget ((armed [item [8]]).core 0).templates 0 = some p ∧
    ((armed [item [8]]).core 0).firing 0 = false ∧ (armed [item [8]]).headFor p.trig 0 = .item [8] ∧
    copyCheck (p.command 0 base.nextId base.clk [8]) = none :=
  ⟨_, by decide +kernel, rfl, by decide +kernel⟩

/-- The trigger of the armed template is a keyed merge that has closed. -/
def armedClosed : State :=
  { armed [] with queues := [(5, { fifo (.core 0 16) [] [] with merge := true, mprod := [.core 1 0], subs := [[item [BitVec.allOnes 64]]] })] }

theorem witness_TemplateFires_closed : armedClosed.awakeAt 0 = true ∧ (mget (armedClosed.core 0).templates 0).isSome = true ∧
    (armedClosed.core 0).firing 0 = false ∧ armedClosed.headFor 5 0 = .closed := by decide +kernel

/-- A remote request of core 0 of this chip. -/
def request (op : RemOp) : RemReq := ⟨0, 0, 0, 0, 0, 5, op, 0x100000, 7, 0, 8, []⟩

/-- The request has arrived; frames are held as given. -/
def asked (r : RemReq) (held : List Nat) : State := { base with remIn := [r], heldFrames := held }

/-- A store of core 1 to the same bytes counts as performed at chip scope, and is shown there. -/
def shownStore : State :=
  { (asked (request .load) []).modCore 1 (fun k => { k with
      mem := [⟨9, .store [[1, 2, 3, 4, 5, 6, 7, 8]], [(0x100000, 0)], 8, none, none, none, some .chip, 0, 0x100000, [0x100000]⟩] }) with
    showing := some 1 }

theorem witness_RequestPerformed :
    (∀ op, op ∈ [RemOp.load, .store, .cas, .amo .add, .amo .swap, .amo .minu] →
      (asked (request op) []).remIn[0]? = some (request op) ∧ (request op).srcChip = base.chip.toNat ∧
      (asked (request op) []).frameHeld 0x100000 = false ∧ (asked (request op) []).isPoisoned (paKey 0x100000) 8 = false ∧
      (asked (request op) []).shownHolds (some 0) (!remReads (request op)) (paKey 0x100000) 8 = false ∧ (asked (request op) []).memOk) ∧
    (asked { request .store with srcChip := 1 } []).remIn[0]? = some { request .store with srcChip := 1 } ∧
    (asked { request .store with srcChip := 1 } []).permits { request .store with srcChip := 1 } = false ∧
    shownStore.remIn[0]? = some (request .load) ∧ shownStore.permits (request .load) = true ∧
    shownStore.shownHolds (some 0) (!remReads (request .load)) (paKey 0x100000) 8 = true := by decide +kernel

theorem witness_HeldFrames : (asked (request .store) [16]).remIn[0]? = some (request .store) ∧
    (asked (request .store) [16]).permits (request .store) = true ∧ (asked (request .store) [16]).frameHeld 0x100000 = true ∧
    (asked (request .store) [16]).logTail - (asked (request .store) [16]).logHead < 4096 ∧ (asked (request .store) [16]).memOk ∧
    (asked (request .store) [16]).shownHolds (some 0) true (paKey 0x100000) 8 = false ∧
    ({ asked (request .store) [16] with logTail := 4096 } : State).logTail - 0 ≥ 4096 ∧
    (asked (request .load) [16]).remIn[0]? = some (request .load) ∧
    (asked (request .load) [16]).permits (request .load) = true ∧ (asked (request .load) [16]).frameHeld 0x100000 = true := by
  decide +kernel

theorem witness_LogReplays : ({ base with log := [⟨request .store, 1⟩] } : State).log = [⟨request .store, 1⟩] ∧
    (request .store).op = .store ∧ (request .store).srcChip = base.chip.toNat ∧ (request .store).srcInc = base.inc.toNat ∧
    base.frameHeld 0x100000 = false ∧ base.isPoisoned (paKey 0x100000) 8 = false ∧ base.memOk ∧
    base.incarnationOf 0 = some 0 ∧ 0 ≠ ({ request .store with srcInc := 1 } : RemReq).srcInc := by decide +kernel

/-- Core 0 waits for the reply of tag 5 to its remote load, with these replies at hand. -/
def replied (a : RemReply) (waits : List Wait) : State :=
  { base.onMe (fun k => { k with
      copies := [{ CopyCmd.blank 7 (.remote .load) 3 0 0 0 with phase := .flying, rounds := [⟨0, 8, .read, true, [], [⟨5, 0, 0, 8⟩], [], [], (0, []), []⟩] }]
      k := [(3, 1)], waits := waits }) with remOut := [a] }

theorem witness_ReplyTaken : ∃ c q, (∀ w, w ∈ [[⟨7, .x 4, .none⟩], []] → ∀ a, a ∈ [(⟨0, 5, 0, 9, [], 0⟩ : RemReply), ⟨0, 5, 1, 9, [], 0⟩, ⟨0, 5, 0, 0, [], 2⟩] →
      (replied a w).remOut[0]? = some a ∧
      ((replied a w).core a.core).copies.findSome? (fun c => (c.rounds.find? (fun r => r.waitsFor a.tag)).map (fun r => (c, r))) = some (c, q) ∧
      (replied a w).genOf 0 = 0 ∧ ((replied a w).core 0).destsFor 7 = w.map (fun w => w.dest) ∧ mget ((replied a w).core 0).fails 3 = none) ∧
    c.kind = .remote .load ∧ c.template = none ∧ c.token < 8 ∧ c.isFirst q = true :=
  ⟨{ CopyCmd.blank 7 (.remote .load) 3 0 0 0 with phase := .flying, rounds := [⟨0, 8, .read, true, [], [⟨5, 0, 0, 8⟩], [], [], (0, []), []⟩] },
    ⟨0, 8, .read, true, [], [⟨5, 0, 0, 8⟩], [], [], (0, []), []⟩, by decide +kernel⟩

/-! ### The stream decoder -/

theorem witness_BlockModes : (0x803f : BitVec 16) >>> 14 = 2 ∧ (0xc000 : BitVec 16) >>> 14 = 3 ∧ (0x4000 : BitVec 16) >>> 14 = 1 ∧
    (0x4000 : BitVec 16) &&& 63 = 0 := by decide +kernel

/-- A copy of core 0 decodes these bytes for offset 16 of cluster 0's slice, which core 0 may write, by channel 0. -/
def decoding (zs : Bool) (bytes : List Byte) : State :=
  (base.onMe (fun k => { k with copies := [{ CopyCmd.blank 7 .cpy 1 0 0 0 with
    a1 := 64, phase := .flying, pos := 64, rounds := [⟨0, 64, .decode, false, [], [], [], bytes, (0, []), []⟩]
    z := ⟨0, 0, bytes, [], [], (0, 0, []), some 16, 0⟩ }] })).modCl 0 (fun k => { k with
      chans := [(0, ⟨.rne, 0, 0, zs, .e4⟩)], slice := [(0, ⟨true, true, false⟩)] })

/-- The command of that copy. -/
def decodingNow (s : State) : CopyCmd := ((s.core 0).copyOf 7).getD (CopyCmd.blank 0 .cpy 0 0 0 0)

/-- The slice may not be written; the decoder has taken a block in this clk. -/
def decodingShut : State := (decoding false [1, 2]).modCl 0 (fun k => { k with slice := [] })
def decoderBusy : State := (decoding false [1, 2]).modCl 0 (fun k => { k with decoded := some 100 })

theorem witness_Decoding :
    (∀ s, s ∈ [decoding false [1, 2], decodingShut, decoding true [0x00, 0x80, 1], decoding true [0x00, 0xc0]] →
      (s.core 0).copyOf 7 = some (decodingNow s) ∧ (decodingNow s).kind = .cpy ∧
      ((decodingNow s).rounds.find? (fun r => decide (r.stage = .decode) && !r.asked)).isSome = true ∧
      s.decodeTurn 0 ((decodingNow s).z.since, 0, 7) = true ∧ (decodingNow s).z.bytes ≠ [] ∧ (decodingNow s).z.staged = [] ∧
      apertureCluster ((decodingNow s).z.out.getD 0) = 0 ∧ apertureOff ((decodingNow s).z.out.getD 0) = 16 ∧
      apertureChan ((decodingNow s).z.out.getD 0) = 0 ∧ mget (decodingNow s).z.entries (decodingNow s).z.base = none ∧
      (decodingNow s).template = none ∧ (decodingNow s).token < 8 ∧ (s.core 0).destsFor 7 = [] ∧
      mget (s.core 0).fails (decodingNow s).token = none ∧ s.memOk) ∧
    (∀ i, i < 2 → (decoding false [1, 2]).mayLand 0 (16 + 0 + i) = true ∧ decodingShut.mayLand 0 (16 + 0 + i) = false) ∧
    (((decoding false [1, 2]).cl 0).zEntryOf 0).1.zs = false ∧ (((decoding true [0x00, 0x80, 1]).cl 0).zEntryOf 0).1.zs = true ∧
    ((zBlock true (codeTable (((decoding true [0x00, 0x80, 1]).cl 0).zEntryOf 0).2) [0x00, 0x80, 1]).toOption.map
      (fun p => decide (p.2 < 3))) = some true ∧
    (match zBlock true (codeTable (((decoding true [0x00, 0xc0]).cl 0).zEntryOf 0).2) [0x00, 0xc0] with
      | .error .invalid => true | _ => false) = true ∧
    (decoderBusy.cl 0).decoded = some decoderBusy.clk := by decide +kernel

/-! ### The matrix unit -/

/-- A command of a core of cluster 0 into tile 0. -/
def matCmd (id : Nat) (kind : MatKind) (prio : Nat) (rows : List Nat) (m n pass : Nat) : MatCmd :=
  { command shaped kind 0 rows m n .float 1 with id := id, prio := prio, pass := pass }

/-- An MMAC of two register panels of F32. -/
def panels : MatKind := .mmac .f32 false (some 0) (some 0) none none 4 4 8

/-- The matrix unit of cluster 0 as given. -/
def unit (queues : FMap (List MatCmd)) (running : Option Pass) : State :=
  shaped.modCl 0 (fun k => { k with mat := { Matrix.reset with queues := queues, running := running } })

/-- A pass. -/
def pass (core taken : Nat) (a b : List (List Nat)) : Pass := ⟨core, 0, 0, 1, taken, false, 0, a, b, []⟩

/-- Core 3 has an MMAC at the head of its queue. -/
def granting : State := unit [(3, [matCmd 1 panels 0 [0, 1, 2, 3] 4 4 0])] none

/-- The head of core n's matrix queue has its pass to run, or waits. -/
def settled (s : State) (cl n : Nat) : Bool :=
  match (s.cl cl).mat.head n with
  | none => true
  | some c => decide (c.pass ≠ 0 ∨ c.checked ∨ !s.matFree cl n c) || (s.matRights cl c && decide (c.kind.passes ≠ 0))

theorem settleHead_of (s : State) (cl n : Nat) (h : settled s cl n = true) : s.settleHead cl n = s := by
  unfold settled at h
  unfold State.settleHead
  split
  · rfl
  · rename_i c hc
    rw [hc] at h
    by_cases h1 : c.pass ≠ 0 ∨ c.checked ∨ !s.matFree cl n c
    · rw [if_pos h1]
    · rw [if_neg h1]
      simp only [h1, decide_false, Bool.false_or, Bool.and_eq_true, decide_eq_true_eq] at h
      rw [h.1, if_neg (by decide), if_neg h.2]

theorem settledAll (s : State) (cl : Nat) (h : (List.range 8).all (settled s cl) = true) : ∀ m, m < 8 → s.settleHead cl m = s :=
  fun m hm => settleHead_of s cl m (List.all_eq_true.1 h m (List.mem_range.2 hm))

theorem witness_PassGranted : ∃ n g c, (granting.cl 0).awake = true ∧ (∀ m, m < 8 → granting.settleHead 0 m = granting) ∧
    (granting.cl 0).mat.running = none ∧ (granting.cl 0).mat.overtaken = none ∧ granting.matPick 0 = some (n, g) ∧
    (granting.cl 0).mat.head n = some c :=
  ⟨3, _, _, by decide +kernel, settledAll _ _ (by decide +kernel), rfl, rfl, rfl, rfl⟩

/-- Core 3's pass has taken a step; core 5 has an MMAC of priority 31. -/
def overtakes : State :=
  (unit [(3, [matCmd 1 panels 0 [0, 1, 2, 3] 4 4 1]), (5, [matCmd 2 panels 31 [0, 1, 2, 3] 4 4 0])] (some (pass 3 1 [] []))).modCl 0
    (fun k => { k with yceil := 31 })

theorem witness_PassOvertaken : ∃ c, (overtakes.cl 0).awake = true ∧ (∀ m, m < 8 → overtakes.settleHead 0 m = overtakes) ∧
    (overtakes.cl 0).mat.running = some (pass 3 1 [] []) ∧ (pass 3 1 [] []).overtaking = false ∧ (pass 3 1 [] []).taken ≠ 0 ∧
    (overtakes.cl 0).mat.isMmac 3 = true ∧ (overtakes.cl 0).mat.isMmac 5 = true ∧ overtakes.matReady 0 5 = true ∧
    (pass 3 1 [] []).eff + 16 ≤ overtakes.matEff 0 5 ∧
    (∀ o, o < 8 → o ≠ 5 → overtakes.matReady 0 o = true → overtakes.matEff 0 o < overtakes.matEff 0 5) ∧
    (overtakes.cl 0).mat.head 5 = some c :=
  ⟨_, by decide +kernel, settledAll _ _ (by decide +kernel), rfl, rfl, by decide, by decide +kernel, by decide +kernel,
    by decide +kernel, by decide +kernel, by decide +kernel, rfl⟩

/-- A store operand of one row of one element at the start of the slice. -/
def cell : Geo := ⟨0, 32, 512, 0, 1, 1, 0, .rne⟩

/-- An MMAC with a store operand A, and the rights to read it. -/
def fetching : State :=
  (unit [(3, [matCmd 1 (.mmac .f32 false none (some 0) (some cell) none 1 4 1) 0 [0] 1 4 0])] none).modCl 0
    (fun k => { k with slice := [(0, ⟨true, true, false⟩)] })

/-- Core 3's MSTOR finds no right to its slice; its MSPAN of a set without other columns has no target. -/
def settling (kind : MatKind) (r : Bool) : State :=
  (unit [(3, [matCmd 1 kind 0 [0] 1 1 0])] none).modCl 0 (fun k => { k with slice := if r then [(0, ⟨true, true, false⟩)] else [] })

theorem witness_HeadSettles : (∀ p, p ∈ [(MatKind.mstor .f32 cell false, false), (.mspan cell 64 [], true)] →
      ((settling p.1 p.2).cl 0).awake = true ∧
      (∀ m, m < 8 → m ≠ 3 → ((settling p.1 p.2).cl 0).mat.head m = none) ∧
      ((settling p.1 p.2).cl 0).mat.head 3 = some (matCmd 1 p.1 0 [0] 1 1 0) ∧ (matCmd 1 p.1 0 [0] 1 1 0).pass = 0 ∧
      (matCmd 1 p.1 0 [0] 1 1 0).checked = false ∧ (settling p.1 p.2).matFree 0 3 (matCmd 1 p.1 0 [0] 1 1 0) = true ∧
      (matCmd 1 p.1 0 [0] 1 1 0).token < 8 ∧ (settling p.1 p.2).matRights 0 (matCmd 1 p.1 0 [0] 1 1 0) = p.2 ∧
      ((settling p.1 p.2).cl 0).mat.isFirst 3 1 = true ∧
      mget ((settling p.1 p.2).core (0 * 8 + 3)).fails (matCmd 1 p.1 0 [0] 1 1 0).token = none) ∧
    (matCmd 1 (.mspan cell 64 []) 0 [0] 1 1 0).kind = .mspan cell 64 [] := by decide +kernel

theorem witness_FetchFills : ∃ c, (fetching.cl 0).awake = true ∧ (fetching.cl 0).mat.fetchHead (3 % 8) = some c ∧
    c.kind = .mmac .f32 false none (some 0) (some cell) none 1 4 1 ∧ c.kind.fetches = true ∧ c.fetched = false ∧ c.pass = 0 ∧
    0 < c.kind.passes ∧ fetching.matFree 0 (3 % 8) c = true ∧ (c.checked = true ∨ fetching.matRights 0 c = true) ∧ c.lines = none ∧
    (fetchRanges .f32 (some cell) none 0 0 1).find? (fun r => fetching.isPoisoned (sliceKey 0 r.1) r.2) = none ∧
    (fetchLines ((fetching.cl 0).mat.used fetching.clk) (linesOf (fetchRanges .f32 (some cell) none 0 0 1))).1 = [] :=
  ⟨_, by decide +kernel, rfl, rfl, by decide +kernel⟩

theorem witness_OperandRows : (shaped.core 0).mem = [] ∧ 0 < 1 ∧ 0 < cell.rows ∧ 0 + 0 < cell.cols ∧ ¬ (1 < cell.rows) := by
  decide +kernel

theorem witness_OneLinePerBank : [1, 2, 33].Nodup ∧ (fetchLines [] [1, 2, 33]).1 = [33] := by decide +kernel

theorem witness_MacIntegers : (2 : Int) ^ 31 ≤ (0x7fffffff : BitVec 32).toInt + 1 ∧
    (0x80000000 : BitVec 32).toInt + (-1) < -(2 ^ 31) ∧ -(2 ^ 31) ≤ (0 : BitVec 32).toInt + 0 ∧
    (0 : BitVec 32).toInt + 0 < (2 : Int) ^ 31 := by decide +kernel

/-- The step of core 3's pass is due: the command and the pass. -/
def stepping (kind : MatKind) (a b : List (List Nat)) : State :=
  unit [(3, [matCmd 1 kind 0 [0] 1 1 1])] (some (pass 3 0 a b))

theorem witness_MmacStep : ∃ c, ((stepping (.mmac .i8 true (some 5) (some 7) none none 1 1 32) [[5]] [[7]]).cl 0).awake = true ∧
    ((stepping (.mmac .i8 true (some 5) (some 7) none none 1 1 32) [[5]] [[7]]).cl 0).mat.running = some (pass 3 0 [[5]] [[7]]) ∧
    ((stepping (.mmac .i8 true (some 5) (some 7) none none 1 1 32) [[5]] [[7]]).cl 0).mat.head 3 = some c ∧
    c.kind = .mmac .i8 true (some 5) (some 7) none none 1 1 32 ∧ c.rows = [0] ∧ c.pass = 1 ∧
    (pass 3 0 [[5]] [[7]]).num = 0 ∧ (pass 3 0 [[5]] [[7]]).kPos = 0 ∧ (pass 3 0 [[5]] [[7]]).steps = 1 ∧
    (pass 3 0 [[5]] [[7]]).sums = [] ∧
    (∀ q, q < 32 → ((([[5]] : List (List Nat)).getD 0 []).getD q 0 < 256 ∧ (([[7]] : List (List Nat)).getD q []).getD 0 0 < 256)) :=
  ⟨_, by decide +kernel, rfl, rfl, rfl, rfl, by decide +kernel⟩

theorem witness_MstorStep : ∃ c, ((stepping (.mstor .f32 cell false) [] []).cl 0).awake = true ∧
    ((stepping (.mstor .f32 cell false) [] []).cl 0).mat.running = some (pass 3 0 [] []) ∧
    ((stepping (.mstor .f32 cell false) [] []).cl 0).mat.head 3 = some c ∧ c.kind = .mstor .f32 cell false ∧ cell.rows = 1 ∧
    cell.cols = 1 ∧ 1 ≤ c.tm ∧ 1 ≤ c.tn ∧ c.pass = 1 ∧ (stepping (.mstor .f32 cell false) [] []).memOk :=
  ⟨_, by decide +kernel, rfl, rfl, rfl, by decide +kernel⟩

theorem witness_MloadStep : ∃ c, ((stepping (.mload cell none) [] []).cl 0).awake = true ∧
    ((stepping (.mload cell none) [] []).cl 0).mat.running = some (pass 3 0 [] []) ∧
    ((stepping (.mload cell none) [] []).cl 0).mat.head 3 = some c ∧ c.kind = .mload cell none ∧ c.rows = [0] ∧ c.tm = 1 ∧ c.tn = 1 ∧
    c.pass = 1 ∧ ((stepping (.mload cell none) [] []).core (0 * 8 + 3)).mem = [] ∧
    (stepping (.mload cell none) [] []).isPoisoned (sliceKey 0 cell.base) 4 = false :=
  ⟨_, by decide +kernel, rfl, rfl, rfl, by decide +kernel⟩

/-- An MSPAN's step to the next column's cluster of a region of two. -/
def spanStep : State := (stepping (.mspan cell 64 [1]) [] []).modCl 0 (fun k => { k with cols1 := 1 })

theorem witness_MspanStep : ∃ c, (spanStep.cl 0).awake = true ∧ (spanStep.cl 0).mat.running = some (pass 3 0 [] []) ∧
    (spanStep.cl 0).mat.head 3 = some c ∧ c.kind = .mspan cell 64 [1] ∧ (spanStep.cl 0).offsetCluster 1 = some 1 ∧ c.pass = 1 ∧
    (∀ i, i < 32 → spanStep.isPoisoned (sliceKey 0 (cell.base + i)) 1 = false) ∧ (spanStep.core (0 * 8 + 3)).mem = [] ∧
    c.stage = [] ∧ spanStep.memOk :=
  ⟨_, by decide +kernel, rfl, rfl, rfl, by decide +kernel⟩

/-- The head command of core 3 is done. -/
def matDone : State := unit [(3, [{ matCmd 1 (.mstor .f32 cell true) 0 [0, 1, 2, 3] 4 4 1 with doneAt := some 100 }])] none

theorem witness_MatrixCompletes : ∃ c, (matDone.cl 0).awake = true ∧ mgetD (matDone.cl 0).mat.queues (3 % 8) [] = c :: [] ∧
    c.doneAt = some 100 ∧ 100 ≤ matDone.clk ∧ c.token < 8 ∧ c.kind = .mstor .f32 cell true ∧
    (mget (matDone.cl 0).tiles c.tile).isSome = true := ⟨_, by decide +kernel, rfl, by decide +kernel⟩

/-! ### Receive engines -/

/-- An 8-bit tensor of one dimension of 8,192 bytes at the start of cluster 0's slice. -/
def tensor : List Word := [0x3000, 0x10000000000, 8192, 0, 1, 0]

/-- A post of communicator 0 that any message matches: queue 6, tensor 1, at most `max` bytes. -/
def postWords (max : Nat) : List Word := [0, 0, BitVec.ofNat 64 (6 * 2 ^ 48 + 1 * 2 ^ 32 + max), 0, 0xabc, 0]

/-- A message of communicator 0 from rank 0 to rank 1, of this chip. -/
def message (len number : Nat) (bs : List Byte) : MsgHeader := ⟨0, 0, 1, 4, len, number, 0, 0, 0, 9, bs, 0⟩

/-- The program of cluster 0 maps tensor 1; communicator 0 has ranks 0 and 1; engine 0 as given; queue 6 takes completions. -/
def engine (f : Engine → Engine) : State :=
  ({ live with
    progs := live.progs.map (fun p => (p.1, { p.2 with tens := [(1, 0)] }))
    parts := [(0, ⟨0, 0, 1, 1, 0, 0, 16, 31, 0, none, [], false, []⟩)]
    tensors := [(0, ⟨0, 0, tensor⟩)]
    comms := [(0, ⟨[(0, 0), (1, 0)], [(2, 1)]⟩)]
    queues := [(6, { fifo (.core 0 0) [] [] with words := 4 })] } : State).modEngine 0
      (fun g => f { g with shares := [(0, (4, 4, 65536))] })

/-- A request of core 0. -/
def engReq (cmd : MsgCmd) : EngReq := ⟨0, 3, 0, 0, 0, cmd⟩

/-- Engine 0 has that request, and these unexpected messages. -/
def posting (max : Nat) (unexpected : List MsgHeader) : State :=
  engine (fun g => { g with inbox := [engReq (.post (postWords max))], unexpected := unexpected })

theorem witness_MessageMatching : (message 8 0 []).src < 2 ^ 20 ∧ (message 8 0 []).tag < 2 ^ 32 ∧
    (posting 64 []).fits 0 [0, 0] (message 8 0 []) = true ∧
    (posting 64 []).fits 0 [0, 0x00000005ffffffff] (message 8 0 []) = false := by decide +kernel

theorem witness_PostTaken : ((posting 64 []).engine 0).taken base.clk 0 = some (engReq (.post (postWords 64))) ∧
    (posting 64 []).postStatus 0 (engReq (.post (postWords 64))) (postWords 64) = 0 ∧ ((posting 64 []).engine 0).pick = some 0 ∧
    ((posting 8193 []).engine 0).taken base.clk 0 = some (engReq (.post (postWords 8193))) ∧
    (posting 8193 []).postStatus 0 (engReq (.post (postWords 8193))) (postWords 8193) = 3 := by decide +kernel

/-- A post in slot 0 of engine 0. -/
def post (state : PostState) (msg : Option MsgHeader) : Post :=
  { words := postWords 5000, part := 0, region := 0, core := 0, state := state, gen := 2, uses := 1, msg := msg, landed := 0, status := 0,
    order := 0, ready := 0, asked := false, pulling := false, parts := [], buf := [], got := [] }

/-- Engine 0 holds a post and has a request. -/
def holding (p : Post) (cmd : MsgCmd) : State :=
  engine (fun g => { g with inbox := [engReq cmd], slots := [(0, p)], posted := [0] })

/-- A post in slot 0 of engine 0 is to be decided, with these unexpected messages. -/
def postDue (unexpected : List MsgHeader) : State :=
  engine (fun g => { g with slots := [(0, post .posted none)], deciding := [(100, .post 0)], unexpected := unexpected })

theorem witness_PostDecided : (∀ u, u ∈ [[], [message 8 0 []]] → ((postDue u).engine 0).deciding = (100, .post 0) :: [] ∧
      100 ≤ (postDue u).clk ∧ ((postDue u).engine 0).unexpected = u) ∧
    ((postDue []).engine 0).unexpected.find? ((postDue []).fits (((postDue []).engine 0).slot 0).part
      (((postDue []).engine 0).slot 0).words) = none ∧
    ((postDue [message 8 0 []]).engine 0).unexpected.find? ((postDue [message 8 0 []]).fits
      (((postDue [message 8 0 []]).engine 0).slot 0).part (((postDue [message 8 0 []]).engine 0).slot 0).words) =
      some (message 8 0 []) := by decide +kernel

theorem witness_CancelsAndProbes :
    ((holding (post .posted none) (.cancel 0x80200000)).engine 0).taken base.clk 0 = some (engReq (.cancel 0x80200000)) ∧
    ((holding (post .posted none) (.cancel 0x80200000)).engine 0).slot 0 = post .posted none ∧
    ((0x80200000 : Word).toNat % 16384 = 0 ∧ (0x80200000 : Word).getLsbD 31 = true ∧ (post .posted none).uses ≠ 0 ∧
      (post .posted none).part = 0 ∧ (post .posted none).gen = (((0x80200000 : Word) >>> 20) &&& 255).toNat) ∧
    ((holding (post .matched none) (.cancel 0x80200000)).engine 0).taken base.clk 0 = some (engReq (.cancel 0x80200000)) ∧
    (post .matched none).state = .matched ∧ (post .posted none).gen ≠ (((0x80300000 : Word) >>> 20) &&& 255).toNat ∧
    ((engine (fun g => { g with inbox := [engReq (.probe [0, 0])], unexpected := [message 8 0 []] })).engine 0).taken base.clk 0 =
      some (engReq (.probe [0, 0])) ∧
    ((engine (fun g => { g with unexpected := [message 8 0 []] })).engine 0).unexpected.find?
      ((engine (fun g => { g with unexpected := [message 8 0 []] })).fits 0 [0, 0]) = some (message 8 0 []) ∧
    ((engine (fun g => { g with inbox := [engReq (.probe [0, 0])] })).engine 0).unexpected.find?
      ((engine id).fits 0 [0, 0]) = none := by decide +kernel

/-- Engine 0 has a tensor record for number n. -/
def mapping (n : Nat) (ws : List Word) : State := engine (fun g => { g with inbox := [engReq (.xten n ws)] })

theorem witness_TensorMapped : ((mapping 1 tensor).engine 0).taken base.clk 0 = some (engReq (.xten 1 tensor)) ∧
    (mget (mapping 1 tensor).progs 0).map (fun p => mget p.tens 1) = some (some 0) ∧
    tensorInvalid ((mapping 1 tensor).cl 0) tensor = false ∧ (mapping 1 tensor).tensorBusy 0 1 = false ∧
    (mget (mapping 2 tensor).progs 0).map (fun p => mget p.tens 2) = some none ∧ (mapping 2 tensor).tensorBusy 0 2 = false ∧
    firstFree (fun i => (mget (mapping 2 tensor).tensors i).isSome) 16384 0 = some 1 ∧
    tensorInvalid ((mapping 1 [0x3000, 0x10000, 8192, 0, 1, 0]).cl 0) [0x3000, 0x10000, 8192, 0, 1, 0] = true ∧
    ((mapping 1 [0x3000, 0x10000, 8192, 0, 1, 0]).engine 0).taken base.clk 0 = some (engReq (.xten 1 [0x3000, 0x10000, 8192, 0, 1, 0])) ∧
    ((holding (post .posted none) (.xten 1 tensor)).engine 0).taken base.clk 0 = some (engReq (.xten 1 tensor)) ∧
    (holding (post .posted none) (.xten 1 tensor)).tensorBusy 0 1 = true := by decide +kernel

/-- Engine 0 has answered core 0's command 3. -/
def answered : State :=
  (engine (fun g => { g with answers := [(0, 3, 8, 100)] })).onMe (fun k => { k with waits := [⟨3, .x 5, .none⟩] })

theorem witness_EngineAnswered : ∃ g, answered.engines.find? (fun p => p.2.answers.any (fun a => decide (a.1 = 0) && decide (a.2.1 = 3))) = some (0, g) ∧
    g.answers.find? (fun a => decide (a.1 = 0) && decide (a.2.1 = 3)) = some (0, 3, 8, 100) ∧ 100 ≤ answered.clk ∧
    (answered.core 0).destsFor 3 = [.x 5] := ⟨_, rfl, by decide +kernel⟩

/-- A header on the wire of engine 0, from another chip. -/
def wired (number : Nat) (held : List MsgHeader) : State :=
  engine (fun g => { g with wire := [(100, { message 8 number [] with sender := 1, src := 2 })], held := held })

theorem witness_HeaderArrives :
    ((wired 0 []).engine 0).wire = [(100, { message 8 0 [] with sender := 1, src := 2 })] ∧
    ((wired 0 []).engine 0).firstHeader (wired 0 []).clk = some 0 ∧ 1 ≠ (wired 0 []).chip.toNat ∧
    0 = ((wired 0 []).engine 0).admits (0, 2, 1) ∧ ((wired 0 []).engine 0).held = [] ∧
    ((wired 1 []).engine 0).firstHeader (wired 1 []).clk = some 0 ∧ 1 ≠ ((wired 1 []).engine 0).admits (0, 2, 1) ∧
    ((wired 1 []).engine 0).held.length < 64 ∧
    ((wired 1 (List.replicate 64 (message 8 5 []))).engine 0).firstHeader (wired 1 []).clk = some 0 ∧
    1 ≠ ((wired 1 (List.replicate 64 (message 8 5 []))).engine 0).admits (0, 2, 1) ∧
    64 ≤ ((wired 1 (List.replicate 64 (message 8 5 []))).engine 0).held.length := by decide +kernel

/-- A message of this chip with its send. -/
def sending (f : Engine → Engine) : State :=
  { (engine f).modCl 0 (fun k => { k with slice := [(0, ⟨true, true, false⟩)] }) with
    sends := [⟨9, 0, 1, 0, 0x10000000000, message 8 0 [], 0, 0⟩] }

/-- Its header is on the wire. -/
def eager : State := sending (fun g => { g with wire := [(100, message 8 0 [])] })

theorem witness_EagerLeaves : ∃ x bs u, (eager.engine 0).wire = [(100, message 8 0 [])] ∧
    (eager.engine 0).firstHeader eager.clk = some 0 ∧ (message 8 0 []).sender = eager.chip.toNat ∧
    (message 8 0 []).len ≤ 4096 ∧ eager.sendOf 9 = some x ∧
    (eager.modEngine 0 (fun g => { g with wire := [] })).payload x 0 8 = (.ok bs, u) ∧ x.token < 8 ∧
    0 = (eager.engine 0).admits (0, 0, 1) ∧ (eager.engine 0).held = [] :=
  ⟨_, _, _, rfl, by decide +kernel, rfl, by decide, rfl, rfl, by decide, by decide +kernel, rfl⟩

/-- A header's decision is due. -/
def deciding (posted : List Nat) (share : Nat × Nat × Nat) (sender : Nat) : State :=
  engine (fun g => { g with deciding := [(100, .header { message 8 0 [] with sender := sender })], slots := [(0, post .posted none)],
                            posted := posted, shares := [(0, share)] })

theorem witness_HeaderDecided : (∀ c, c ∈ [0, 1] → ∀ p, p ∈ [[], [0]] → ∀ n, n ∈ [0, 4] →
      let s := deciding p (4, n, 65536) c
      let h : MsgHeader := { message 8 0 [] with sender := c }
      (s.engine 0).deciding = (100, .header h) :: [] ∧ 100 ≤ s.clk ∧ 0 = (s.engine 0).expects (0, 0, 1) ∧ (s.engine 0).held = [] ∧
      ((s.engine 0).posted.find? (fun n => s.fits ((s.engine 0).slot n).part ((s.engine 0).slot n).words h) = none ↔ p = []) ∧
      (s.unexpectedRoom 0 h = true ↔ n = 4) ∧ (h.sender = s.chip.toNat ↔ c = 0)) := by
  decide +kernel

/-- A refused header's back-off has ended. -/
def refused : State := engine (fun g => { g with refused := [(message 8 0 [], 1024, 100)] })

theorem witness_RefusedRetries : (refused.engine 0).refused[0]? = some (message 8 0 [], 1024, 100) ∧ 100 ≤ refused.clk ∧
    refused.rankChip 0 1 = some refused.chip.toNat ∧
    (∀ r, r ∈ (refused.engine 0).refused → (r.1.comm, r.1.src, r.1.dst) = (0, 0, 1) → 0 ≤ r.1.number) := by decide +kernel

/-- An 8-bit tensor of 5 by 3. -/
def plane : List Word := [0x13000, 0x10000000000, 0x0000000300000005, 0, 0x0000000800000001, 0]

theorem witness_TensorPositions : tensorRank plane = 2 ∧ tensorUnit plane = 1 ∧ tensorNibble plane = false ∧
    tensorExtent plane 0 = 5 ∧ tensorExtent plane 1 = 3 ∧ 14 < 5 * 3 := by decide +kernel

/-- Slot 0 of engine 0 as given; the cluster's slice may be written, or not. -/
def landing (p : Post) (rights : Bool) : State :=
  (sending (fun g => { g with slots := [(0, p)] })).modCl 0 (fun k => { k with slice := [(0, ⟨true, rights, false⟩)] })

/-- A landing or a payload's read that has failed. -/
def failed : Payload → Bool
  | .bad _ _ => true
  | _ => false

/-- A matched post whose eager message has eight bytes. -/
def eagerPost : Post := post .matched (some (message 8 0 [1, 2, 3, 4, 5, 6, 7, 8]))

theorem witness_EagerLands : ((landing eagerPost true).engine 0).slot 0 = eagerPost ∧
    eagerPost.msg = some (message 8 0 [1, 2, 3, 4, 5, 6, 7, 8]) ∧ eagerPost.state = .matched ∧ eagerPost.ready ≤ base.clk ∧
    ((landing eagerPost true).cl (clusterOf eagerPost.core)).frozen = false ∧ min 8 (postMax eagerPost.words) = 8 ∧
    ((landing eagerPost true).land 0 0 eagerPost [1, 2, 3, 4, 5, 6, 7, 8]).1 = .ok [1, 2, 3, 4, 5, 6, 7, 8] ∧
    ((landing eagerPost true).land 0 0 eagerPost [1, 2, 3, 4, 5, 6, 7, 8]).2.engines = (landing eagerPost true).engines ∧
    ((landing eagerPost false).engine 0).slot 0 = eagerPost ∧
    failed ((landing eagerPost false).land 0 0 eagerPost [1, 2, 3, 4, 5, 6, 7, 8]).1 = true ∧
    ((landing eagerPost false).land 0 0 eagerPost [1, 2, 3, 4, 5, 6, 7, 8]).2.engines = (landing eagerPost false).engines := by
  decide +kernel

/-- A rendezvous message of 5,000 bytes is pulled; `landed` bytes have landed. -/
def pulling (landed : Nat) (buf : List Byte) : Post :=
  { post .matched (some (message 5000 0 [])) with landed := landed, pulling := true, buf := buf }

/-- Its sender is chip 2, which has been reset since. -/
def pullingFar : Post := { post .matched (some { message 5000 0 [] with sender := 2, inc := 1 }) with pulling := true }

/-- Slot 0 of engine 0 pulls from chip 2, whose incarnation at port 3 is 2 now. -/
def pulledFar : State :=
  { landing pullingFar true with straits := [(3, { Strait.reset with peer := 2, pinc := 2, state := 3 })] }

theorem witness_PullAfterReset : (pulledFar.engine 0).slot 0 = pullingFar ∧
    pullingFar.msg = some { message 5000 0 [] with sender := 2, inc := 1 } ∧ pullingFar.state = .matched ∧ 4096 < 5000 ∧
    pullingFar.ready ≤ pulledFar.clk ∧ pullingFar.asked = false ∧ pullingFar.buf = [] ∧ pullingFar.pulling = true ∧
    (pulledFar.cl (clusterOf pullingFar.core)).frozen = false ∧ 2 ≠ pulledFar.chip.toNat ∧ pulledFar.incarnationOf 2 = some 2 := by
  decide +kernel

theorem witness_RendezvousPulls : (∀ n, n ∈ [0, 4999] → ((landing (pulling n []) true).engine 0).slot 0 = pulling n [] ∧
      (pulling n []).msg = some (message 5000 0 []) ∧ (pulling n []).state = .matched ∧ (pulling n []).asked = false ∧
      (pulling n []).buf = [] ∧ (pulling n []).pulling = true ∧ (pulling n []).ready ≤ base.clk ∧
      ((landing (pulling n []) true).cl 0).frozen = false ∧ (message 5000 0 []).sender = (landing (pulling n []) true).chip.toNat ∧
      (landing (pulling n []) true).sendOf 9 = some ⟨9, 0, 1, 0, 0x10000000000, message 8 0 [], 0, 0⟩) ∧
    min 4096 (min 5000 (postMax (pulling 4999 []).words) - 4999) = 1 ∧
    (let r := (landing (pulling 4999 []) true).payload ⟨9, 0, 1, 0, 0x10000000000, message 8 0 [], 0, 0⟩ 4999 1
     r.1 = .ok [0] ∧ r.2.engines = (landing (pulling 4999 []) true).engines ∧ r.2.sends = (landing (pulling 4999 []) true).sends ∧
       r.2.cores = (landing (pulling 4999 []) true).cores) ∧
    min 4096 (min 5000 (postMax (pulling 0 []).words) - 0) = 4096 := by decide +kernel

theorem witness_RoundLands : ((landing (pulling 4999 [7]) true).engine 0).slot 0 = pulling 4999 [7] ∧
    (pulling 4999 [7]).msg = some (message 5000 0 []) ∧ (pulling 4999 [7]).state = .matched ∧ (pulling 4999 [7]).buf ≠ [] ∧
    (pulling 4999 [7]).ready ≤ base.clk ∧ ((landing (pulling 4999 [7]) true).land 0 0 (pulling 4999 [7]) [7]).1 = .ok [7] ∧
    ((landing (pulling 4999 [7]) true).land 0 0 (pulling 4999 [7]) [7]).2.engines = (landing (pulling 4999 [7]) true).engines ∧
    (pulling 4999 [7]).landed + 1 = min 5000 (postMax (pulling 4999 [7]).words) ∧
    (pulling 4998 [7]).landed + 1 ≠ min 5000 (postMax (pulling 4998 [7]).words) ∧
    ((landing (pulling 4998 [7]) true).land 0 0 (pulling 4998 [7]) [7]).1 = .ok [7] ∧
    failed ((landing (pulling 4999 [7]) false).land 0 0 (pulling 4999 [7]) [7]).1 = true ∧
    ((landing (pulling 4999 [7]) false).land 0 0 (pulling 4999 [7]) [7]).2.engines = (landing (pulling 4999 [7]) false).engines := by
  decide +kernel

theorem witness_CompletionPushed :
    ((landing (post .completing (some (message 8 0 []))) true).engine 0).slot 0 = post .completing (some (message 8 0 [])) ∧
    ((landing (post .completing (some (message 8 0 []))) true).engine 0).oldest = some (0, post .completing (some (message 8 0 []))) ∧
    mget (landing (post .completing (some (message 8 0 []))) true).queues 6 = some { fifo (.core 0 0) [] [] with words := 4 } ∧
    postQueue (postWords 5000) = 6 ∧ ({ fifo (.core 0 0) [] [] with words := 4 } : Queue).fullFor = false ∧
    ({ fifo (.core 0 0) (List.replicate 16 (item [0, 0, 0, 0])) [] with words := 4 } : Queue).fullFor = true ∧
    ((landing (post .pushed (some (message 8 0 []))) true).engine 0).slot 0 = post .pushed (some (message 8 0 [])) ∧
    ({ fifo (.core 0 0) [] [] with words := 4 } : Queue).flight = [] ∧ ({ fifo (.core 0 0) [] [] with words := 4 } : Queue).relays = [] ∧
    mget ({ landing (post .pushed (some (message 8 0 []))) true with queues := [] } : State).queues 6 = none := by decide +kernel

/-! ### The mesh and the Strait -/

theorem witness_RoutesShorten : (0 : Nat) < 1024 ∧ 1023 < 1024 ∧ 0 ≠ 1023 := by decide

/-- A flit of an item at a router. -/
def flit (place since : Nat) : Flit := ⟨item [7], place, 4, 0, [0], since, false, 1, []⟩

/-- A queue of this class for core 1's port, with a flit. -/
def meshQueue (cls : Nat) (f : Flit) : Queue := { fifo (.core 8 0) [] [] with cls := cls, flight := [f] }

/-- Two queues have flits at router 0 that leave for router 1, one of them express. -/
def hops : State := { base with queues := [(6, meshQueue 0 (flit 0 90)), (7, meshQueue 1 (flit 0 91))] }

/-- Three express flits have just left by that link. -/
def hopsLate : State := { hops with linkUse := [(0 * 4 + ((nextHop 0 1).map (fun x => x.1)).getD 0, ⟨99, 3, 4, 5⟩)] }

/-- Two flits of one class and priority wait at two input ports, and the cluster's own was served last. -/
def hopsTied : State := { base with
    queues := [(6, meshQueue 0 (flit 0 90)), (7, meshQueue 0 { flit 0 91 with port := 3 })]
    linkUse := [(0 * 4 + ((nextHop 0 1).map (fun x => x.1)).getD 0, ⟨90, 0, 5, 4⟩)] }

theorem witness_HopOrder : ∃ d, nextHop 0 1 = some (d, 1) ∧ (hops.hopPick 0 d).map (fun y => y.1) = some 7 ∧
    hops.expressRun 0 d < 3 ∧ (hopsLate.hopPick 0 d).map (fun y => y.1) = some 6 ∧ 3 ≤ hopsLate.expressRun 0 d ∧
    (hopsTied.hopPick 0 d).map (fun y => (y.1, y.2.2.2.port)) = some (7, 3) ∧ (hopsTied.hopCandidates 0 d).length = 2 :=
  ⟨_, rfl, by decide +kernel⟩

theorem witness_FlitHops : ∃ d, hops.hopPick 0 d = some (7, 0, meshQueue 1 (flit 0 91), flit 0 91) ∧
    hops.asleep (meshQueue 1 (flit 0 91)) (flit 0 91) = [] ∧ (flit 0 91).branches = [0] ∧
    (meshQueue 1 (flit 0 91)).targets (flit 0 91) = [(0, 1)] ∧ nextHop (flit 0 91).place 1 = some (d, 1) :=
  ⟨((nextHop 0 1).map (fun x => x.1)).getD 0, by decide +kernel⟩

/-- A flit has reached the queue's consumer. -/
def here (q : Queue) : State := { base with queues := [(6, { q with flight := [flit 0 90] })] }

/-- The flit has arrived and may be accepted. -/
theorem arrivedOf (s : State) (q : Queue) (h : q.flight[0]? = some (flit 0 90) ∧ (∀ t, t ∈ q.targets (flit 0 90) → t.2 = 0) ∧
    q.mayMove s.clk 0 (flit 0 90) = true ∧ s.pushGate q (flit 0 90) = true ∧ (∀ c, c ∈ q.ends (flit 0 90) → s.takesFlits c = true) ∧
    q.farOf (flit 0 90) = none) :
    Claims.arrived s q 0 (flit 0 90) := ⟨h.1, h.2.1, by decide, h.2.2.1, h.2.2.2.1, h.2.2.2.2.1, h.2.2.2.2.2⟩

/-- An earlier item of the sequence is still to be taken by the branch. -/
def behind : Queue := { fifo (.core 0 0) [] [] with order := [(7, [0])] }

theorem witness_ItemAccepted :
    (∀ k, k ∈ [fifo (.core 0 0) [] [], fifo (.core 0 0) (List.replicate 16 (item [1])) [], behind] →
      ∃ q, mget (here k).queues 6 = some q ∧ Claims.arrived (here k) q 0 (flit 0 90) ∧ q.relays[0]? = none ∧ q.merge = false ∧
        q.branches[0]? = k.branches[0]? ∧ q.branchRoom 0 = k.branchRoom 0 ∧ q.inOrder (flit 0 90) = k.inOrder (flit 0 90)) ∧
    (flit 0 90).branches = [0] ∧ (fifo (.core 0 0) [] []).branchRoom 0 = true ∧ (fifo (.core 0 0) [] []).inOrder (flit 0 90) = true ∧
    (fifo (.core 0 0) (List.replicate 16 (item [1])) []).branchRoom 0 = false ∧ behind.inOrder (flit 0 90) = false ∧
    (flit 0 90).credit = false ∧ ({ flit 0 90 with credit := true } : Flit).credit = true ∧
    dropAt [flit 0 90] 0 ++ (here (fifo (.core 0 0) [] [])).queues.flatMap (fun p => p.2.beyond) = [] := by
  refine ⟨fun k hk => ?_, by decide +kernel⟩
  simp only [List.mem_cons, List.not_mem_nil, or_false] at hk
  rcases hk with rfl | rfl | rfl
  · exact ⟨_, rfl, arrivedOf _ _ (by decide +kernel), by decide +kernel⟩
  · exact ⟨_, rfl, arrivedOf _ _ (by decide +kernel), by decide +kernel⟩
  · exact ⟨_, rfl, arrivedOf _ _ (by decide +kernel), by decide +kernel⟩

theorem witness_RelayAndMergeAccept :
    (∀ l, l ∈ [[], List.replicate 16 (item [1])] →
      (∃ q, mget (here { fifo (.core 8 0) [] [] with relays := [(0, l)] }).queues 6 = some q ∧
        Claims.arrived (here { fifo (.core 8 0) [] [] with relays := [(0, l)] }) q 0 (flit 0 90) ∧ q.relays[0]? = some (0, l) ∧
        (2 ^ q.log2 ≤ l.length ↔ l ≠ [])) ∧
      (∃ q, mget (here { fifo (.core 0 0) [] [] with merge := true, mprod := [.service], subs := [l] }).queues 6 = some q ∧
        Claims.arrived (here { fifo (.core 0 0) [] [] with merge := true, mprod := [.service], subs := [l] }) q 0 (flit 0 90) ∧
        q.relays[0]? = none ∧ q.merge = true ∧ q.subOf (flit 0 90).elem.src = some 0 ∧ q.subs[0]? = some l ∧
        (2 ^ q.log2 ≤ l.length ↔ l ≠ []))) := by
  intro l hl
  simp only [List.mem_cons, List.not_mem_nil, or_false] at hl
  rcases hl with rfl | rfl
  · exact ⟨⟨_, rfl, arrivedOf _ _ (by decide +kernel), by decide +kernel⟩, ⟨_, rfl, arrivedOf _ _ (by decide +kernel), by decide +kernel⟩⟩
  · exact ⟨⟨_, rfl, arrivedOf _ _ (by decide +kernel), by decide +kernel⟩, ⟨_, rfl, arrivedOf _ _ (by decide +kernel), by decide +kernel⟩⟩

/-- A relay of cluster 0 holds an item. -/
def relayed (store : List Elem) : Queue := { fifo (.core 8 0) store [] with relays := [(0, [item [7]])] }

theorem witness_RelayForwards : (∀ l, l ∈ [[], List.replicate 16 (item [1])] → (relayed l).relays[0]? = some (0, [item [7]]) ∧
      (relayed l).relays[0 + 1]? = none ∧ (relayed l).merge = false ∧
      ({ base with queues := [(6, relayed l)] } : State).takesFlits 0 = true ∧
      ({ base with queues := [(6, relayed l)] } : State).branchesFor (relayed l) (item [7]) = [0]) ∧
    (relayed []).heldBy 0 + ((relayed []).flight.filter (fun f => decide (f.stage = 0 + 1) && f.branches.contains 0)).length <
      2 ^ (relayed []).log2 ∧
    2 ^ (relayed []).log2 ≤ (relayed (List.replicate 16 (item [1]))).heldBy 0 := by decide +kernel

theorem witness_CreditReturns : (∀ n, n ∈ [0, 4] →
      ({ fifo (.core 0 0) [] [(.core 8 1, n)] with returns := [.core 8 1] } : Queue).returns[0]? = some (.core 8 1) ∧
      ({ fifo (.core 0 0) [] [(.core 8 1, n)] with returns := [.core 8 1] } : Queue).credits.find? (fun x => decide (x.1 = .core 8 1)) =
        some (.core 8 1, n)) ∧
    ({ fifo (.core 0 0) [] [] with returns := [.core 8 1] } : Queue).returns[0]? = some (.core 8 1) ∧
    ({ fifo (.core 0 0) [] [] with returns := [.core 8 1] } : Queue).credits.find? (fun x => decide (x.1 = .core 8 1)) = none ∧
    6 < 65536 := by decide +kernel

/-- Four flits wait at router 1 at the side of router 0: its buffer for the queue there is full; a fifth stands at router 0. -/
def full : Queue :=
  { fifo (.core 16 0) [] [] with flight := [{ flit 1 90 with port := sideOf 3 }, { flit 1 90 with port := sideOf 3, seq := 2 },
      { flit 1 90 with port := sideOf 3, seq := 3 }, { flit 1 90 with port := sideOf 3, seq := 4 }, { flit 0 90 with seq := 5 }] }

theorem witness_FlitWaits : (flit 0 90).branches = [0] ∧ full.targets { flit 0 90 with seq := 5 } = [(0, 2)] ∧
    nextHop 0 2 = some (3, 1) ∧ full.there { flit 0 90 with seq := 5 } = false ∧ base.routerRoom = 4 ∧
    base.routerRoom ≤ (full.flight.filter (fun g => decide (g.place = 1) && decide (g.port = sideOf 3) &&
      !(full.there g && !full.inOrder g))).length := by decide +kernel

theorem witness_FullSignals : mget ({ base.modCl 0 (fun k => { k with sysq := some 9 }) with queues := [(9, fifo .service [] [])] } : State).queues 9 =
      some (fifo .service [] []) ∧
    (({ base.modCl 0 (fun k => { k with sysq := some 9 }) with queues := [(9, fifo .service [] [])] } : State).cl 0).sysq = some 9 := by
  decide +kernel

/-- A keyed merge with these sub-queues. -/
def merging (subs : List (List Elem)) : Queue := { fifo (.core 0 0) [] [] with merge := true, subs := subs }

theorem witness_KeyedMerge : (merging [[item [3, 1]], [item [3, 2]], [item [BitVec.allOnes 64]]]).merge = true ∧
    ((merging [[item [3, 1]], [item [3, 2]], [item [BitVec.allOnes 64]]]).subs.all (fun l => l.all (fun e => !e.marker && !e.words.isEmpty))) = true ∧
    [] ∉ (merging [[item [3, 1]], [item [3, 2]], [item [BitVec.allOnes 64]]]).subs ∧
    (merging [[item [3, 1]], [item [3, 2]], [item [BitVec.allOnes 64]]]).subs[0]? = some (item [3, 1] :: []) ∧
    Claims.keyOf (item [3, 1]) ≠ 2 ^ 64 - 1 ∧ Claims.keyOf (item [3, 1]) = Claims.keyOf (item [3, 2]) ∧
    Claims.keyOf (item [3, 1]) < Claims.keyOf (item [BitVec.allOnes 64]) ∧ Claims.keyOf (item [BitVec.allOnes 64]) = 2 ^ 64 - 1 ∧
    (merging [[item [BitVec.allOnes 64]], [item [BitVec.allOnes 64]]]).subs ≠ [] ∧
    ([] : List Elem) ∈ (merging [[item [3, 1]], []]).subs ∧ (fifo (.core 0 0) [item [7]] []).merge = false ∧
    (fifo (.core 0 0) [item [7]] []).branches[0]? = some ⟨.core 0 0, 0, item [7] :: [], 0, 0⟩ ∧ (item [7]).released = true ∧
    ({ item [7] with released := false } : Elem).released = false := by decide +kernel

/-- A Strait flit from chip 1 for this chip or another. -/
def strait (dst cls : Nat) (body : FlitBody) : StraitFlit := ⟨dst, 1, 2, 0, cls, 0, 0, body⟩

/-- Port 0 is up, its peer chip 1 in incarnation 2, with these flits to send. -/
def ported (egress : List StraitFlit) (run gap : Nat) : State :=
  { (inPort []) with straits := [(0, ⟨1, 2, 4, 3, 0, 0, egress, run, gap, 0⟩)] }

/-- A credit flit of each class. -/
def mixed : List StraitFlit := [strait 1 0 (.credit 5), strait 1 1 (.credit 5), strait 1 2 (.credit 5)]

theorem witness_SlotOrder : (∀ p, p ∈ [((0, 0), 1), ((2, 6), 1), ((3, 0), 0), ((3, 6), 0), ((0, 7), 2), ((3, 7), 2)] →
    ((ported mixed p.1.1 p.1.2).strait 0).pick (fun _ => true) = some p.2 ∧
    ((ported mixed p.1.1 p.1.2).strait 0).egress[p.2]? = mixed[p.2]?) := by decide +kernel

theorem witness_SlotSends : (∀ f, f ∈ [strait 1 0 (.request (request .load)), strait 1 1 (.credit 5), strait 1 2 (.item 5 [7] false)] →
      ((ported [f] 0 0).strait 0).state = 3 ∧
      ((ported [f] 0 0).strait 0).pick (fun f' => !(ported [f] 0 0).waitsToForm f') = some 0 ∧
      ((ported [f] 0 0).strait 0).egress[0]? = some f ∧
      (∀ g, g ∈ ((ported [f] 0 0).strait 0).egress → (ported [f] 0 0).waitsToForm g = false)) ∧
    ((ported [] 0 0).strait 3).state ≠ 3 := by
  decide +kernel

theorem witness_FlitsEnter : ((ported [] 0 0).strait 0).state = 3 ∧ (ported [] 0 0).incarnationOf 1 = some 2 ∧
    (strait 0 0 (.credit 5)).srcChip = 1 ∧ (strait 0 0 (.credit 5)).inc = 2 ∧
    ({ strait 0 0 (.credit 5) with inc := 3 } : StraitFlit).inc ≠ 2 ∧ (strait 2 0 (.credit 5)).dstChip ≠ (ported [] 0 0).chip.toNat ∧
    (strait 0 0 (.request (request .load))).dstChip = (ported [] 0 0).chip.toNat ∧
    (strait 0 0 (.item 5 [7] false)).body = .item 5 [7] false ∧ mget (ported [] 0 0).queues 5 = some (fifo (.core 0 0) [] []) ∧
    (strait 0 0 (.item 9 [7] false)).body = .item 9 [7] false ∧ mget (ported [] 0 0).queues 9 = none := by
  decide +kernel

theorem witness_PortJoins : (∀ t, t ∈ base.straits → t.2.joined = true → t.2.peer ≠ 1) ∧ Claims.nothingWaits base 0 ∧
    base.journal.state = 0 := by unfold Claims.nothingWaits; decide +kernel

theorem witness_PortGoesDown : ((ported [] 0 0).strait 0).egress = [] ∧ Claims.nothingWaits (ported [] 0 0) 0 ∧
    (ported [] 0 0).sends = [] ∧ ∀ c, c ∈ (ported [] 0 0).cores → c.2.copies = [] := by unfold Claims.nothingWaits; decide +kernel

/-! ### The journal unit -/

/-- A record of one word of sequence 5, as it leaves the core. -/
def recWords : List Word := [0x50001, 0, 0, 0]

/-- Core 0 has sent a record to the unit. -/
def recorded (slots : FMap (List Word)) : State :=
  { base.onMe (fun k => { k with recs := [⟨3, recWords, 0x10000, none, 90⟩] }) with
    rings := [(0, { JRing.reset with slots := slots })] }

/-- The append buffer is full. -/
def bufferFull : State :=
  { recorded [] with journal := { Journal.reset with buffer := List.replicate 4096 (1, recWords) } }

theorem witness_RecordAppended :
    (∀ slots : FMap (List Word), slots ∈ [([] : FMap (List Word)), [(1, recWords)]] →
      ((recorded slots).core 0).recs = [⟨3, recWords, 0x10000, none, 90⟩] ∧ 90 + 1 ≤ (recorded slots).clk ∧
      (recorded slots).journal.buffer.length < 4096 ∧ (recorded slots).journal.last + 1 = 1 ∧
      (recorded slots).journal.unwritten = [] ∧
      (recorded slots).replayOf ((recorded slots).partOf 0) (recSeq (recWords ++ [0])) = none) ∧
    ((recorded []).ring 0).freeSlot (1 % 2 ^ 25) = true ∧ ((recorded [(1, recWords)]).ring 0).freeSlot (1 % 2 ^ 25) = false ∧
    (bufferFull.core 0).recs = [⟨3, recWords, 0x10000, none, 90⟩] ∧ 90 + 1 ≤ bufferFull.clk ∧
    4096 ≤ bufferFull.journal.buffer.length := by
  decide +kernel

/-- Sequence 5 is replayed from slot 0 of ring 15. -/
def replaying (w : List Word) : State :=
  { recorded [] with
    rings := [(0, JRing.reset), (15, { JRing.reset with slots := [(0, w)] })]
    replays := [(0, ⟨5, 0, true, 1, 0⟩)] }

theorem witness_RecordReplayed : ((replaying recWords).core 0).recs = [⟨3, recWords, 0x10000, none, 90⟩] ∧
    90 + 1 ≤ (replaying recWords).clk ∧ (replaying recWords).journal.buffer.length < 4096 ∧
    (replaying recWords).replayOf ((replaying recWords).partOf 0) (recSeq (recWords ++ [BitVec.ofNat 64 ((replaying recWords).partOf 0)])) =
      some (0, ⟨5, 0, true, 1, 0⟩) ∧
    (mgetD ((replaying recWords).ring 15).slots 0 []).take 4 = recWords ∧
    (mgetD ((replaying [1]).ring 15).slots 0 []).take 4 ≠ recWords := by decide +kernel

/-- An answer for core 0 is due. -/
def answerDue (div : Option Word) : State :=
  base.onMe (fun k => { k with recAns := [(3, 1, 100, div)], waits := [⟨3, .x 5, .none⟩] })

theorem witness_RecordAnswered :
    ((answerDue none).core 0).recAns.find? (fun a => decide (a.1 = 3)) = some (3, 1, 100, none) ∧ 100 ≤ (answerDue none).clk ∧
    ((answerDue none).core 0).destsFor 3 = [.x 5] ∧ (base.core 0).diverged = none ∧
    ((answerDue (some 0x10000)).core 0).recAns.find? (fun a => decide (a.1 = 3)) = some (3, 1, 100, some 0x10000) ∧
    ((answerDue (some 0x10000)).core 0).waits.find? (fun w => decide (w.id = 3)) = some ⟨3, .x 5, .none⟩ := by decide +kernel

/-- The unit is paired with chip 1 and has two records to send; ring 1 is the copy of chip 1, with a record arrived. -/
def paired (slots : FMap (List Word)) : State :=
  { base with
    journal := { Journal.reset with partner := 1, pInc := 2, state := 1, last := 2, buffer := [(1, recWords ++ [0]), (2, recWords ++ [0])] }
    rings := [(1, { JRing.reset with chip := 1, valid := true, slots := slots, arrived := [(1, recWords)], wrote := 0, ackd := 0 })] }

/-- The second record is of another partition. -/
def mixedParts : State :=
  { paired [] with journal := { (paired []).journal with buffer := [(1, recWords ++ [0]), (2, recWords ++ [1])] } }

theorem witness_RecordsShipped : (paired []).journal.state = 1 ∧ (paired []).journal.truncs = [] ∧
    (paired []).journal.buffer.find? (fun p => decide ((paired []).journal.sent < p.1)) = some (1, recWords ++ [0]) ∧
    (paired []).journal.buffer.find? (fun p => decide (p.1 = 1 + 1) && decide (recPart p.2 = recPart (recWords ++ [0]))) =
      some (1 + 1, recWords ++ [0]) ∧
    mixedParts.journal.state = 1 ∧ mixedParts.journal.truncs = [] ∧
    mixedParts.journal.buffer.find? (fun p => decide (mixedParts.journal.sent < p.1)) = some (1, recWords ++ [0]) ∧
    mixedParts.journal.buffer.find? (fun p => decide (p.1 = 1 + 1) && decide (recPart p.2 = recPart (recWords ++ [0]))) = none ∧
    ((paired []).ring 1).arrived = [(1, recWords)] ∧ ((paired []).ring 1).wrote < 1 ∧ (recWords.getD 0 0).toNat % 256 ≠ 0 ∧
    ((paired []).ring 1).freeSlot (1 % 2 ^ 25) = true ∧ ((paired [(1, recWords)]).ring 1).freeSlot (1 % 2 ^ 25) = false ∧
    ((after (.partnerRecordWrite 1) (paired [])).ring 1).ackd < ((after (.partnerRecordWrite 1) (paired [])).ring 1).wrote ∧
    ((paired []).ring 1).wrote ≤ ((paired []).ring 1).ackd := by decide +kernel

theorem witness_Acknowledged : (paired []).journal.state = 1 ∧ (paired []).journal.last < 3 ∧ 2 ≤ (paired []).journal.last ∧
    (paired []).journal.acked ≤ 2 ∧ (((paired []).onMe (fun k => { k with jsyncs := [(4, 2, 1)], k := [(1, 1)] })).core 0).jsyncs = [(4, 2, 1)] := by
  decide +kernel

theorem witness_Acknowledged_covered : (∀ j, j ∈ [0, 1] →
    ((base.onMe (fun k => { k with jsyncs := [(4, j, 1)], k := [(1, 1)] })).core 0).jsyncs = [(4, j, 1)] ∧
    ((base.onMe (fun k => { k with jsyncs := [(4, j, 1)], k := [(1, 1)] })).core 0).copyOf 4 = none ∧
    (base.onMe (fun k => { k with jsyncs := [(4, j, 1)], k := [(1, 1)] })).awakeAt 0 = true) ∧ base.journal.acked = 0 := by decide +kernel

/-- A guarded queue holds an unreleased item with stamp 2. -/
def guarded : Queue := { fifo (.core 0 0) [item [1], { item [7] with stamp := 2, released := false }] [] with cls := 2 }

theorem witness_GuardedReleased : mget ({ base with queues := [(6, guarded)] } : State).queues 6 = some guarded ∧
    guarded.branches[0]? = some ⟨.core 0 0, 0, [item [1], { item [7] with stamp := 2, released := false }], 0, 0⟩ ∧
    [item [1], { item [7] with stamp := 2, released := false }][1]? = some { item [7] with stamp := 2, released := false } := by
  decide +kernel

/-- Core 0 has sent the unit a truncation. -/
def truncating : State := base.onMe (fun k => { k with recs := [⟨3, [], 0, some (5, 2 ^ 64 - 1), 90⟩] })

theorem witness_Truncated : (truncating.core 0).recs = [⟨3, [], 0, some (5, 2 ^ 64 - 1), 90⟩] ∧ 90 + 1 ≤ truncating.clk ∧
    (let s : State := { base with journal := { Journal.reset with truncs := [(5, 2 ^ 64 - 1, 0, 0)] } }
     s.journal.truncs = [(5, 2 ^ 64 - 1, 0, 0)] ∧ s.journal.state = 0 ∧ s.journal.unwritten = []) := by
  decide +kernel

theorem witness_Partners : ({ paired [] with clk := 65536 } : State).journal.state = 1 ∧
    ({ paired [] with clk := 65536 } : State).chipDown 1 (2 ^ 16) = true ∧ (paired []).chipDown 1 (2 ^ 16) = false ∧
    base.journal.state = 0 ∧ ((paired []).ring 1).valid = true := by decide +kernel

theorem witness_ReplayOpens : firstFree (fun i => (mgetD (inPort []).replays i Replay.reset).valid) 4096 0 = some 0 ∧
    mget (inPort []).queues 5 = some (fifo (.core 0 0) [] []) ∧ [recWords].length ≤ 2 ^ 25 ∧ (∀ w, w ∈ [recWords] → w.length = 4) := by
  decide +kernel

/-! ### The host ports -/

/-- Client 4 of partition 0: it may read, write, push and return credits in one 64 KiB page; one transaction at a time. -/
def client : ClientEntry := ⟨BitVec.ofNat 64 (4 * 2 ^ 48 + 2 ^ 39 + 0xf * 2 ^ 35), 0x100000000000⟩

/-- Port 0 is ready and knows the client. -/
def hosted : State :=
  { paged 0x10000f with
    ready := 0x100ff00
    hosts := [(0, { HostPort.reset with clients := [(0, client)] })]
    queues := [(5, { fifo (.client 4) [] [(.client 4, 1)] with entryQ := true, named := [4], branches := [⟨.client 4, 0, [item [7]], 3, 1⟩] })] }

/-- A transaction of the client. -/
def tx (kind : Nat) : HostTx := ⟨4, false, kind, false, false, 1, 0, 0x100000000000, 5, 2, [1, 2], [true, true]⟩

theorem witness_HostChecks : (hosted.host 0).entryOf 4 = some client ∧ (hosted.host 0).entryOf 5 = none ∧
    (hosted.host 0).malformed (tx 1) client 1 = false ∧ (hosted.host 0).malformed (tx 1) client 2 = true ∧ client.allows 1 = true ∧
    ({ client with w0 := 0 } : ClientEntry).allows 1 = false ∧ (tx 1).inc = hosted.inc.toNat ∧
    ({ tx 1 with inc := 1 } : HostTx).inc ≠ hosted.inc.toNat ∧ ((hosted.host 0).outstanding 4).length < client.share ∧
    client.share ≤ (({ hosted.host 0 with waiting := [tx 3] } : HostPort).outstanding 4).length := by decide +kernel

/-- The transaction reaches this key. -/
def reaches (key : Nat) : HostKey → Bool
  | .at k _ => decide (k = key)
  | _ => false

/-- The port has the client's page without any right. -/
def closedPage : State :=
  { hosted with hosts := [(0, { HostPort.reset with clients := [(0, client)], tlb := [⟨0, 16, 0x10000000, 0x100000, false, false, false, true⟩] })] }

theorem witness_HostAccesses : hosted.hostOpen 0 = true ∧ hosted.hostStatus 0 { tx 1 with client := 5 } 1 ≠ 0 ∧
    (Claims.goesAtOnce hosted 0 (tx 1) ∧ (tx 1).kind = 1 ∧ hosted.hostStatus 0 (tx 1) 1 = 0) ∧ (hosted.host 0).entryOf 4 = some client ∧
    reaches 0x100000 (hosted.hostKey 0 client.part (tx 1).addr false) = true ∧ hosted.shownHolds none false 0x100000 2 = false ∧
    hosted.isPoisoned 0x100000 2 = false ∧ ({ hosted with poison := [0x100000 / 32] } : State).isPoisoned 0x100000 2 = true ∧
    (Claims.goesAtOnce hosted 0 (tx 2) ∧ (tx 2).kind = 2 ∧ hosted.hostStatus 0 (tx 2) 2 = 0) ∧
    reaches 0x100000 (hosted.hostKey 0 client.part (tx 2).addr true) = true ∧ hosted.shownHolds none true 0x100000 2 = false ∧
    hosted.memOk ∧ (tx 2).enables = List.replicate (tx 2).len true ∧ (tx 2).data.length = (tx 2).len ∧
    (∀ k, k ∈ [1, 2] → Claims.goesAtOnce closedPage 0 (tx k) ∧ (tx k).kind = k ∧ closedPage.hostStatus 0 (tx k) k = 0 ∧
      (closedPage.host 0).entryOf 4 = some client ∧ closedPage.hostKey 0 client.part (tx k).addr (decide (k = 2)) = .refused) ∧
    true ∈ (tx 2).enables.take (tx 2).len := by
  unfold Claims.goesAtOnce; decide +kernel

/-- The client's push waits. -/
def pushWaits : State := hosted.modHost 0 (fun h => { h with waiting := [tx 3] })

theorem witness_HostOrders : hosted.hostOpen 0 = true ∧ hosted.hostStatus 0 (tx 3) 3 = 0 ∧ (tx 3).kind = 3 ∧
    (Claims.goesAtOnce hosted 0 (tx 5) ∧ hosted.hostStatus 0 (tx 5) 5 = 0 ∧ (tx 5).kind = 5) ∧
    (Claims.goesAtOnce hosted 0 (tx 4) ∧ hosted.hostStatus 0 (tx 4) 4 = 0 ∧ (tx 4).kind = 4) ∧
    (mget hosted.queues 5).bind (fun q => q.clientBranch 4) = some 0 ∧
    (mget hosted.queues 5).bind (fun q => q.branches[0]?) = some ⟨.client 4, 0, [item [7]], 3, 1⟩ ∧ 1 + (tx 4).len ≤ 3 ∧
    (pushWaits.host 0).waiting = [tx 3] ∧ (pushWaits.host 0).pushed = [] ∧ (pushWaits.host 0).tails = [] ∧
    (mget pushWaits.queues 5).map (fun q => decide (0 < q.creditsOf (.client 4))) = some true := by
  unfold Claims.goesAtOnce; decide +kernel

theorem witness_ClientDelivered : ∃ q n h, mget hosted.queues 5 = some q ∧ q.branches[0]? = some ⟨.client 4, 0, item [7] :: [], 3, 1⟩ ∧
    (item [7]).marker = false ∧ q.cls ≠ 2 ∧
    hosted.hosts.find? (fun h => h.2.clients.any (fun c =>
      decide (bitsAt c.2.w0.toNat 48 16 = 4) && decide (bitsAt c.2.w0.toNat 39 1 = 1) && decide (bitsAt c.2.w0.toNat 37 1 = 1))) =
      some (n, h) := ⟨_, _, _, rfl, by decide +kernel, by decide, by decide, rfl⟩

/-! ### The scheduler -/

/-- Core 0 is idle, and handler 1 of its role takes the items of queue 5. -/
def triggered (l : List RunEntry) : State :=
  { (base.modCore 0 (fun k => { k with mode := .idle, act := none, triggers := [⟨1, 5, 64⟩], runq := l })) with
    queues := [(5, fifo (.core 0 0) [item [7, 8]] [])] }

/-- A run-queue entry of a task that joined at this clk. -/
def taskEntry (time base : Nat) : RunEntry := ⟨.task 0, time, base, 3, 0⟩

/-- An express entry. -/
def expressEntry (time : Nat) : RunEntry := ⟨.trigger 1 5 64 true, time, 4, 3, 1⟩

/-- The trigger queue is a keyed merge that has closed. -/
def closedTrigger : State :=
  { triggered [] with queues := [(5, { fifo (.core 0 0) [] [] with merge := true, mprod := [.service], subs := [[item [BitVec.allOnes 64]]] })] }

theorem witness_EntryForms : (∀ n, n ∈ [59, 60, 64] →
    ((triggered (List.replicate n (taskEntry 90 3))).core 0).triggers.find? (fun g => decide (g.handler = 1)) = some ⟨1, 5, 64⟩ ∧
    mget (triggered (List.replicate n (taskEntry 90 3))).queues 5 = some (fifo (.core 0 0) [item [7, 8]] []) ∧
    (triggered (List.replicate n (taskEntry 90 3))).headFor 5 0 = .item [7, 8] ∧
    ((triggered (List.replicate n (taskEntry 90 3))).core 0).triggerWaits 1 = false ∧
    ((triggered (List.replicate n (taskEntry 90 3))).cl 0).awake = true) ∧ (59 : Nat) < 60 ∧ (fifo (.core 0 0) [item [7, 8]] []).cls ≠ 1 ∧
    closedTrigger.headFor 5 0 = .closed ∧ (closedTrigger.core 0).triggerWaits 1 = false := by
  decide +kernel

theorem witness_EntryOrder : bestEntry Cluster.reset 100 [taskEntry 90 3, expressEntry 95] = some (1, expressEntry 95) ∧
    bestEntry Cluster.reset 100 [taskEntry 90 3, taskEntry 80 3, taskEntry 70 2] = some (1, taskEntry 80 3) ∧
    (expressEntry 95).isExpress = true ∧ (taskEntry 80 3).isExpress = false := by decide +kernel

theorem witness_Ageing : Cluster.reset.yagei ≠ 0 ∧ ({ Cluster.reset with yagei := 0 } : Cluster).yagei = 0 := by decide +kernel

theorem witness_Selects : (triggered [taskEntry 90 3, expressEntry 95]).maySelect 0 = true ∧
    bestEntry ((triggered [taskEntry 90 3, expressEntry 95]).cl 0) 100 ((triggered [taskEntry 90 3, expressEntry 95]).core 0).runq =
      some (1, expressEntry 95) ∧
    bestEntry ((triggered [taskEntry 90 3]).cl 0) 100 ((triggered [taskEntry 90 3]).core 0).runq = some (0, taskEntry 90 3) ∧
    ((triggered [taskEntry 90 3]).core 0).resumed = [] ∧ (∀ e, e ∈ [taskEntry 90 3] → e.isExpress = false) ∧ (triggered [taskEntry 90 3]).maySelect 0 = true ∧
    (((triggered [taskEntry 90 3]).modCore 0 (fun k => { k with resumed := [(0, 90)] })).core 0).resumed = (0, 90) :: [] ∧
    ((triggered [taskEntry 90 3]).modCore 0 (fun k => { k with resumed := [(0, 90)] })).maySelect 0 = true ∧
    (taskEntry 90 3).isExpress = false := by decide +kernel

/-- Core 0 starts an entry at clk 101. -/
def starting (e : RunEntry) (n : Option Nat) : State :=
  (triggered []).modCore 0 (fun k => { k with mode := .starting e 3 101, act := n })

theorem witness_TriggerStarts : ((starting (expressEntry 90) none).core 0).mode = .starting (expressEntry 90) 3 101 ∧
    (expressEntry 90).kind = .trigger 1 5 64 true ∧ 101 ≤ (starting (expressEntry 90) none).clk + 1 ∧
    ((starting (expressEntry 90) none).cl 0).awake = true ∧ (starting (expressEntry 90) none).headFor 5 0 = .item [7, 8] ∧
    ((starting (expressEntry 90) none).cl 0).freeAct = some 1 ∧ [(7 : Word), 8].length ≤ 8 ∧
    ({ starting (expressEntry 90) none with queues := closedTrigger.queues } : State).headFor 5 0 = .closed := by decide +kernel

/-- Core 0 starts a task that must see an access of core 0. -/
def tasked (outstanding : Bool) : State :=
  ((starting (taskEntry 90 3) none).setAct 0 0 { placedAct with args := [1, 2], gate := (0, [9]) }).modCore 0 (fun k => { k with
    mem := if outstanding then [⟨9, .store [[1]], [(localKey 0 0, 0)], 1, none, none, none, none, 0, 0x10000, [0x10000]⟩] else [] })

/-- Its core still takes on its role. -/
def roling : State := (tasked false).modCore 0 (fun k => { k with roleCopy := some ⟨1, [], 0, [(0, 64)]⟩ })

theorem witness_TaskStarts : ((tasked true).core 0).mode = .starting (taskEntry 90 3) 3 101 ∧ (taskEntry 90 3).kind = .task 0 ∧
    101 ≤ (tasked true).clk + 1 ∧ ((tasked true).cl 0).awake = true ∧ [(1 : Word), 2].length ≤ 8 ∧
    (tasked true).act? 0 0 = some { placedAct with args := [1, 2], gate := (0, [9]) } ∧ (tasked true).gateOpen .cl (0, [9]) = false ∧
    ((tasked false).core 0).mode = .starting (taskEntry 90 3) 3 101 ∧ (tasked false).gateOpen .cl (0, [9]) = true ∧
    ((tasked false).core 0).roleCopy = none ∧ (roling.core 0).mode = .starting (taskEntry 90 3) 3 101 ∧
    (roling.core 0).roleCopy ≠ none := by decide +kernel

/-- A frame in slot 0 of the cactus stack, and a fault frame. -/
def aFrame : Frame := ⟨false, 0, [], [], [], [], false, none, false, 90, []⟩

def faultFrame : Frame := { aFrame with fault := true }

/-- A continuation's run-queue entry. -/
def contEntry : RunEntry := ⟨.cont 0, 90, 3, 1, 0⟩

/-- Activation 0 is suspended on this core with a frame. -/
def suspended (s : State) (p : ActPlace) (children : Nat) : State :=
  s.setAct 0 0 { placedAct with place := p, frame := some aFrame, children := children }

/-- It waits with a fault frame. -/
def faultSuspended (s : State) : State := s.setAct 0 0 { placedAct with place := .queued 0, frame := some faultFrame }

theorem witness_ContinuationStarts : (∀ p, p ∈ [ActPlace.queued 0, .resumed 0 [1, 2, 3, 4, 5, 6, 7, 8]] →
    ((suspended (starting contEntry (some 0)) p 0).core 0).mode = .starting contEntry 3 101 ∧
    contEntry.kind = .cont 0 ∧ 101 ≤ (suspended (starting contEntry (some 0)) p 0).clk + 1 ∧
    ((suspended (starting contEntry (some 0)) p 0).cl 0).awake = true ∧
    (suspended (starting contEntry (some 0)) p 0).act? 0 0 = some { placedAct with place := p, frame := some aFrame }) ∧
    aFrame.endOnly = false ∧ aFrame.fault = false ∧
    ((faultSuspended (starting contEntry (some 0))).core 0).mode = .starting contEntry 3 101 ∧
    (faultSuspended (starting contEntry (some 0))).act? 0 0 = some { placedAct with place := .queued 0, frame := some faultFrame } ∧
    faultFrame.endOnly = false ∧ faultFrame.fault = true := by decide +kernel

/-- Every core of the cluster has 64 entries. -/
def fullRunqs (s : State) : State :=
  (List.range 8).foldl (fun s c => s.modCore c (fun k => { k with runq := List.replicate 64 (taskEntry 90 3) })) s

/-- The core that takes the continuation of activation 0 up. -/
def contCore (s : State) : Option Nat :=
  s.fewest 0 (fun c => decide ((s.core c).role = placedAct.role) && decide ((s.core c).runq.length < 64))

theorem witness_ContinuationReady : (∀ n, n ∈ [0, 1] →
      (suspended (triggered []) .waitChildren n).act? 0 0 = some { placedAct with place := .waitChildren, frame := some aFrame, children := n } ∧
      ((suspended (triggered []) .waitChildren n).cl 0).awake = true) ∧ clusterOf 0 = 0 ∧
    aFrame.savedAt < (suspended (triggered []) .waitChildren 0).clk ∧
    contCore (suspended (triggered []) .waitChildren 0) = some 0 ∧
    ((suspended (triggered []) .waitChildren 0).cl 0).olderReady 0 { placedAct with place := .waitChildren, frame := some aFrame } 100 = false ∧
    (suspended (triggered []) (.ready 99 none) 0).act? 0 0 = some { placedAct with place := .ready 99 none, frame := some aFrame } ∧
    ((suspended (triggered []) (.ready 99 none) 0).cl 0).olderReady 0 { placedAct with place := .ready 99 none, frame := some aFrame } 99 = false ∧
    ((suspended (triggered []) (.ready 99 none) 0).setAct 0 1 { placedAct with place := .ready 98 none } |>.cl 0).olderReady 0
      { placedAct with place := .ready 99 none, frame := some aFrame } 99 = true ∧
    contCore (fullRunqs (suspended (triggered []) (.ready 99 none) 0)) = none ∧
    ({ suspended (triggered []) .waitChildren 0 with clk := 90 } : State).clk ≤ aFrame.savedAt := by decide +kernel

theorem witness_InlineReturns :
    (suspended (triggered []) (.inlineDone 0 6) 0).inlineDue 0 =
      some (0, { placedAct with place := .inlineDone 0 6, frame := some aFrame }, 6) ∧
    (suspended (triggered []) (.inlineDone 0 6) 0).memOk ∧ aFrame.bytes = [] ∧
    (suspended (triggered []) (.inlineDone 0 6) 0).isIdle 0 = true ∧
    ((suspended (triggered []) (.inlineDone 0 6) 0).cl 0).awake = true ∧ (1 ≤ 6 ∧ 6 < 24) := by decide +kernel

/-- A crew of core 0. -/
def aCrew : Crew := ⟨1, 0x10040, [1, 2], 3, (0, 0), 1, none, []⟩

/-- It stands in the cluster's slot. -/
def withCrew (s : State) : State := s.modCl 0 (fun k => { k with crew := some aCrew })

/-- The core that the crew waits for still takes on its role. -/
def crewRoling : State := withCrew ((triggered []).modCore 0 (fun k => { k with roleCopy := some ⟨1, [], 0, [(0, 64)]⟩ }))

theorem witness_CrewStarts : (∀ s, s ∈ [withCrew (triggered []), withCrew base, crewRoling] → (s.cl 0).crew = some aCrew ∧
      aCrew.span = none ∧ maskCores 0 aCrew.mask = [0] ∧ (s.core 0).role = some aCrew.role ∧ (s.cl 0).freeAct = some 1 ∧
      (s.cl 0).awake = true) ∧
    (withCrew (triggered [])).isIdle 0 = true ∧ ((withCrew (triggered [])).core 0).roleCopy = none ∧
    (withCrew (triggered [])).gateOpen .cl (aCrew.issuer, aCrew.gate) = true ∧
    (withCrew base).isIdle 0 = false ∧ (crewRoling.core 0).roleCopy ≠ none := by decide +kernel

/-- Core 8 of cluster 1 asks cluster 0 for an activation of role 0. -/
def actAsked (answer : Option Nat) : State :=
  { triggered [] with actReqs := [⟨8, 3, 0, 0x40, [], 3, (0, 0), 99, answer, []⟩] }

theorem witness_RequestsAnswered : ∃ r st t, (actAsked none).actReqs[0]? = some r ∧ r.answer = none ∧ r.at_ ≤ (actAsked none).clk ∧
    ((actAsked none).cl r.cluster).awake = true ∧
    (actAsked none).actAt r.core r.cluster r.role (ActWord.ofWord r.word)
      (((ActWord.ofWord r.word).new r.args ((ActWord.ofWord r.word).base r.prio ((actAsked none).cl r.cluster).yceil) r.core r.role r.gate).act none)
      5 (clusterOf r.core) = (st, t) :=
  ⟨_, _, _, rfl, rfl, by decide +kernel, by decide +kernel, rfl⟩

theorem witness_RequestsAnswered_back :
    (((actAsked (some 0)).modCore 8 (fun k => { k with waits := [⟨3, .x 5, .none⟩] })).actReqs.find?
      (fun r => decide (r.core = 8) && decide (r.id = 3))) = some ⟨8, 3, 0, 0x40, [], 3, (0, 0), 99, some 0, []⟩ ∧
    99 < (actAsked (some 0)).clk ∧
    (((actAsked (some 0)).modCore 8 (fun k => { k with waits := [⟨3, .x 5, .none⟩] })).core 8).destsFor 3 = [.x 5] := by decide +kernel

/-! ### Barriers, spans and calls -/

/-- Barrier 2 of two members is complete; so many have arrived since. -/
def phased (a doneAt : Nat) : State := base.modCl 0 (fun k => { k with bars := [(2, ⟨2, a, [1], [3], some doneAt⟩)] })

theorem witness_BarrierReleases : (∀ a, a ∈ [1, 2] → ∀ d, d ∈ [99, 100] → ((phased a d).cl 0).awake = true ∧
    mget ((phased a d).cl 0).bars 2 = some ⟨2, a, [1], [3], some d⟩ ∧ (phased a d).clk = 100) := by decide +kernel

/-- A member's arrival and a release are on their way. -/
def spanBars (a : Nat) : State :=
  { spanning with
    spans := [(0, ⟨0, 0, 0, 1, 2, 1, 0x10000, [], 0, (0, 0), 0, 0, [0, 1], true, true, 2, [(4, ⟨2, a, [0], [], none⟩)], [(4, [])],
      [(4, 8, 99)], [(4, 0, 99)]⟩)] }

theorem witness_SpanBarriers : (∀ a, a ∈ [0, 1] → ∃ sp, mget (spanBars a).spans 0 = some sp ∧ sp.inFlight[0]? = some (4, 8, 99) ∧
    99 ≤ (spanBars a).clk ∧ (spanBars a).awakeAt 8 = true ∧ mgetD sp.bars 4 Barrier.reset = ⟨2, a, [0], [], none⟩ ∧
    sp.releases[0]? = some (4, 0, 99) ∧ (spanBars a).awakeAt 0 = true ∧ 0 ∉ mgetD sp.counted 4 [] ∧
    ∀ x, x ∈ sp.inFlight → ¬ (x.1 = 4 ∧ x.2.1 = 0)) := by
  intro a ha
  simp only [List.mem_cons, List.not_mem_nil, or_false] at ha
  rcases ha with rfl | rfl
  · exact ⟨_, rfl, by decide +kernel⟩
  · exact ⟨_, rfl, by decide +kernel⟩

theorem witness_ResumedOrder : (∀ p, p ∈ [(2, 99), (3, 100)] → p.2 ≤ 100) ∧
    [(2, 99), (3, 100)].Pairwise (fun p q => p.2 < q.2 ∨ (p.2 = q.2 ∧ p.1 ≤ q.1)) := by decide

/-- Activation 0 is a member that waits in its call. -/
def memberCalls : State := base.modCore 0 (fun k => { k with mode := .memberCall 0 })

theorem witness_Completions : ((1 : Word) <<< 14 >>> 14 &&& 0xffff).toNat ≠ (base.cl 0).gen ∧
    base.act? 0 5 = none ∧ (((5 : Word) <<< 30 >>> 14) &&& 0xffff).toNat = (base.cl 0).gen ∧
    ((((5 : Word) <<< 30) >>> 30) &&& 0xffff).toNat = 5 ∧
    (((0 : Word) >>> 14) &&& 0xffff).toNat = ((suspended base (.inCall 0) 0).cl 0).gen ∧ ((0 : Word) &&& 0x3fff).toNat = 0 ∧
    (∀ c, c ∈ [0, 1] → (suspended base (.inCall c) 0).act? 0 0 = some { placedAct with place := .inCall c, frame := some aFrame }) ∧
    memberCalls.act? 0 0 = some placedAct ∧ placedAct.place = .running 0 ∧ (memberCalls.core 0).mode = .memberCall 0 := by decide +kernel

/-- Activation 0 waits to call; the system-call queue is queue 9. -/
def calling : State :=
  let s := (suspended (triggered []) (.parkedCall 0) 0).modCl 0 (fun k => { k with callers := [0], sysq := some 9 })
  { s with queues := [(9, fifo .service [] [(callParty 0, 1)])] }

theorem witness_CallerResumes : (calling.cl 0).callers = 0 :: [] ∧
    calling.act? 0 0 = some { placedAct with place := .parkedCall 0, frame := some aFrame } ∧ calling.canCall 0 = true ∧
    clusterOf 0 = 0 ∧ (calling.cl 0).awake = true ∧ (calling.cl 0).sysq = some 9 := by decide +kernel

/-- A caller of activation 0 asks for a span over the two clusters of its region: core 0 of each, entry 0x40. -/
def spanCall (x11 : Word) : State :=
  let s := (suspended (triggered []) (.inCall 0) 0).modCl 0 (fun k => { k with cols1 := 1 })
  { s with queues := [(9, fifo .service [item [0x0100, x11, 0x40, 0, 0, 0, 0, 0]] [])], ready := 0xff10 }

/-- Did the allocator take the call? -/
def taken (e : Except Nat Span) : Option Nat := match e with | .ok _ => none | .error n => some n

theorem taken_none (e : Except Nat Span) (h : taken e = none) : ∃ sp, e = .ok sp := by
  cases e with
  | ok sp => exact ⟨sp, rfl⟩
  | error n => cases h

theorem taken_some (e : Except Nat Span) (n : Nat) (h : taken e = some n) : e = .error n := by
  cases e with
  | ok sp => cases h
  | error m => exact congrArg _ (Option.some.inj h)

theorem witness_SpansForm :
    (∃ q ws, mget (spanCall 0x100400).queues 9 = some q ∧ q.headAt 0 = .item ws ∧ (ws.getD 0 0).toNat % 65536 = 0x0100 ∧
      (spanCall 0x100400).ready.getLsbD 4 = true ∧ ∃ sp, (spanCall 0x100400).askSpan ws = .ok sp) ∧
    (∃ q ws, mget (spanCall 0x100c00).queues 9 = some q ∧ q.headAt 0 = .item ws ∧ (ws.getD 0 0).toNat % 65536 = 0x0100 ∧
      (spanCall 0x100c00).ready.getLsbD 4 = true ∧ (spanCall 0x100c00).askSpan ws = .error 1) ∧
    (∀ t, t ∈ [100, 101] → ({ base with calls := [(t, [0, 0, 0, 0, 0, 0, 0, 0])] } : State).calls[0]? = some (t, [0, 0, 0, 0, 0, 0, 0, 0])) ∧
    base.clk = 100 :=
  ⟨⟨_, _, rfl, rfl, by decide +kernel, by decide +kernel, taken_none _ (by decide +kernel)⟩,
    ⟨_, _, rfl, rfl, by decide +kernel, by decide +kernel, taken_some _ _ (by decide +kernel)⟩, by decide +kernel, rfl⟩

/-- A span over clusters 0 and 1 claims its clusters. -/
def claiming (claimed : List Nat) (placed : Bool) : State :=
  { triggered [] with
    spans := [(0, ⟨0, 0, 0, 1, 2, 1, 0x10000, [], 0, (0, 0), 0, 0, claimed, placed, false, 0, [], [], [], []⟩)] }

/-- Every member core holds the span's role; core 8's copy of it may be under way. -/
def spanRoles (copying : Bool) : State :=
  (claiming [0, 1] false).modCore 8 (fun k => { k with
    role := some (0, 0), roleCopy := if copying then some ⟨0, [], 0, [(0, 64)]⟩ else none })

theorem witness_SpansForm_claims : (∀ s, s ∈ [claiming [] false, withCrew (claiming [] false)] → ∃ sp, mget s.spans 0 = some sp ∧
      sp.placed = false ∧ sp.clusters.find? (fun c => !sp.claimed.contains c) = some 0) ∧
    ((claiming [] false).cl 0).crew = none ∧ ((claiming [] false).cl 0).span = none ∧ ((claiming [] false).cl 0).awake = true ∧
    ((withCrew (claiming [] false)).cl 0).crew ≠ none := by
  refine ⟨?_, by decide +kernel, by decide +kernel, by decide +kernel, by decide +kernel⟩
  intro s hs
  simp only [List.mem_cons, List.not_mem_nil, or_false] at hs
  rcases hs with rfl | rfl
  · exact ⟨_, rfl, by decide +kernel⟩
  · exact ⟨_, rfl, by decide +kernel⟩

theorem witness_SpansForm_places :
    (∀ s, s ∈ [claiming [0, 1] false, spanRoles true, spanRoles false] → ∃ sp, mget s.spans 0 = some sp ∧ sp.placed = false ∧
      (∀ c, c ∈ sp.clusters → c ∈ sp.claimed) ∧
      (∀ c, c ∈ sp.clusters → (s.cl c).awake = true ∧ ∀ i, i ∈ maskCores c sp.mask → s.isIdle i = true) ∧
      sp.clusters.flatMap (fun c => maskCores c sp.mask) = [0, 8]) ∧
    ((claiming [0, 1] false).core 8).role = none ∧
    (∀ i, i ∈ [0, 8] → ((spanRoles true).core i).role ≠ none) ∧ ((spanRoles true).core 8).roleCopy ≠ none ∧
    (∀ i, i ∈ [0, 8] → ((spanRoles false).core i).role ≠ none ∧ ((spanRoles false).core i).roleCopy = none) := by
  refine ⟨?_, by decide +kernel⟩
  intro s hs
  simp only [List.mem_cons, List.not_mem_nil, or_false] at hs
  rcases hs with rfl | rfl | rfl
  · exact ⟨_, rfl, by decide +kernel⟩
  · exact ⟨_, rfl, by decide +kernel⟩
  · exact ⟨_, rfl, by decide +kernel⟩

theorem witness_SpansForm_starts : ∃ sp, mget (claiming [0, 1] true).spans 0 = some sp ∧ sp.placed = true ∧ sp.started = false ∧
    ∀ c, c ∈ sp.clusters → (claiming [0, 1] true).spanStarted c sp.mask = true := ⟨_, rfl, by decide +kernel⟩

/-! ### Loading and replacing programs -/

/-- The least container (01 R13-R25): role 0 with one handler and one word of code, on core 0 of one cluster; queue 3 with four slots of one
word, which triggers it; a boot tree without edges; a signature section by key 9. -/
def container : List InstrWord :=
  [0x014d4947, 1, 5, 208, 0x0101, 0, 7, 0] ++
    [1, 112, 44, 64, 2, 156, 12, 0, 3, 168, 36, 0, 5, 204, 4, 0, 7, 208, 3328, 0] ++
    [0x00010100, 0, 0, 0, 0, 0, 0, 0, 0, 3, 0x84000000] ++ [1, 0, 1] ++ [1, 0x80003, 0x1000, 0x2000, 0, 0, 0, 0, 0] ++ [0] ++
    [1, 9, 0, 3309] ++ List.replicate 828 0

/-- A request to load it at the origin. -/
def loadReq (ws : List InstrWord) : LoadReq := ⟨ws, 0, 0, 0, [], [], [], [], 1, [0], 7, 0⟩

/-- A chip with partition 0 and image key 9, ready. -/
def readyChip (bits : Word) : State :=
  { State.reset with
    ready := bits
    keys := [(1, ⟨1, 9, [5]⟩)]
    parts := [(0, ⟨0, 0, 1, 1, 0, 0, 16, 31, 0, none, [], false, []⟩)] }

/-- Everything that a load at the origin needs is ready. -/
def loadable : State := readyChip 0x100000018

/-- The signature section of the container. -/
theorem container_signature : ofType (sections container) 7 = [⟨7, 0, 208, 3328, 0, 0⟩] := by decide +kernel

/-- What the primitive is asked. -/
def verdict : Bool :=
  Config.mldsaVerify [5] (Config.sha3 (bytesOf32 (container.take 52))) ((bytesOf32 (((Section.mk 7 0 208 3328 0 0).words container).drop 4)).take 3309)

/-- The form of a container's signature section, whose words are `g`. -/
def signForm (ws g : List InstrWord) (c : Section) : Bool :=
  decide (c.off = wordAt ws 3) && decide (c.off % 4 = 0) && decide (c.off + c.len = 4 * ws.length) && decide (c.len = 3328) &&
    decide (wordAt g 0 = 1) && decide (wordAt g 3 = 3309) && ((bytesOf32 (g.drop 4)).drop 3309).all (fun b => decide (b = 0))

theorem signed_of (s : State) (ws : List InstrWord) (c : Section) (k : List Byte) (hc : ofType (sections ws) 7 = [c])
    (h : s.imageKey (wordAt (c.words ws) 1 + wordAt (c.words ws) 2 * 2 ^ 32) = some k) (e : signForm ws (c.words ws) c = true) :
    s.signatureOk ws = Config.mldsaVerify k (Config.sha3 (bytesOf32 (ws.take (c.off / 4)))) ((bytesOf32 ((c.words ws).drop 4)).take 3309) := by
  unfold State.signatureOk
  unfold signForm at e
  rw [hc]
  simp only [e, h, Bool.true_and]

theorem container_form : signForm container ((Section.mk 7 0 208 3328 0 0).words container) ⟨7, 0, 208, 3328, 0, 0⟩ = true := by decide +kernel

theorem container_signed (s : State) (h : s.imageKey (wordAt ((Section.mk 7 0 208 3328 0 0).words container) 1 +
    wordAt ((Section.mk 7 0 208 3328 0 0).words container) 2 * 2 ^ 32) = some [5]) : s.signatureOk container = verdict :=
  signed_of s _ _ _ container_signature h container_form

theorem loadable_signed : loadable.signatureOk container = verdict := container_signed _ (by decide +kernel)

theorem witness_LoadRefused : ((readyChip 0x10).ready.getLsbD 3 = false) ∧ loadable.ready.getLsbD 3 = true ∧ loadable.ready.getLsbD 4 = true ∧
    headerOk [0x014d4947] = false ∧ headerOk [0x014d4947, 1, 1, 48, 0x0101, 0, 7, 0, 5, 48, 0, 0] = true ∧
    loadable.signatureOk [0x014d4947, 1, 1, 48, 0x0101, 0, 7, 0, 5, 48, 0, 0] = false ∧
    (readyChip 0x10).loadStatus (loadReq container) = 14 := by decide +kernel

theorem witness_LoadBegins (h : verdict = true) : loadable.loadStatus (loadReq container) = 0 ∧
    loadable.part? (loadReq container).part = some ⟨0, 0, 1, 1, 0, 0, 16, 31, 0, none, [], false, []⟩ := by
  refine ⟨?_, by decide +kernel⟩
  unfold State.loadStatus
  dsimp only
  rw [show (loadReq container).words = container from rfl, loadable_signed, h]
  decide +kernel

/-- A container whose signature is in order and whose directory names a section of type 0x20. -/
def misfit : List InstrWord :=
  [0x014d4947, 1, 2, 64, 0x0101, 0, 7, 0] ++ [0x20, 64, 0, 0, 7, 64, 3328, 0] ++ [1, 9, 0, 3309] ++ List.replicate 828 0

theorem misfit_signature : ofType (sections misfit) 7 = [⟨7, 0, 64, 3328, 0, 0⟩] := by decide +kernel

theorem witness_LoadRefused_directory (h : ∀ k d g, Config.mldsaVerify k d g = true) : headerOk misfit = true ∧
    loadable.signatureOk misfit = true ∧ directoryOk misfit = false := by
  refine ⟨by decide +kernel, ?_, by decide +kernel⟩
  rw [signed_of loadable misfit ⟨7, 0, 64, 3328, 0, 0⟩ [5] misfit_signature (by decide +kernel) (by decide +kernel), h]

/-- A program over clusters 0 and 1, whose root has one forwarder, core 0, in this phase. -/
def phasedProg (ph : ProgPhase) (blocks : List (Nat × Nat × Nat)) : Program :=
  let m : Image := { image with cols := 2, edges := [(0, 1, 0)], place := [(0, 0, 1, 2, 0, 1)] }
  ⟨m, 0, [], ph, blocks, [], [], some m, none, 100, 50, []⟩

/-- It is on the chip; core 0 runs an activation or not. -/
def progState (ph : ProgPhase) (blocks : List (Nat × Nat × Nat)) (s : State) : State :=
  let t := (s.modCl 0 (fun k => { k with region := some 0, cols1 := 1 })).modCl 1 (fun k => { k with region := some 0, cols1 := 1 })
  { t with progs := [(0, phasedProg ph blocks)] }

/-- Core 0 has nothing to do. -/
def resting : State := base.modCore 0 (fun k => { k with mode := .idle, act := none })

theorem witness_BlockMoves : (∀ s, s ∈ [resting, base] → ∀ ph, ph ∈ [ProgPhase.loading, .staging] →
      Claims.holds (progState ph [(0, 0x100, 0)] s) 0 (phasedProg ph [(0, 0x100, 0)]) ∧
      ((progState ph [(0, 0x100, 0)] s).cl 0).awake = true ∧ (phasedProg ph [(0, 0x100, 0)]).blocks[0]? = some (0, 0x100, 0) ∧
      (phasedProg ph [(0, 0x100, 0)]).phase = ph ∧
      (phasedProg ph [(0, 0x100, 0)]).incoming.onward (offsetIn 0 0) (0x100 % 256) = [(0, 1, 0)]) ∧
    ((progState .loading [(0, 0x100, 0)] resting).core (8 * 0 + 0)).act = none ∧
    ((progState .loading [(0, 0x100, 0)] base).core (8 * 0 + 0)).act ≠ none := by
  unfold Claims.holds; decide +kernel

/-- All cores of the two clusters but core 0 have reported, acknowledged and, under a cut, sent their report. -/
def others (s : State) : State :=
  ((List.range 16).drop 1).foldl (fun s c => s.modCore c (fun k => { k with
    reported := true, acked := true, cutState := some ⟨[], [], [], 0, 0, true⟩ })) s

theorem witness_LiveComes : (∀ s, s ∈ [resting, others resting] → ∀ ph, ph ∈ [ProgPhase.loading, .starting, .committing, .staging] →
      (progState ph [] s).progOf 0 = some (0, phasedProg ph []) ∧ (progState ph [] s).awakeAt 0 = true ∧ (phasedProg ph []).phase = ph ∧
      ((progState ph [] s).core 0).reported = false ∧ ((progState ph [] s).core 0).acked = false ∧
      (phasedProg ph []).waitsBlock 0 (clusterOf 0) = false ∧ 0 ∈ (phasedProg ph []).cores 0) ∧
    (∀ c, c ∈ (phasedProg .loading []).cores 0 → c ≠ 0 → ((progState .loading [] (others resting)).core c).reported = true ∧
      ((progState .loading [] (others resting)).core c).acked = true) ∧
    1 ∈ (phasedProg .loading []).cores 0 ∧ ((progState .loading [] resting).core 1).reported = false ∧
    ((progState .loading [] resting).core 1).acked = false := by decide +kernel

theorem witness_ProgramEnds : (∀ ph, ph ∈ [ProgPhase.loading, .starting, .committing, .live, .staging, .cutting] →
    Claims.holds (progState ph [] resting) 0 (phasedProg ph []) ∧ (phasedProg ph []).phase = ph) := by
  unfold Claims.holds; decide +kernel

/-- The program whose replacement is asked for. -/
def replaced : Program := ⟨imageOf container, 0, [(3, 0)], .live, [], [], [], none, none, 0, 0, []⟩

/-- It runs at the origin. -/
def replaceable : State := { loadable.modCl 0 (fun k => { k with region := some 0 }) with progs := [(0, replaced)] }

theorem witness_ReplacementStages (h : verdict = true) : Claims.holds replaceable 0 replaced ∧
    replaceable.replaceStatus (loadReq container) = 0 := by
  refine ⟨rfl, ?_⟩
  unfold State.replaceStatus
  dsimp only
  rw [show (loadReq container).words = container from rfl, container_signed replaceable (by decide +kernel), h]
  decide +kernel

theorem witness_ReplacementStages_refused : Claims.holds { replaceable with ready := 0 } 0 replaced ∧
    ({ replaceable with ready := 0 } : State).replaceStatus (loadReq container) = 14 := ⟨rfl, by decide +kernel⟩

/-- Core 0 is under a cut and awaits this many markers at queue 5, which shows one. -/
def marked (awaited : Nat) (store : List Elem) : State :=
  { (resting.modCore 0 (fun k => { k with cut := true, cutState := some ⟨[⟨5, awaited, 0⟩], [], [], 0, 0, false⟩ })) with
    queues := [(5, fifo (.core 0 0) store [])] }

theorem witness_MarkersCount : (∀ n, n ∈ [0, 1, 2] → ∀ l, l ∈ [[mark], []] → (marked n l).awakeAt 0 = true ∧
      ((marked n l).core 0).cutState = some ⟨[⟨5, n, 0⟩], [], [], 0, 0, false⟩ ∧
      ([⟨5, n, 0⟩] : List CutInput).find? (fun i => decide (i.queue = 5)) = some ⟨5, n, 0⟩) ∧
    (marked 2 [mark]).markedFor 5 0 = true ∧ (marked 2 []).markedFor 5 0 = false := by decide +kernel

/-- Core 0 is under a cut of the program over two clusters. -/
def cutting (seen : Nat) (outs : List Nat) (reported : Bool) (s : State) : State :=
  { progState .cutting [] (s.modCore 0 (fun k => { k with cut := true, cutState := some ⟨[⟨5, 1, seen⟩], outs, [], 0, 2, reported⟩ })) with
    queues := [(6, fifo (.core 1 0) [] [(.core 0 1, 4)]), (7, fifo (.core 1 0) [] [(.core 0 1, 0)]), (8, fifo (.client 4) [] [(.core 0 1, 0)])] }

theorem witness_CutReports : (∀ s, s ∈ [cutting 1 [] false resting, cutting 1 [] true resting, cutting 0 [] false resting,
        cutting 1 [] false (others resting)] →
      s.progOf 0 = some (0, phasedProg .cutting []) ∧ s.awakeAt 0 = true) ∧
    ((cutting 1 [] true resting).core 0).cutState = some ⟨[⟨5, 1, 1⟩], [], [], 0, 2, true⟩ ∧
    ((cutting 0 [] false resting).core 0).cutState = some ⟨[⟨5, 1, 0⟩], [], [], 0, 2, false⟩ ∧
    ((cutting 1 [] false resting).core 0).cutState = some ⟨[⟨5, 1, 1⟩], [], [], 0, 2, false⟩ ∧
    (⟨[⟨5, 1, 1⟩], [], [], 0, 2, false⟩ : Cut).toMark = [] ∧
    (cutting 1 [] false resting).cutQuiet 0 = true ∧ (cutting 1 [] false resting).cutDrained 0 = true ∧
    (cutting 1 [] false base).cutQuiet 0 = false ∧
    (cutting 1 [] false (resting.modCore 0 (fun k => k.setK 1 1))).cutDrained 0 = false ∧
    (phasedProg .cutting []).phase = .cutting ∧ 1 ∈ (phasedProg .cutting []).cores 0 ∧ ((cutting 1 [] false resting).core 1).cutDone = false ∧
    (phasedProg .cutting []).next = some (phasedProg .cutting []).image ∧
    (∀ c, c ∈ (phasedProg .cutting []).cores 0 → c ≠ 0 → ((cutting 1 [] false (others resting)).core c).cutDone = true) ∧
    (cutting 1 [] false (others resting)).cutQuiet 0 = true ∧ (cutting 1 [] false (others resting)).cutDrained 0 = true := by decide +kernel

theorem witness_CutReports_markers : ∀ p, p ∈ [((6, true), true), ((7, true), false), ((8, false), false)] →
    ((cutting 1 [p.1.1] false resting).core 0).cutState = some ⟨[⟨5, 1, 1⟩], [p.1.1], [], 0, 2, false⟩ ∧
    (⟨[⟨5, 1, 1⟩], [p.1.1], [], 0, 2, false⟩ : Cut).toMark = p.1.1 :: [] ∧
    (cutting 1 [p.1.1] false resting).cutQuiet 0 = true ∧ (cutting 1 [p.1.1] false resting).cutDrained 0 = true ∧
    (mget (cutting 1 [p.1.1] false resting).queues p.1.1).map (fun q =>
      ((cutting 1 [p.1.1] false resting).inRegion 0 q, q.markable 0)) = some (p.1.2, p.2) := by decide +kernel

/-- A keyed merge whose sub-queues show a marker and none. -/
def markedMerge : State := { base with queues := [(5, merging [[mark], [item [1]]])] }

theorem witness_CutEnds : Claims.holds (cutting 0 [] false resting) 0 (phasedProg .cutting []) ∧ (phasedProg .cutting []).phase = .cutting ∧
    (phasedProg .cutting []).cutAt + (phasedProg .cutting []).timeout ≤ ({ cutting 0 [] false resting with clk := 150 } : State).clk ∧
    ((cutting 0 [] false resting).cl 0).frozen = false ∧
    (cutting 0 [] false resting).clk < (phasedProg .cutting []).cutAt + (phasedProg .cutting []).timeout ∧
    Claims.holds (progState .live [] resting) 0 (phasedProg .live []) ∧ (phasedProg .live []).phase ≠ .staging ∧
    Claims.holds (progState .staging [] resting) 0 (phasedProg .staging []) ∧ (phasedProg .staging []).phase = .staging ∧
    (∃ q, mget (marked 0 [mark]).queues 5 = some q ∧ q.merge = false ∧ q.branches[0]? = some ⟨.core 0 0, 0, mark :: [], 0, 0⟩) ∧
    (∃ q, mget markedMerge.queues 5 = some q ∧ q.merge = true) := by
  refine ⟨rfl, by decide +kernel, by decide +kernel, by decide +kernel, by decide +kernel, rfl, by decide +kernel, rfl, by decide +kernel,
    ⟨_, rfl, by decide +kernel⟩, _, rfl, by decide +kernel⟩

/-! ### The fault service -/

/-- A fault of core 0 at 0x10020. -/
def aRaise : Raise := ⟨.operandRange, 4, 0x10020, true, false, 0x84000000, 0⟩

/-- Entry 3 of cluster 0's fault buffer holds activation 0 of core 0. -/
def faultParked (inPlace written : Bool) (s : State) : State :=
  s.modCl 0 (fun k => { k with faults := [(3, ⟨true, inPlace, 9, 0, 0, 0, aRaise, written, 0⟩)] })

/-- Core 0 saves its frame, done at clk d, or waits for a result of a vector load before. -/
def savingFrame (d : Nat) (waits : List Wait) : State :=
  faultParked false false (base.modCore 0 (fun k => { k with mode := .saving 3 d, waits := waits }))

theorem witness_FrameWritten : (∀ d, d ∈ [0, 100, 101] → ∀ w, w ∈ [[], [(⟨9, .v 1, .none⟩ : Wait)]] →
      ((savingFrame d w).core 0).mode = .saving 3 d ∧ (savingFrame d w).awakeAt 0 = true ∧ (savingFrame d w).memOk ∧
      ((savingFrame d w).core 0).act = some 0 ∧ (savingFrame d w).act? (clusterOf 0) 0 = some placedAct) ∧
    (savingFrame 0 []).clk = 100 ∧ ((savingFrame 0 []).core 0).settled = true ∧
    ((savingFrame 0 [⟨9, .v 1, .none⟩]).core 0).settled = false := by
  decide +kernel

/-- The entry's fault is a breakpoint. -/
def breakParked : State :=
  base.modCl 0 (fun k => { k with faults := [(3, ⟨true, true, 9, 0, 0, 0, { aRaise with cause := .breakpoint }, false, 0⟩)] })

theorem witness_ActionsInPlace : ((faultParked true false base).cl 0).entry 3 = ⟨true, true, 9, 0, 0, 0, aRaise, false, 0⟩ ∧
    ((faultParked true false base).cl 0).frozen = false ∧ aRaise.cause ≠ .breakpoint ∧ (9 : Nat) ≠ 8 ∧
    (faultParked true false base).act? 0 0 = some placedAct ∧ clusterOf 0 = 0 ∧ placedAct.parent = none ∧
    ((faultParked true false base).core 0).portPending = false ∧
    (breakParked.cl 0).entry 3 = ⟨true, true, 9, 0, 0, 0, { aRaise with cause := .breakpoint }, false, 0⟩ ∧
    (breakParked.cl 0).frozen = false := by decide +kernel

/-- The activation's frame is written; core 0 holds so many run-queue entries. -/
def savedFault (written : Bool) (n : Nat) : State :=
  (faultParked false written (progState .live [] ((suspended resting (.faultSaved 0 3) 0).setAct 0 0 { placedAct with
    place := .faultSaved 0 3, frame := some { faultFrame with slot := 3 } }))).modCore 0
    (fun k => { k with runq := List.replicate n ⟨.task 9, 90, 3, 3, 0⟩ })

theorem witness_ActionsSaved : (∀ n, n ∈ [63, 64] → ∀ w, w ∈ [true, false] →
      ((savedFault w n).cl 0).entry 3 = ⟨true, false, 9, 0, 0, 0, aRaise, w, 0⟩ ∧
      ((savedFault w n).cl 0).frozen = false ∧ ((savedFault w n).act? 0 0).map (fun a => (a.parent, a.frame)) =
        some (none, some { faultFrame with slot := 3 }) ∧ (savedFault w n).memOk ∧ ((savedFault w n).core 0).runq.length = n ∧
      ((savedFault w n).cl 0).region = some 0 ∧ Claims.holds (savedFault w n) 0 (phasedProg .live [])) ∧
    ({ faultFrame with slot := 3 } : Frame).fault = true ∧ ({ faultFrame with slot := 3 } : Frame).bytes = [] ∧
    aRaise.cause ≠ .breakpoint := by
  unfold Claims.holds; decide +kernel

/-- Core 0 holds in place without an entry since clk 50. -/
def heldInPlace : State := base.modCore 0 (fun k => { k with mode := .holding aRaise 50 })

theorem witness_EntryHandedOver : (heldInPlace.cl 0).frozen = false ∧ heldInPlace.waitingAction 0 = none ∧
    heldInPlace.longestHeld 0 = some (0, aRaise, 50) ∧ (heldInPlace.cl 0).freeEntry = some 0 ∧ clusterOf 0 = 0 := by decide +kernel

/-! ### Freezes and gating -/

/-- The program over two clusters is live, and a freeze of partition 0 is in progress. -/
def freezing (f : List (Nat × Freeze)) (fr : Bool) : State :=
  let s := (progState .live [] resting).modCl 0 (fun k => { k with frozen := fr })
  { s.modCl 1 (fun k => { k with frozen := fr }) with freezes := f }

/-- The value of its register. -/
def freezeValue : Word := 0x8000000001020000

theorem witness_FreezeSetsOut : Claims.freezeFields freezeValue 0 1 2 ∧ freezeValue.getLsbD 63 = true ∧
    Claims.holds (freezing [] false) 0 (phasedProg .live []) ∧ (phasedProg .live []).part = 0 ∧ (phasedProg .live []).image.rows = 1 ∧
    (phasedProg .live []).image.cols = 2 ∧ mget (freezing [] false).freezes 0 = none ∧ mget base.progs 0 = none := by
  unfold Claims.holds Claims.freezeFields; decide +kernel

theorem witness_FreezeSetsOut_layout : ¬ ∃ o r c, Claims.freezeFields 0 o r c := by
  rintro ⟨o, r, c, h⟩
  have h3 : (0 : Word).toNat / 2 ^ 16 % 2 ^ 8 = c := h.2.2.1
  have : 1 ≤ c := h.2.2.2.2.2.2.2.1
  simp at h3
  omega

theorem witness_WaveArrives : (∀ t, t ∈ [96, 97] → mget (freezing [(0, ⟨freezeValue, t, false, false⟩)] false).freezes 0 =
      some ⟨freezeValue, t, false, false⟩) ∧ Claims.freezeFields freezeValue 0 1 2 ∧ 0 % 32 + 2 ≤ 32 ∧ 0 < 1 ∧ 1 < 2 ∧
    96 + 2 + 2 * (0 + 1) ≤ (freezing [] false).clk ∧ (freezing [] false).clk < 97 + 2 + 2 * (0 + 1) ∧
    ((freezing [] false).cl 1).frozen = false ∧ ((freezing [] true).cl 1).frozen = true ∧ ((freezing [] false).cl 1).power = .running ∧
    (((freezing [] false).modCl 1 (fun k => { k with power := .powerGated })).cl 1).power = .powerGated := by
  unfold Claims.freezeFields; decide +kernel

theorem witness_DrainAndReadout : (∀ d, d ∈ [false, true] → mget (freezing [(0, ⟨freezeValue, 50, d, false⟩)] true).freezes 0 =
      some ⟨freezeValue, 50, d, false⟩) ∧ (freezing [(0, ⟨freezeValue, 50, false, false⟩)] true).regionDrained freezeValue = true ∧
    ((freezing [] false).cl (0 + 32 * 0 + 1)).frozen = false := by decide +kernel

/-- The image of the region at cluster 0. -/
def frozenImage : FrozenImage :=
  ⟨1, 2, 0, [(0, Core.reset)], [(0, { Cluster.reset with gen := 5, region := some 0, frozen := true })], [], [], some (phasedProg .live []), [], 0⟩

/-- The region's image has been read out. -/
def restorable : State :=
  { freezing [(0, ⟨freezeValue, 50, true, true⟩)] true with
    images := [(0, frozenImage)], parts := [(0, ⟨0, 0, 2, 4, 0, 0, 16, 31, 0, none, [], false, []⟩)] }

theorem witness_RestoreMoves : Memory.wf restorable.mem = true ∧ mget restorable.images 0 = some frozenImage ∧
    mget restorable.freezes 0 = some ⟨freezeValue, 50, true, true⟩ ∧ Claims.freezeFields freezeValue 0 1 2 ∧ frozenImage.origin = 0 ∧
    frozenImage.rows = 1 ∧ frozenImage.cols = 2 ∧ (0x01020002 : Word).getLsbD 63 = false ∧ Claims.freezeFields 0x01020002 2 1 2 ∧
    restorable.mayRestore 0 0x01020002 frozenImage = true := by
  unfold Claims.freezeFields; decide +kernel

theorem witness_Gating : (resting.cl 0).power = .running ∧ (resting.cl 0).frozen = false ∧ (resting.modCl 0 (fun k => { k with acts := [] })).clusterIdle 0 = true ∧
    (∀ p, p ∈ [Power.clockGated, .powerGated, .waking 100, .waking 101] → ((resting.modCl 0 (fun k => { k with power := p })).cl 0).power = p) ∧
    (∀ r, r ∈ [0, 1, 2] → ((resting.modCl 0 (fun k => { k with acts := [], request := r })).cl 0).request = r) ∧
    (base.core (8 * 0 + 0)).act ≠ none ∧ ((base.modCl 0 (fun k => { k with crew := some ⟨1, 0x10040, [1, 2], 3, (0, 0), 1, none, []⟩ })).cl 0).crew ≠ none := by
  decide +kernel

theorem witness_FirmwareReplaced :
    (∀ l, l ∈ [[], [mark], [item [7], mark]] → mget ({ base with queues := [(9, fifo .service l [])] } : State).queues 9 = some (fifo .service l [])) ∧
    (fifo .service [] []).hasMarker = false ∧ (fifo .service [mark] []).merge = false ∧
    (fifo .service [mark] []).branches = ⟨.service, 0, mark :: [], 0, 0⟩ :: [] ∧ mark.marker = true ∧ mark.released = true ∧
    (fifo .service [item [7], mark] []).hasMarker = true ∧
    (fifo .service [item [7], mark] []).branches = ⟨.service, 0, item [7] :: [mark], 0, 0⟩ :: [] ∧ (item [7]).marker = false := by decide +kernel

/-! ### The chip in its system -/

theorem witness_ChipResets : ∃ h, mget ({ base with hosts := [(0, { HostPort.reset with waiting := [⟨4, false, 1, false, false, 1, 0, 0, 5, 2, [], []⟩] })] } : State).hosts 0 = some h ∧
    h.waiting = [⟨4, false, 1, false, false, 1, 0, 0, 5, 2, [], []⟩] := ⟨_, rfl, by decide⟩

/-- Slot 1 of the key store is active. -/
def keyed (state : Nat) : State := { State.reset with keys := [(0, ⟨1, 0, [4]⟩), (1, ⟨state, 9, [5]⟩)] }

theorem witness_Boots (h : ∀ k d g, Config.mldsaVerify k d g = true) :
    Config.mldsaVerify Config.bootKey (Config.sha3 (if (keyed 1).recovery then (keyed 1).staged else [1])) [2] = true ∧ 1 < 32 ∧
      (mgetD (keyed 1).keys 1 KeySlot.empty).state = 1 ∧
      Config.mldsaVerify (mgetD (keyed 1).keys 1 KeySlot.empty).key (Config.sha3 [3]) [4] = true :=
  ⟨h _ _ _, by decide, by decide +kernel, h _ _ _⟩

theorem witness_Boots_refused : (mgetD (keyed 2).keys 1 KeySlot.empty).state ≠ 1 := by decide +kernel

theorem witness_KeysChange (h : ∀ k d g, Config.mldsaVerify k d g = true) :
    (mgetD (keyed 1).keys 0 KeySlot.empty).state = 1 ∧
    Config.mldsaVerify (mgetD (keyed 1).keys 0 KeySlot.empty).key (Config.sha3 (Config.keyChange 1 9 [5] true)) [2] = true ∧
    (mgetD (keyed 1).keys 1 KeySlot.empty).state = 1 ∧ (mgetD (keyed 0).keys 1 KeySlot.empty).state = 0 ∧
    (mgetD (keyed 2).keys 1 KeySlot.empty).state = 2 ∧ (List.replicate 1952 (0 : Byte)).length = 1952 ∧
    (mgetD State.reset.keys 0 KeySlot.empty).state = 0 :=
  ⟨by decide +kernel, h _ _ _, by decide +kernel, by decide +kernel, by decide +kernel, List.length_replicate, by decide +kernel⟩

theorem witness_KeysChange_unsigned : ¬ ((mgetD State.reset.keys 0 KeySlot.empty).state = 1) := by decide +kernel

theorem witness_Attests : base.recovery = false ∧ (List.replicate 32 (0 : Byte)).length = 32 ∧ ({ base with recovery := true } : State).recovery = true := by
  decide +kernel

theorem witness_ReadyBits : (1 : Nat) < 64 ∧ (63 : Nat) < 64 ∧ (63 : Nat) ≠ 0 ∧ (63 : Nat) ≠ 31 ∧ base.recovery = false := by decide +kernel

/-- Island 4 has a floor. -/
def floored : State := { base with islands := [(4, ⟨0, 3, 0⟩)] }

theorem witness_Governor : min (min floored.cap floored.boardCap) 1900 < 1901 ∧ 31 < 32 ∧ 95 * min (min floored.cap floored.boardCap) 1900 ≤ 100 * 1805 ∧
    100 * 1804 < 95 * min (min floored.cap floored.boardCap) 1900 ∧
    (∀ n, n < 32 → (mgetD floored.islands n Island.reset).floor_ ≤ (mgetD floored.islands 4 Island.reset).floor_) ∧
    (∀ n, n < 4 → (mgetD floored.islands n Island.reset).floor_ < (mgetD floored.islands 4 Island.reset).floor_) ∧ (41 : Nat) ≠ 36 := by
  decide +kernel

theorem witness_DeviceRegisters : (1 : Word).toNat % 4 = 1 ∧ (2 : Word).toNat / 2 % 8 = 1 ∧ 1023 < 1024 ∧ 15 < 16 ∧ (3 : Word).toNat % 4 = 3 ∧
    (4 : Word).toNat / 2 % 8 = 2 ∧ (6 : Word).toNat / 2 % 8 = 3 ∧ (8 : Word).toNat / 2 % 8 = 4 := by decide +kernel

theorem witness_ErrorsAndHolds : 0x2001000000001 / 2 ^ 48 % 16 ≤ 2 ∧ offsetNamed (0x1000000000001 / 2 ^ 48 % 16) (0x1000000000001 % 2 ^ 48) = true ∧
    0x1000000000001 / 2 ^ 48 % 16 ≤ 2 ∧ 3 ≤ 0x3000000000000 / 2 ^ 48 % 16 := by decide +kernel

/-! ### Reset, fetch, encoding, whole-machine rules -/

theorem witness_ResetRegisters : isSup 0 = false ∧ isSup 8191 = false := by decide +kernel

theorem witness_EncodingAndDecodingAgree : wellFormed (.addi 5 5 801) = true ∧ isEncoded (.addi 5 5 801) = true ∧
    encodeWith 0 (.addi 5 5 801) = some 0b0_000010_00101_00101_000001100100001 ∧
    decodeWord 0b0_000010_00101_00101_000001100100001 = .ok (.addi 5 5 801) :=
  ⟨by decide +kernel, by decide +kernel, by decide +kernel, rfl⟩

/-- Core 0's turn with these words at its pc. -/
def turnAt (pc : Word) (ws : List InstrWord) : State :=
  { (base.modCore 0 (fun k => { k with pc := pc })) with
    turns := [.issue 0], mem := memWrite [] (localKey 0 (pc.toNat - 0x10000)) (bytesOf32 ws) }

theorem witness_LoneWordRuns : Claims.issues (turnAt 0x10000 [0b1_000001_00101_00110_00111_0000000001]) 0 [] ∧
    Claims.issues (turnAt 0x1fffc [0b1_000001_00101_00110_00111_0000000001]) 0 [] ∧
    Claims.wordAt (turnAt 0x10000 [0b1_000001_00101_00110_00111_0000000001]) 0 0x10000 = 0b1_000001_00101_00110_00111_0000000001 ∧
    Claims.wordAt (turnAt 0x1fffc [0b1_000001_00101_00110_00111_0000000001]) 0 0x1fffc = 0b1_000001_00101_00110_00111_0000000001 ∧
    decodeWord 0b1_000001_00101_00110_00111_0000000001 = .ok (.sub 5 6 7) := by
  unfold Claims.issues; exact ⟨by decide +kernel, by decide +kernel, by decide +kernel, by decide +kernel, rfl⟩

theorem witness_FetchFaults : Claims.issues (turnAt 0x20000 []) 0 [] ∧ Claims.issues (turnAt 0x10000 []) 0 [] ∧
    Claims.wordAt (turnAt 0x10000 []) 0 0x10000 = 0 ∧
    Claims.issues (turnAt 0x10004 [0b0_000001_00101_00110_00111_0000000001]) 0 [] ∧
    Claims.wordAt (turnAt 0x10004 [0b0_000001_00101_00110_00111_0000000001]) 0 0x10004 = 0b0_000001_00101_00110_00111_0000000001 ∧
    decodeWord 0b0_000001_00101_00110_00111_0000000001 = .ok (.sub 5 6 7) ∧ (0x10004 : Word).toNat % 8 ≠ 0 := by
  unfold Claims.issues
  exact ⟨by decide +kernel, by decide +kernel, by decide +kernel, by decide +kernel, by decide +kernel, rfl, by decide⟩

theorem witness_FetchFaults_illegal : ∀ i, decodeWord 0 ≠ .ok i := by
  intro i h; cases h

/-- The words of BEQ x5, x6 and SUB x7, x8, x9 as a pair. -/
def branchPair (f : List (Nat × Word)) : State := xs (turnAt 0x10008 [0b0_010000_00101_00110_111111111111110, 0b0_000001_00111_01000_01001_0000000001]) f

theorem witness_PairsRun : (∀ f, f ∈ [[], [(5, 1)]] → Claims.issues (branchPair f) 0 [] ∧
      encodeWith 0 (.beq 5 6 0x7ffe) = some (Claims.wordAt (branchPair f) 0 0x10008) ∧
      encodeWith 0 (.sub 7 8 9) = some (Claims.wordAt (branchPair f) 0 (0x10008 + 4)) ∧
      [5, 6, 8, 9, 7].all ((branchPair f).core 0).xFree = true) ∧
    ((branchPair []).core 0).getX 5 = ((branchPair []).core 0).getX 6 ∧
    ((branchPair [(5, 1)]).core 0).getX 5 ≠ ((branchPair [(5, 1)]).core 0).getX 6 ∧
    (branchOf (.beq 5 6 0x7ffe)).isSome = true ∧ (tableR72 (.sub 7 8 9)).isSome = true ∧ (division (.sub 7 8 9)).isNone = true ∧
    ((0x10008 : Word).toNat % 8 = 0) := by
  unfold Claims.issues; decide +kernel

/-- The words of JL +4 and SUB d, x8, x9 as a pair. -/
def callPair (d : Nat) : State :=
  turnAt 0x10008 [0b0_010111_0000000000000000000000100, 0b0_000001_00000_01000_01001_0000000001 + BitVec.ofNat 32 (2 ^ 20 * d)]

theorem witness_PairsRun_call : (∀ d : Nat, d ∈ [1, 7] → Claims.issues (callPair d) 0 [] ∧
      encodeWith 0 (.jl 4) = some (Claims.wordAt (callPair d) 0 0x10008)) ∧
    encodeWith 0 (.sub 1 8 9) = some (Claims.wordAt (callPair 1) 0 (0x10008 + 4)) ∧
    encodeWith 0 (.sub 7 8 9) = some (Claims.wordAt (callPair 7) 0 (0x10008 + 4)) ∧ [1, 8, 9, 7].all ((callPair 7).core 0).xFree = true := by
  unfold Claims.issues; decide +kernel

theorem witness_UnitsTakeTurns : (∃ s : State, s.turns = .unit (.select 0) :: []) ∧ isEncoded .chipReset = false ∧ base.turns = [] ∧
    (mget base.cores 0).isSome = true ∧ base.canIssue 0 = true :=
  ⟨⟨{ base with turns := [.unit (.select 0)] }, rfl⟩, by decide +kernel, by decide +kernel, by decide +kernel, by decide +kernel⟩

/-- Did the step go on? -/
def goesOn (o : Host.Outcome State Fault Refusal) : Bool := match o with | .next _ => true | _ => false

theorem goesOn_next (o : Host.Outcome State Fault Refusal) (h : goesOn o = true) : ∃ t, o = .next t := by
  cases o with
  | next t => exact ⟨t, rfl⟩
  | fault f => cases h
  | refused r => cases h

theorem witness_MemoryStaysCanonical : ∃ t, Memory.wf (turnAt 0x10000 [0b1_000001_00101_00110_00111_0000000001]).mem = true ∧
    step (turnAt 0x10000 [0b1_000001_00101_00110_00111_0000000001]) = .next t := by
  obtain ⟨t, h⟩ := goesOn_next (step (turnAt 0x10000 [0b1_000001_00101_00110_00111_0000000001])) (by decide +kernel)
  exact ⟨t, by decide +kernel, h⟩

theorem witness_RevokedKeysStay : ∃ t, mget (keyed 2).keys 1 = some ⟨2, 9, [5]⟩ ∧ step (keyed 2) = .next t := by
  obtain ⟨t, h⟩ := goesOn_next (step (keyed 2)) (by decide +kernel)
  exact ⟨t, by decide +kernel, h⟩

theorem witness_ScalarFrame : base.lone = true ∧ (tableR72 (.sub 5 6 7)).map (fun x => x.1) = some 5 ∧ (tableR74 (.addi 5 6 7)).map (fun x => x.1) = some 5 ∧
    (division (.div 5 6 7)).map (fun x => x.1) = some 5 ∧ (∃ j, Instr.lui 5 0x87654 = .lui 5 j) ∧
    goesOn (exec (.sub 5 6 7) base) = true ∧ goesOn (exec (.div 5 6 7) base) = true :=
  ⟨by decide +kernel, by decide +kernel, by decide +kernel, by decide +kernel, ⟨_, rfl⟩, by decide +kernel, by decide +kernel⟩

/-- The result of a MULH to x5 is pending. -/
def pends : State := after (.mulh 5 1 2) base

theorem witness_PendingRegistersStall : pends.lone = true ∧ (tableR72 (.sub 7 5 6)).map (fun x => (x.1, x.2.1, x.2.2.1)) = some (7, 5, 6) ∧
    (5 : Reg) ≠ 0 ∧ pends.me.isPending (.x 5) = true ∧ pends.me.fails = [] ∧ pends.me.waits.all (fun w => decide (w.err = .none)) = true := by
  decide +kernel

end Sys2Proof.Tests
end

section
/-!
PROOFS (O60). Results that are pending: what an operand form of the scalar instructions answers when one of its registers waits for a
result and no failed result is there to be raised (00 R11, 03 R78).
-/

namespace Sys2Proof.Machine

/-! ### One register -/

/-- None of the results that the core waits for has failed, so that the touch of a register raises nothing. -/
def Core.waitsUnfailed (k : Core) : Bool := k.waits.all (fun w => decide (w.err = .none))

theorem touch_pending {s : State} {d : Dest} (read : Bool) (hs : s.issue.snap = none) (hw : s.me.waitsUnfailed = true)
    (hp : s.me.isPending d = true) : touch d read s = .error (.stall .none) := by
  unfold touch
  rw [M.bind_ok (source_eq hs)]
  cases hf : (s.core s.cur).waits.find? (fun w => decide (w.dest = d)) with
  | some w =>
    have he : w.err = .none := of_decide_eq_true (List.all_eq_true.mp hw w (List.mem_of_find?_eq_some hf))
    simp only [he, stall_eq]
  | none =>
    have hl : s.me.pending.any (fun p => decide (p.dest = d)) = true := by
      have hn : s.me.waits.any (fun w => decide (w.dest = d)) = false := by
        rw [List.any_eq_false]; exact List.find?_eq_none.mp hf
      simpa [Core.isPending, hn] using hp
    rw [State.me] at hl
    simp only [hl, if_true, stall_eq]

/-- A register below the ports that cannot be read and written at once waits for its result. -/
theorem Core.isPending_of_not_xFree {k : Core} {r : Reg} (h24 : r.toNat < 24) (h : k.xFree r = false) :
    r ≠ 0 ∧ k.isPending (.x r.toNat) = true := by
  simpa [Core.xFree, Core.unbound, h24] using h

theorem Core.not_xFree_of_isPending {k : Core} {r : Reg} (h0 : r ≠ 0) (hp : k.isPending (.x r.toNat) = true) :
    k.xFree r = false := by
  rw [Core.xFree, hp, decide_eq_false h0]; rfl

theorem readX_pending {s : State} {r : Reg} (hs : s.issue.snap = none) (hw : s.me.waitsUnfailed = true) (h24 : r.toNat < 24)
    (h : s.me.xFree r = false) : readX r s = .error (.stall .none) := by
  obtain ⟨h0, hp⟩ := Core.isPending_of_not_xFree h24 h
  unfold readX
  rw [if_neg h0, M.bind_error (touch_pending true hs hw hp)]

theorem writeX_pending {s : State} {r : Reg} (v : Word) (hs : s.issue.snap = none) (hw : s.me.waitsUnfailed = true)
    (h24 : r.toNat < 24) (h : s.me.xFree r = false) : writeX r v s = .error (.stall .none) := by
  obtain ⟨h0, hp⟩ := Core.isPending_of_not_xFree h24 h
  unfold writeX
  rw [if_neg h0, M.bind_error (touch_pending false hs hw hp)]

/-! ### The three-register form (03 R72) -/

/-- The first register in the order a, b, d that waits stops the operation; those before it are read and change nothing. -/
theorem regOp_pending {s : State} {d a b : Reg} (f : Word → Word → Word) (hs : s.issue.snap = none)
    (hw : s.me.waitsUnfailed = true) (ha : a.toNat < 24) (hb : b.toNat < 24) (hd : d.toNat < 24)
    (h : s.xOk [a, b, d] = false) : regOp f d a b s = .error (.stall .none) := by
  unfold regOp
  cases hfa : s.me.xFree a with
  | false => rw [M.bind_error (readX_pending hs hw ha hfa)]
  | true =>
    rw [M.bind_ok (readX_free hs hfa)]
    cases hfb : s.me.xFree b with
    | false => rw [M.bind_error (readX_pending hs hw hb hfb)]
    | true =>
      rw [M.bind_ok (readX_free hs hfb)]
      have hfd : s.me.xFree d = false := by simpa [State.xOk, hfa, hfb] using h
      exact writeX_pending _ hs hw hd hfd

theorem unaryOp_eq_regOp (f : Word → Word) (d a : Reg) : unaryOp f d a = regOp (fun x _ => f x) d a 0 := rfl

/-- Every instruction of R72 is the three-register form, one with a single source as if its second were x0. -/
theorem exec_eq_regOp_of_tableR72 {i : Instr} {d a b : Reg} {f : Word → Word → Word}
    (h : Claims.tableR72 i = some (d, a, b, f)) : ∃ g, ∀ s, exec i s = issueHalf (regOp g d a b) s := by
  unfold Claims.tableR72 at h
  split at h
  -- CLZ, CTZ and POPC
  case h_21 | h_22 | h_23 => cases h; exact ⟨_, fun s => congrArg (issueHalf · s) (unaryOp_eq_regOp _ _ _)⟩
  case h_24 => cases h
  all_goals (cases h; exact ⟨_, fun _ => rfl⟩)

/-- Settles O60: the first of the instruction's registers that waits stops it, and a lone word that stalls leaves nothing behind. -/
theorem pendingRegistersStall : Obligations.PendingRegistersStall := by
  unfold Obligations.PendingRegistersStall
  intro i s d a b r f hlone htab ha hb hd hr h0 hp _ hw
  obtain ⟨g, hexec⟩ := exec_eq_regOp_of_tableR72 htab
  have hfree : s.xOk [a, b, d] = false := by
    have hnot : s.me.xFree r = false := Core.not_xFree_of_isPending h0 hp
    rw [State.xOk, List.all_eq_false]
    exact ⟨r, by simpa using hr, by simp [hnot]⟩
  have hstall := regOp_pending g (State.lone_snap hlone) hw ha hb hd hfree
  rw [hexec s, issueHalf_stop hlone hstall]
  rfl

end Sys2Proof.Machine
end

section
/-!
PROOFS (O56). A core's turn at which an earlier pair still owes its completion (01 R40): the turn belongs to that pair, and nothing is
fetched. So a statement about the word at the pc needs a core that owes nothing, which `Claims.issues` does not say.
-/

namespace Sys2Proof.Machine

/-! ### What a core's turn does -/

/-- The state in which core `c` issues, the turns `rest` still to come. -/
def State.issuing (s : State) (c : Nat) (rest : List Turn) : State := { s with turns := rest, cur := c, issue := Issue.start }

theorem step_of_owed {s : State} {c : Nat} {rest : List Turn} {after : After} (ht : s.turns = .issue c :: rest)
    (hc : s.canIssue c = true) (ho : (s.core c).owed = some after) :
    step s = .next (finishPair after (s.issuing c rest)) := by
  have hc' : (s.issuing c rest).canIssue c = true := hc
  have ho' : ((s.issuing c rest).core c).owed = some after := ho
  simp only [State.issuing] at hc' ho'
  simp only [step, ht, issueCore, hc', ho', Bool.not_true, Bool.false_eq_true, if_false, State.issuing]

/-! ### A lone word behind a pair that owes its SYNC -/

/-- `sub x5, x6, x7` as a lone word. -/
def loneSub : InstrWord := 0b1_000001_00101_00110_00111_0000000001

/-- Core 0 runs an activation without children, `sub x5, x6, x7` stands at its pc, and it owes the SYNC of the pair before. -/
def owingSync : State := (State.reset.withFetchWord 32 loneSub.toNat).modCore 0 (fun k => { k with owed := some .sync })

/-- Where core 0 goes on after a step that answers with a state. -/
def nextPc0 : Host.Outcome State Fault Refusal → Option Word
  | .next t => some (t.core 0).pc
  | _ => none

theorem issues_owingSync : Claims.issues owingSync 0 [] := by unfold Claims.issues; decide +kernel

/-- The step completes the SYNC, so the core goes on past a pair. -/
theorem nextPc0_step_owingSync : nextPc0 (step owingSync) = some 0x10008 := by
  rw [step_of_owed (after := .sync) issues_owingSync.1 (by decide +kernel) (by decide +kernel)]
  decide +kernel

/-- SUB as a lone word goes on past that word. -/
theorem nextPc0_exec_loneSub : nextPc0 (exec (.sub 5 6 7)
    { owingSync with turns := [], cur := 0, issue := { Issue.start with word := loneSub } }) = some 0x10004 := by decide +kernel

theorem not_loneWordRuns : ¬ Claims.LoneWordRuns := by
  intro h
  have hw : Claims.wordAt owingSync 0 (owingSync.core 0).pc = loneSub := by decide +kernel
  have hrun := h owingSync 0 [] (.sub 5 6 7) issues_owingSync (by decide +kernel) (by decide +kernel)
    (by rw [hw]; decide) (by rw [hw]; rfl)
  rw [hw] at hrun
  have hpc := nextPc0_step_owingSync
  rw [hrun, nextPc0_exec_loneSub] at hpc
  exact absurd hpc (by decide)

/-- Refutes O56: `Claims.issues` holds of a core that owes the SYNC of a pair before (01 R40), and its step completes that SYNC and
goes on at pc + 8, where the statement wants the lone SUB at the pc to run and go on at pc + 4. -/
theorem not_stepRunsTheDecodedWord : ¬ Obligations.StepRunsTheDecodedWord :=
  fun h => not_loneWordRuns h.1

end Sys2Proof.Machine
end
